-- ==== Sys2Proof/Word.lean ====
section
/-! DEFINITION. The numbers of the manual: bytes, angles, the station, address, zone and profile
numbers, and the tables indexed by them (00_scope.md, "Units and ranges" and "Numbering"). -/

namespace Sys2Proof

/-- One byte of a link frame (11_frame_formats.md). -/
abbrev Byte := BitVec 8

/-- A slew angle in counts; 65 536 counts a revolution, so all arithmetic on angles is modulo
65 536 (00_scope.md, "Units and ranges"). -/
abbrev Angle := BitVec 16

/-- Zone numbers 0 .. 63. -/
abbrev Zone := Fin 64

/-- Profile indices 0 .. 7. -/
abbrev ProfileIx := Fin 8

/-- Every zone, in ascending number. -/
def Zone.all : List Zone := List.finRange 64

/-- Station `n` is the crane on link CL`n` (stations are numbered 1 .. 6). -/
inductive Station where
  | s1 | s2 | s3 | s4 | s5 | s6
deriving DecidableEq, Repr

/-- The station's number, 1 .. 6. -/
def Station.number : Station → Nat
  | .s1 => 1 | .s2 => 2 | .s3 => 3 | .s4 => 4 | .s5 => 5 | .s6 => 6

/-- Every station, in ascending number. -/
def Station.all : List Station := [.s1, .s2, .s3, .s4, .s5, .s6]

/-- The station a number names, if it is 1 .. 6. -/
def Station.ofNumber? : Nat → Option Station
  | 1 => some .s1 | 2 => some .s2 | 3 => some .s3
  | 4 => some .s4 | 5 => some .s5 | 6 => some .s6
  | _ => none

/-- Anemometer addresses 1 .. 4. -/
inductive Addr where
  | a1 | a2 | a3 | a4
deriving DecidableEq, Repr

/-- The address's number, 1 .. 4. -/
def Addr.number : Addr → Nat
  | .a1 => 1 | .a2 => 2 | .a3 => 3 | .a4 => 4

/-- Every address, in ascending number. -/
def Addr.all : List Addr := [.a1, .a2, .a3, .a4]

/-- The address a number names, if it is 1 .. 4. -/
def Addr.ofNumber? : Nat → Option Addr
  | 1 => some .a1 | 2 => some .a2 | 3 => some .a3 | 4 => some .a4
  | _ => none

/-- The zone a number names, if it is 0 .. 63. -/
def Zone.ofNumber? (z : Nat) : Option Zone :=
  if h : z < 64 then some ⟨z, h⟩ else none

/-- The seven framed links: CL1 .. CL6 and SL. -/
inductive Link where
  | crane (n : Station)
  | supervisor
deriving DecidableEq, Repr

/-- One value for each station. -/
structure PerStation (α : Type) where
  s1 : α
  s2 : α
  s3 : α
  s4 : α
  s5 : α
  s6 : α
deriving DecidableEq, Repr

/-- The same value for every station. -/
def PerStation.const {α : Type} (a : α) : PerStation α := ⟨a, a, a, a, a, a⟩

/-- The value of one station. -/
def PerStation.get {α : Type} (t : PerStation α) : Station → α
  | .s1 => t.s1 | .s2 => t.s2 | .s3 => t.s3
  | .s4 => t.s4 | .s5 => t.s5 | .s6 => t.s6

/-- The table with one station's value replaced. -/
def PerStation.set {α : Type} (t : PerStation α) (n : Station) (a : α) : PerStation α :=
  match n with
  | .s1 => { t with s1 := a } | .s2 => { t with s2 := a } | .s3 => { t with s3 := a }
  | .s4 => { t with s4 := a } | .s5 => { t with s5 := a } | .s6 => { t with s6 := a }

/-- The table with every value mapped. -/
def PerStation.map {α β : Type} (f : α → β) (t : PerStation α) : PerStation β :=
  ⟨f t.s1, f t.s2, f t.s3, f t.s4, f t.s5, f t.s6⟩

/-- The table a function of the station gives. -/
def PerStation.of {α : Type} (f : Station → α) : PerStation α :=
  ⟨f .s1, f .s2, f .s3, f .s4, f .s5, f .s6⟩

/-- One value for each anemometer address. -/
structure PerAddr (α : Type) where
  a1 : α
  a2 : α
  a3 : α
  a4 : α
deriving DecidableEq, Repr

/-- The same value for every address. -/
def PerAddr.const {α : Type} (a : α) : PerAddr α := ⟨a, a, a, a⟩

/-- The value of one address. -/
def PerAddr.get {α : Type} (t : PerAddr α) : Addr → α
  | .a1 => t.a1 | .a2 => t.a2 | .a3 => t.a3 | .a4 => t.a4

/-- The table with one address's value replaced. -/
def PerAddr.set {α : Type} (t : PerAddr α) (k : Addr) (a : α) : PerAddr α :=
  match k with
  | .a1 => { t with a1 := a } | .a2 => { t with a2 := a }
  | .a3 => { t with a3 := a } | .a4 => { t with a4 := a }

/-- One value for each zone 0 .. 63. -/
structure PerZone (α : Type) where
  tab : Vector α 64
deriving DecidableEq, Repr

/-- The same value for every zone. -/
def PerZone.const {α : Type} (a : α) : PerZone α := ⟨Vector.replicate 64 a⟩

/-- The value of one zone. -/
def PerZone.get {α : Type} (t : PerZone α) (z : Zone) : α := t.tab[z.val]

/-- The table with one zone's value replaced. -/
def PerZone.set {α : Type} (t : PerZone α) (z : Zone) (a : α) : PerZone α :=
  ⟨t.tab.set z.val a⟩

/-- The table a function of the zone gives. -/
def PerZone.of {α : Type} (f : Zone → α) : PerZone α := ⟨Vector.ofFn f⟩

/-- One value for each framed link. -/
structure PerLink (α : Type) where
  crane : PerStation α
  supervisor : α
deriving DecidableEq, Repr

/-- The same value for every link. -/
def PerLink.const {α : Type} (a : α) : PerLink α := ⟨.const a, a⟩

/-- The value of one link. -/
def PerLink.get {α : Type} (t : PerLink α) : Link → α
  | .crane n => t.crane.get n
  | .supervisor => t.supervisor

/-- The table with one link's value replaced. -/
def PerLink.set {α : Type} (t : PerLink α) (l : Link) (a : α) : PerLink α :=
  match l with
  | .crane n => { t with crane := t.crane.set n a }
  | .supervisor => { t with supervisor := a }

end Sys2Proof
end

