-- ==== Sys2Proof/Syntax.lean ====
section
/-! DEFINITION. The plan records (01_the_zone_plan.md), the fields of the requests and commands as
they arrive (11_frame_formats.md), and the commands and events of spec/opcode_table.json, one
constructor of `Instr` for each row. -/

namespace Sys2Proof

/-! ### The plan (R1, R5, R6 and the table of section 1.2) -/

/-- Wind mode of a station record, in the order of R195. -/
inductive WindMode where
  | acting | advisory
deriving DecidableEq, Repr

/-- Profile source of a station record: CRANE, or FIXED with an index. -/
inductive ProfileSource where
  | crane
  | fixed (i : ProfileIx)
deriving DecidableEq, Repr

/-- One of the eight motion records of a station. -/
structure Profile where
  decel : Nat
  slewMargin : Nat
  radialMargin : Nat
  speedCap : Nat
  inUse : Bool
deriving DecidableEq, Repr

/-- One value for each wind stage above NORMAL. -/
structure PerLevel where
  caution : Nat
  hold : Nat
  shutdown : Nat
deriving DecidableEq, Repr

/-- A station record of a plan image (the table of section 1.2). -/
structure StationRec where
  enabled : Bool
  identity : Nat
  jibRadius : Nat
  vRated : Nat
  source : ProfileSource
  profiles : Vector Profile 8
  anemometers : PerAddr Bool
  gustAt : PerLevel
  meanAt : PerLevel
  hysteresis : Nat
  persistence : Nat
  dropDwell : Nat
  derateCaution : Nat
  derateHold : Nat
  mode : WindMode
  rampDown : Nat
  rampUp : Nat
  reportTimeout : Nat
  offlineDwell : Nat
  entryTimeout : Nat
  releaseDwell : Nat
  loadStart : Bool
deriving DecidableEq, Repr

/-- One member entry of a zone record: the station, its interval `lo .. hi` and its radius floor. -/
structure Member where
  station : Station
  lo : Angle
  hi : Angle
  floor : Nat
deriving DecidableEq, Repr

/-- A zone record of a plan image (R5). -/
structure ZoneRec where
  enabled : Bool
  members : List Member
deriving DecidableEq, Repr

/-- The plan-wide record (R6). -/
structure SiteRec where
  clearanceTimeout : Nat
  siteDerate : Nat
  realign : Bool
deriving DecidableEq, Repr

/-- A plan image: six station records, 64 zone records and the plan-wide record (R1). -/
structure PlanImage where
  stations : PerStation StationRec
  zones : PerZone ZoneRec
  site : SiteRec
deriving DecidableEq, Repr

/-- What the medium of the plan store holds: one image, its revision and a 32-bit check over both
(R1). -/
structure StoreContent where
  image : PlanImage
  revision : Nat
  check : BitVec 32
deriving DecidableEq, Repr

/-! ### Fields as they arrive

A field is held as the number its bytes spell, so that a yes-or-no byte above 1 or an enumeration
byte beyond its list can be refused RANGE by its owner (R195). -/

/-- A profile as STAGE_STATION carries it (R199). -/
structure WireProfile where
  decel : Nat
  slewMargin : Nat
  radialMargin : Nat
  speedCap : Nat
  inUse : Nat
deriving DecidableEq, Repr

/-- A station record as STAGE_STATION carries it, in the order of the table of section 1.2 (R199). -/
structure WireStation where
  enabled : Nat
  identity : Nat
  jibRadius : Nat
  vRated : Nat
  source : Nat
  fixedIndex : Nat
  profiles : Vector WireProfile 8
  anemometers : Nat
  gustAt : PerLevel
  meanAt : PerLevel
  hysteresis : Nat
  persistence : Nat
  dropDwell : Nat
  derateCaution : Nat
  derateHold : Nat
  mode : Nat
  rampDown : Nat
  rampUp : Nat
  reportTimeout : Nat
  offlineDwell : Nat
  entryTimeout : Nat
  releaseDwell : Nat
  loadStart : Nat
deriving DecidableEq, Repr

/-- A member entry as STAGE_ZONE carries it (R199). -/
structure WireMember where
  station : Nat
  lo : Angle
  hi : Angle
  floor : Nat
deriving DecidableEq, Repr

/-- A zone record as STAGE_ZONE carries it (R199). -/
structure WireZone where
  enabled : Nat
  members : List WireMember
deriving DecidableEq, Repr

/-- The 21 bytes of the crane BOOK layout (section 11.4). -/
structure WireBook where
  count : Nat
  zone1 : Nat
  zone2 : Nat
  zone3 : Nat
  zone4 : Nat
  mode : Nat
  start : Nat
  duration : Nat
  lead : Nat
  accept : Nat
  period : Nat
  occurrences : Nat
deriving DecidableEq, Repr

/-- What one reply slot of the wind line brought: the bits that arrived in it, in the order
received, with the value's most significant bit first (R200). -/
abbrev Slot := List Bool

/-! ### Commands and events -/

/-- The steps of the part: one constructor for each row of spec/opcode_table.json. A request of a
crane carries the station of its link; a supervisor command carries its tag (R177). -/
inductive Instr where
  /-- POWER_ON (R19): power-on or assertion of RESET. -/
  | powerOn
  /-- RESTART (R184). -/
  | restart (tag : Nat)
  /-- TICK (R147). -/
  | tick
  /-- WINDOW_CLOSE (R96). -/
  | windowClose
  /-- WIND_CYCLE_READING_END (R91), with what arrived in the four reply slots. -/
  | windCycleReadingEnd (slots : PerAddr Slot)
  /-- ECHO_WAIT_EXPIRY (R98). -/
  | echoWaitExpiry
  /-- RUN_WATCH_END (R100). -/
  | runWatchEnd
  /-- CHECKING_TIMEOUT (R102). -/
  | checkingTimeout (a : Addr)
  /-- SENSOR_SILENT (R104). -/
  | sensorSilent (a : Addr)
  /-- DROP_DWELL_EXPIRY (R120). -/
  | dropDwellExpiry (n : Station)
  /-- SSTOP_ASSERTED (R122). -/
  | sstopAsserted
  /-- SSTOP_WITHDRAWN (R123). -/
  | sstopWithdrawn
  /-- CLEARANCE_TIMER_EXPIRY (R135). -/
  | clearanceTimerExpiry (n : Station)
  /-- HELLO (R25). -/
  | hello (n : Station) (identity : Nat)
  /-- POSITION (R29), with the packed word of R196 taken apart. -/
  | position (n : Station) (angle : Angle) (radius profile : Nat) (loaded released : Bool)
  /-- HOLD (R48). -/
  | hold (n : Station) (zone : Nat)
  /-- RELEASE (R51). -/
  | release (n : Station) (zone : Nat)
  /-- WITHDRAW (R50). -/
  | withdraw (n : Station) (zone : Nat)
  /-- BOOK (R156). -/
  | book (n : Station) (fields : WireBook)
  /-- CANCEL (R169). -/
  | cancel (n : Station) (number : Nat)
  /-- EXTEND (R166). -/
  | extend (n : Station) (number : Nat) (amount : Int)
  /-- MY_ZONES (R35). -/
  | myZones (n : Station) (first : Nat)
  /-- MY_BOOKINGS (R36). -/
  | myBookings (n : Station) (first : Nat)
  /-- BAD_CHECK_FRAME (R193): the bytes from the start byte to the last check byte. -/
  | badCheckFrame (link : Link) (frame : List Byte)
  /-- BAD_KIND (R194). -/
  | badKind (link : Link) (kind : Byte) (payload : List Byte)
  /-- BAD_LENGTH (R194). -/
  | badLength (link : Link) (kind : Byte) (payload : List Byte)
  /-- WAITING_FRAME_SENT (R179): the frame being sent on the link ends. -/
  | waitingFrameSent (link : Link)
  /-- REPORT_TIMER_EXPIRY (R30). -/
  | reportTimerExpiry (n : Station)
  /-- LINK_DWELL_EXPIRY (R32). -/
  | linkDwellExpiry (n : Station)
  /-- ENTRY_TIMER_EXPIRY (R55). -/
  | entryTimerExpiry (z : Zone)
  /-- RELEASE_DWELL_EXPIRY (R57). -/
  | releaseDwellExpiry (z : Zone)
  /-- BOOKING_LEAD (R159). -/
  | bookingLead (number : Nat)
  /-- BOOKING_START (R160). -/
  | bookingStart (number : Nat)
  /-- BOOKING_REMAINING_EXPIRY (R165). -/
  | bookingRemainingExpiry (number : Nat)
  /-- ACCEPT_WINDOW_EXPIRY (R161). -/
  | acceptWindowExpiry (number : Nat)
  /-- DEFERRED_WINDOW_EXPIRY (R162). -/
  | deferredWindowExpiry (number : Nat)
  /-- TIME_MARK (R150): a pulse on TMARK, with the microseconds since the last tick taken. -/
  | timeMark (sinceTick : Nat)
  /-- AT_TIME_COMMIT_MOMENT (R11). -/
  | atTimeCommitMoment
  /-- STORE_WRITE_END (R17), with what is read back from the store. -/
  | storeWriteEnd (found : StoreContent)
  /-- STAGE_STATION (R3). -/
  | stageStation (tag number : Nat) (fields : WireStation)
  /-- STAGE_ZONE (R5). -/
  | stageZone (tag number : Nat) (fields : WireZone)
  /-- STAGE_SITE (R6). -/
  | stageSite (tag clearanceTimeout siteDerate realign : Nat)
  /-- RESTAGE (R7). -/
  | restage (tag : Nat)
  /-- COMMIT (R8): the mode byte and the target site time. -/
  | commit (tag mode target : Nat)
  /-- CANCEL_COMMIT (R14). -/
  | cancelCommit (tag : Nat)
  /-- STORE (R16). -/
  | store (tag : Nat)
  /-- FORCE_RELEASE (R66). -/
  | forceRelease (tag zone : Nat)
  /-- RECOVER (R67). -/
  | recover (tag station : Nat)
  /-- ENROL_NEXT (R97). -/
  | enrolNext (tag addr : Nat)
  /-- RUN_LINE (R99). -/
  | runLine (tag : Nat)
  /-- STOP_LINE (R111). -/
  | stopLine (tag : Nat)
  /-- START_LINE (R95). -/
  | startLine (tag : Nat)
  /-- SENSOR_RESTART (R110). -/
  | sensorRestart (tag addr : Nat)
  /-- SET_TIME (R149). -/
  | setTime (tag time : Nat)
  /-- SET_SITE_DERATE (R180). -/
  | setSiteDerate (tag value : Nat)
  /-- SET_REALIGN (R180). -/
  | setRealign (tag value : Nat)
  /-- SUPERVISOR_BOOK (R156). -/
  | supervisorBook (tag station locked : Nat) (fields : WireBook)
  /-- SUPERVISOR_CANCEL (R169). -/
  | supervisorCancel (tag number : Nat)
  /-- SUPERVISOR_EXTEND (R166). -/
  | supervisorExtend (tag number : Nat) (amount : Int)
  /-- LOCK (R170). -/
  | lock (tag number : Nat)
  /-- UNLOCK (R170). -/
  | unlock (tag number : Nat)
  /-- QUERY_STATION (R181). -/
  | queryStation (tag station : Nat)
  /-- QUERY_ZONE (R182). -/
  | queryZone (tag zone : Nat)
  /-- QUERY_BOOKINGS (R182). -/
  | queryBookings (tag first filter : Nat)
  /-- QUERY_SENSOR (R183). -/
  | querySensor (tag addr : Nat)
  /-- QUERY_TIME (R183). -/
  | queryTime (tag : Nat)
  /-- QUERY_PLAN (R183). -/
  | queryPlan (tag : Nat)
  /-- READ_RECORD (R183): the image byte, the record class byte and the number (0 for SITE). -/
  | readRecord (tag image cls number : Nat)
  /-- QUERY_ALARMS (R183). -/
  | queryAlarms (tag : Nat)
  /-- ACK_ALARM (R187): the kind's priority and the scope byte. -/
  | ackAlarm (tag priority scope : Nat)
  /-- ZERO_LENGTH_COLLECTION_END (R193). -/
  | zeroLengthCollectionEnd (link : Link)
deriving DecidableEq, Repr

end Sys2Proof
end

