-- ==== Sys2Proof/Decode.lean ====
section
/-! DEFINITION. From bytes to commands: the check of a frame (R192), the receiver (R193), the
classification of a frame taken (R194, R199) and the layouts of the requests and commands (R195, R196,
sections 11.4 and 11.6); and the command a word of spec/opcode_table.json spells, which gives no row any
bits. -/

namespace Sys2Proof

/-! ### The check of a frame (R192) -/

/-- One bit taken into the check register. -/
def crcBit (r : BitVec 16) (b : Bool) : BitVec 16 :=
  if r.msb != b then (r <<< 1) ^^^ 0x1021#16 else r <<< 1

/-- The bits of a byte, most significant first. -/
def byteBits (b : Byte) : List Bool :=
  [b.getLsbD 7, b.getLsbD 6, b.getLsbD 5, b.getLsbD 4, b.getLsbD 3, b.getLsbD 2, b.getLsbD 1,
   b.getLsbD 0]

/-- The check over a list of bytes; the register starts at all ones. -/
def crc16 (bytes : List Byte) : BitVec 16 := (bytes.flatMap byteBits).foldl crcBit 0xFFFF#16

/-- The two check bytes, most significant first. -/
def crcBytes (bytes : List Byte) : List Byte :=
  [(crc16 bytes >>> 8).setWidth 8, (crc16 bytes).setWidth 8]

/-! ### The receiver (R193) -/

/-- A frame taken as received: its kind and its payload. -/
structure Taken where
  kind : Byte
  payload : List Byte
deriving DecidableEq, Repr

/-- What follows the start byte of a frame being collected: not enough bytes yet, a length of 0 with
the bytes after it, a frame with the bytes after it, or a frame whose check differs. -/
inductive Collected where
  | more
  | zero (rest : List Byte)
  | good (f : Taken) (rest : List Byte)
  | bad
deriving DecidableEq, Repr

/-- Collect a frame from the bytes after its start byte. -/
def collect : List Byte → Collected
  | [] => .more
  | l :: bytes =>
    if l = 0 then .zero bytes
    else
      let body := bytes.take l.toNat
      let rest := bytes.drop l.toNat
      match body, rest with
      | kind :: payload, c1 :: c2 :: after =>
        if crcBytes (l :: body) = [c1, c2] then .good { kind, payload } after else .bad
      | _, _ => .more

/-- What a receiver that hunts finds in a list of bytes: the frames it takes, in order, and the bytes
collected since the start byte of a frame still being collected, if it ends so. The fuel is one more
than the number of bytes. -/
def hunt : Nat → List Byte → List Taken × Option (List Byte)
  | 0, _ => ([], none)
  | _, [] => ([], none)
  | fuel + 1, b :: bytes =>
    if b = 0xA5#8 then
      match collect bytes with
      | .more => ([], some bytes)
      | .zero rest => hunt fuel rest
      | .good f rest =>
        let r := hunt fuel rest
        (f :: r.1, r.2)
      | .bad => hunt fuel bytes
    else hunt fuel bytes

/-- A receiver goes back to hunting over the bytes given. -/
def huntAgain (bytes : List Byte) : List Taken × Option (List Byte) := hunt (bytes.length + 1) bytes

/-! ### Fields (R195) -/

/-- The number a list of bytes spells, most significant byte first. -/
def bytesValue (bytes : List Byte) : Nat := bytes.foldl (fun v b => 256 * v + b.toNat) 0

/-- The field of `w` bytes at an offset of a payload. -/
def field (p : List Byte) (offset w : Nat) : Nat := bytesValue ((p.drop offset).take w)

/-- A two-byte field in two's complement. -/
def signedField (p : List Byte) (offset : Nat) : Int := (BitVec.ofNat 16 (field p offset 2)).toInt

/-- A two-byte angle. -/
def angleField (p : List Byte) (offset : Nat) : Angle := BitVec.ofNat 16 (field p offset 2)

/-- The 21 bytes of a BOOK (section 11.4). -/
def readBook (p : List Byte) : WireBook :=
  { count := field p 0 1, zone1 := field p 1 1, zone2 := field p 2 1, zone3 := field p 3 1,
    zone4 := field p 4 1, mode := field p 5 1, start := field p 6 4, duration := field p 10 2,
    lead := field p 12 2, accept := field p 14 2, period := field p 16 4,
    occurrences := field p 20 1 }

/-- The nine bytes of a profile (R199). -/
def readWireProfile (p : List Byte) : WireProfile :=
  { decel := field p 0 2, slewMargin := field p 2 2, radialMargin := field p 4 2,
    speedCap := field p 6 2, inUse := field p 8 1 }

/-- The 117 bytes of a station record, in the order of the table of section 1.2 (R199). -/
def readWireStation (p : List Byte) : WireStation :=
  { enabled := field p 0 1, identity := field p 1 4, jibRadius := field p 5 2,
    vRated := field p 7 2, source := field p 9 1, fixedIndex := field p 10 1,
    profiles := Vector.ofFn fun i : Fin 8 => readWireProfile ((p.drop (11 + 9 * i.val)).take 9),
    anemometers := field p 83 1,
    gustAt := ⟨field p 84 2, field p 86 2, field p 88 2⟩,
    meanAt := ⟨field p 90 2, field p 92 2, field p 94 2⟩,
    hysteresis := field p 96 2, persistence := field p 98 1, dropDwell := field p 99 2,
    derateCaution := field p 101 2, derateHold := field p 103 2, mode := field p 105 1,
    rampDown := field p 106 1, rampUp := field p 107 1, reportTimeout := field p 108 2,
    offlineDwell := field p 110 2, entryTimeout := field p 112 2, releaseDwell := field p 114 2,
    loadStart := field p 116 1 }

/-- The seven bytes of a member entry (R199). -/
def readWireMember (p : List Byte) : WireMember :=
  { station := field p 0 1, lo := angleField p 1, hi := angleField p 3, floor := field p 5 2 }

/-- A zone record: the enabled flag and the list of member entries (R199). -/
def readWireZone (p : List Byte) : WireZone :=
  { enabled := field p 0 1,
    members := (List.range (field p 1 1)).map fun i => readWireMember ((p.drop (2 + 7 * i)).take 7) }

/-- A POSITION: the angle and the packed word (R196). -/
def readPosition (n : Station) (p : List Byte) : Instr :=
  let w : BitVec 16 := BitVec.ofNat 16 (field p 2 2)
  .position n (angleField p 0) (w >>> 6).toNat ((w >>> 3).toNat % 8) (w.getLsbD 2) (w.getLsbD 1)

/-! ### Classification (R194, R199) -/

/-- A request of a crane, by its kind: the payload's length and the command it spells. -/
def craneLayout (n : Station) (kind : Byte) : Option (Nat × (List Byte → Instr)) :=
  if kind = 0x01 then some (4, fun p => .hello n (field p 0 4))
  else if kind = 0x02 then some (4, readPosition n)
  else if kind = 0x03 then some (1, fun p => .hold n (field p 0 1))
  else if kind = 0x04 then some (1, fun p => .release n (field p 0 1))
  else if kind = 0x05 then some (1, fun p => .withdraw n (field p 0 1))
  else if kind = 0x06 then some (21, fun p => .book n (readBook p))
  else if kind = 0x07 then some (2, fun p => .cancel n (field p 0 2))
  else if kind = 0x08 then some (4, fun p => .extend n (field p 0 2) (signedField p 2))
  else if kind = 0x09 then some (1, fun p => .myZones n (field p 0 1))
  else if kind = 0x0A then some (2, fun p => .myBookings n (field p 0 2))
  else none

/-- A supervisor command's fields, by its code: their length, which may hang on a count byte, and the
command they spell (section 11.6). -/
def commandLayout (tag : Nat) (code : Byte) (p : List Byte) : Option (Nat × Instr) :=
  if code = 0x01 then some (118, .stageStation tag (field p 0 1) (readWireStation (p.drop 1)))
  else if code = 0x02 then
    some (3 + 7 * field p 2 1, .stageZone tag (field p 0 1) (readWireZone (p.drop 1)))
  else if code = 0x03 then
    some (5, .stageSite tag (field p 0 2) (field p 2 2) (field p 4 1))
  else if code = 0x04 then some (0, .restage tag)
  else if code = 0x05 then some (5, .commit tag (field p 0 1) (field p 1 4))
  else if code = 0x06 then some (0, .cancelCommit tag)
  else if code = 0x07 then some (0, .store tag)
  else if code = 0x10 then some (1, .forceRelease tag (field p 0 1))
  else if code = 0x11 then some (1, .recover tag (field p 0 1))
  else if code = 0x18 then some (1, .enrolNext tag (field p 0 1))
  else if code = 0x19 then some (0, .runLine tag)
  else if code = 0x1A then some (0, .stopLine tag)
  else if code = 0x1B then some (0, .startLine tag)
  else if code = 0x1C then some (1, .sensorRestart tag (field p 0 1))
  else if code = 0x20 then some (4, .setTime tag (field p 0 4))
  else if code = 0x21 then some (2, .setSiteDerate tag (field p 0 2))
  else if code = 0x22 then some (1, .setRealign tag (field p 0 1))
  else if code = 0x28 then
    some (23, .supervisorBook tag (field p 0 1) (field p 1 1) (readBook (p.drop 2)))
  else if code = 0x29 then some (2, .supervisorCancel tag (field p 0 2))
  else if code = 0x2A then some (4, .supervisorExtend tag (field p 0 2) (signedField p 2))
  else if code = 0x2B then some (2, .lock tag (field p 0 2))
  else if code = 0x2C then some (2, .unlock tag (field p 0 2))
  else if code = 0x30 then some (1, .queryStation tag (field p 0 1))
  else if code = 0x31 then some (1, .queryZone tag (field p 0 1))
  else if code = 0x32 then some (3, .queryBookings tag (field p 0 2) (field p 2 1))
  else if code = 0x33 then some (1, .querySensor tag (field p 0 1))
  else if code = 0x34 then some (0, .queryTime tag)
  else if code = 0x35 then some (0, .queryPlan tag)
  else if code = 0x36 then
    some (if field p 1 1 = 2 then 2 else 3,
      .readRecord tag (field p 0 1) (field p 1 1) (if field p 1 1 = 2 then 0 else field p 2 1))
  else if code = 0x37 then some (0, .queryAlarms tag)
  else if code = 0x38 then some (2, .ackAlarm tag (field p 0 1) (field p 1 1))
  else if code = 0x3F then some (0, .restart tag)
  else none

/-- A frame taken on a crane link. -/
def classifyCrane (n : Station) (f : Taken) : Instr :=
  match craneLayout n f.kind with
  | none => .badKind (.crane n) f.kind f.payload
  | some (w, spell) =>
    if f.payload.length = w then spell f.payload else .badLength (.crane n) f.kind f.payload

/-- A frame taken on SL: kind 40 with a header of tag and code. -/
def classifySupervisor (f : Taken) : Instr :=
  if f.kind = 0x40 then
    match f.payload with
    | tag :: code :: p =>
      match commandLayout tag.toNat code p with
      | none => .badKind .supervisor f.kind f.payload
      | some (w, i) => if p.length = w then i else .badLength .supervisor f.kind f.payload
    | _ => .badLength .supervisor f.kind f.payload
  else .badKind .supervisor f.kind f.payload

/-- The command a frame taken on a link stands for. -/
def classify (l : Link) (f : Taken) : Instr :=
  match l with
  | .crane n => classifyCrane n f
  | .supervisor => classifySupervisor f

/-! ### Words of the table -/

/-- The command a word spells by the bits of spec/opcode_table.json. The table gives no row any bits, so
no word spells a command. -/
def decodeTableWord (_nbits _w : Nat) : Option Instr := none

end Sys2Proof
end

