-- ==== Sys2Proof/Config.lean ====
section
/-! DEFINITION. What the manual leaves to the implementation or to chance: uninterpreted constants,
of which nothing can be proved but that they are what they are. -/

namespace Sys2Proof

/-- The 32-bit check of the plan store over an image and its revision (R1). The manual names its
width and no computation: log entry 3. -/
opaque Config.storeCheck : PlanImage → Nat → BitVec 32

/-- The `k`-th choice the manual leaves to chance: an order in which two blocks, or several stations,
take one event (R12, R124, R152): log entry 4. `Machine.State.choices` counts how many are used. -/
opaque Config.freeChoice : Nat → Nat

end Sys2Proof
end

