-- ==== Sys2Proof/Machine/Types.lean ====
section
/-! DEFINITION. The pieces the state is made of, block by block (R1, R22, R42, R47, R72, R90, R114,
R130, R146, R154, R185), and the frames the part sends (R33 .. R36, R172, R181 .. R183, R188,
R194 .. R198). -/

namespace Sys2Proof.Machine

/-! ### Timers -/

/-- A timer of the part. `due` stands between the event that brings the count to 0 and the step in
which the expiry is taken (log entry 1). -/
inductive Timer where
  | stopped
  | running (left : Nat)
  | due
deriving DecidableEq, Repr

/-! ### The Plan Unit (R1) -/

/-- The pending-commit record: absent, AT_MARK, or AT_TIME with its target. `due` says that the
second boundary that reaches the target has been taken by the clock and the moment (R11) has not. -/
inductive PendingCommit where
  | absent
  | atMark
  | atTime (target : Nat) (due : Bool)
deriving DecidableEq, Repr

/-- The store state: IDLE, or WRITING from a snapshot of the live plan and its revision (R16). -/
inductive StoreState where
  | idle
  | writing (image : PlanImage) (revision : Nat)
deriving DecidableEq, Repr

/-- The non-volatile plan store: its content and its write-in-progress marker (R1). -/
structure PlanStore where
  content : StoreContent
  marker : Bool
deriving DecidableEq, Repr

/-- What the Plan Unit holds (R1), with the COMMIT_FAILED and STORE_FAILED conditions (R15, R17). -/
structure PlanUnit where
  live : PlanImage
  staged : PlanImage
  revision : Nat
  pendingCommit : PendingCommit
  store : PlanStore
  storeState : StoreState
  invalid : Bool
  commitFailed : Bool
  storeFailed : Bool
deriving DecidableEq, Repr

/-! ### The Station Unit (R22) -/

/-- Link state. -/
inductive LinkState where
  | offline | joining | online | stale
deriving DecidableEq, Repr

/-- The last position. `released` is the slew-brake state RELEASED. -/
structure Position where
  angle : Angle
  radius : Nat
  loaded : Bool
  released : Bool
deriving DecidableEq, Repr

/-- Booking outcomes with their reasons (R171). -/
inductive Ending where
  | done
  | lapsedNoLoad | lapsedDeferred | lapsedBlocked
  | abortedWind | abortedClearance
  | cancelledRequest | cancelledPlan | cancelledNoSlot
deriving DecidableEq, Repr

/-- The last ended booking (R38). -/
structure LastEnded where
  number : Nat
  ending : Ending
deriving DecidableEq, Repr

/-- The Station Unit's fields of one station context (R22). -/
structure StationCtx where
  link : LinkState
  position : Option Position
  rise : Option Bool
  profile : Option ProfileIx
  profileHeld : Bool
  reportTimer : Timer
  linkDwell : Timer
  mp : Bool
  lastEnded : Option LastEnded
deriving DecidableEq, Repr

/-! ### The Zone Arbiter (R42, R47) -/

/-- Grant kind. -/
inductive GrantKind where
  | ordinary | booked
deriving DecidableEq, Repr

/-- Holder, grant kind and seen inside, which are present together (R42). -/
structure Holding where
  station : Station
  kind : GrantKind
  seen : Bool
deriving DecidableEq, Repr

/-- The dynamic record of an enabled zone (R42). -/
structure ZoneDyn where
  hold : Option Holding
  entry : Timer
  dwell : Timer
  waiting : List Station
  reservation : Option Nat
  swept : PerStation Bool
deriving DecidableEq, Repr

/-- A new dynamic record: FREE, timers stopped, nothing waiting, reserved or swept (R69, R71). -/
def ZoneDyn.fresh : ZoneDyn :=
  { hold := none, entry := .stopped, dwell := .stopped, waiting := [], reservation := none,
    swept := .const false }

/-- The Zone Arbiter's fields of one station context (R47). -/
structure ArbiterCtx where
  intrusion : Bool
  recovery : Bool
  conflict : Bool
deriving DecidableEq, Repr

/-! ### The Limit Unit (R72) -/

/-- The four figures copied from a profile into the profile in effect. -/
structure Figures where
  decel : Nat
  slewMargin : Nat
  radialMargin : Nat
  speedCap : Nat
deriving DecidableEq, Repr

/-- The Limit Unit's fields of one station (R72). -/
structure LimitCtx where
  vWind : Nat
  inEffect : Option Figures
  gapCw : Nat
  gapCcw : Nat
  cw : Nat
  ccw : Nat
  radius : Nat
deriving DecidableEq, Repr

/-! ### The Wind Line Controller (R90) -/

/-- Line state. -/
inductive LineState where
  | off | enrolling | running
deriving DecidableEq, Repr

/-- A command of the command list (R90, R94). -/
inductive LineCommand where
  | assign (a : Addr)
  | run
  | runTo (a : Addr)
deriving DecidableEq, Repr

/-- The line record (R90). The echo wait's timer counts the ordinary cycles left. -/
structure LineRec where
  state : LineState
  windowCount : Nat
  windowOpen : Bool
  enrolHeld : Bool
  echoWait : Option (Addr × Timer)
  commands : List LineCommand
  runWatch : Option Nat
deriving DecidableEq, Repr

/-- Start phase of a STARTING record. -/
inductive StartPhase where
  | awaitingCommand | identity | checking | firstSpeed
deriving DecidableEq, Repr

/-- Sensor state; the start phase is present only in STARTING. -/
inductive SensorState where
  | absent | assigned
  | starting (phase : StartPhase)
  | running | fault | failed
deriving DecidableEq, Repr

/-- A sensor record (R90). Gust and mean are none together, so they are one pair. -/
structure SensorRec where
  state : SensorState
  identity : List (BitVec 10)
  attempts : Nat
  attemptCycles : Nat
  readyRun : Nat
  missRun : Nat
  goodRun : Nat
  history : List Nat
  figures : Option (Nat × Nat)
deriving DecidableEq, Repr

/-- An ABSENT record with an empty identity and history and all counts 0 (R95). -/
def SensorRec.blank : SensorRec :=
  { state := .absent, identity := [], attempts := 0, attemptCycles := 0, readyRun := 0,
    missRun := 0, goodRun := 0, history := [], figures := none }

/-- What the part puts on the wind line in a cycle (R91, R94): nothing, a sync pulse, or a start pattern
of consecutive pulses followed by the bits of a command word. An ABANDONED cycle was cut off by a
re-phase before its reading ended (R148). -/
inductive CycleKind where
  | unpowered
  | abandoned
  | ordinary
  | command (pulses : Nat) (word : List Bool)
deriving DecidableEq, Repr

/-- The wind cycle whose hand-over has not been made yet: its kind and the ticks taken since its
start. The reading ends at the fourth (R147). At 5 the cycle is over, and the start of the next one
waits for the hand-over (log entry 5). -/
structure WindCycle where
  kind : CycleKind
  age : Nat
deriving DecidableEq, Repr

/-! ### The Wind Stage Unit (R114) -/

/-- Wind stage. -/
inductive Stage where
  | normal | caution | hold | shutdown
deriving DecidableEq, Repr

/-- The Wind Stage Unit's fields of one station (R114). `figures` are gust and mean; `dropDue` says
that a second boundary found the drop dwell elapsed and the fall (R120) has not been taken yet. -/
structure WindCtx where
  stage : Stage
  figures : Option (Nat × Nat)
  lost : Bool
  raise : Nat
  dropStart : Option Nat
  dropDue : Bool
deriving DecidableEq, Repr

/-! ### The Shutdown Unit (R130) -/

/-- Vane state. -/
inductive Vane where
  | braked | clearing | clear | vaning
deriving DecidableEq, Repr

/-- The Shutdown Unit's fields of one station (R130). -/
structure VaneCtx where
  vane : Vane
  timer : Timer
  vc : Bool
  unsafeLatched : Bool
  overdue : Bool
  lastReleased : Bool
deriving DecidableEq, Repr

/-! ### The Site Clock (R146) -/

/-- The Site Clock's fields. `lastSlip` is the tick phase of the slipped mark and the site time. -/
structure Clock where
  time : Nat
  timeSet : Bool
  phase : Nat
  realign : Bool
  slip : Bool
  lastSlip : Option (Nat × Nat)
deriving DecidableEq, Repr

/-! ### The Booking Engine (R154) -/

/-- The window of a booking in BLOCKED or ACTIVE: its end, the remaining seconds, the pending
extension and the zones passed. `due` says that the clock has taken the boundary at which the
remaining reaches 0 and the end (R165) has not been taken yet. -/
structure Window where
  ends : Nat
  remaining : Nat
  extension : Option Int
  passed : List Zone
  due : Bool
deriving DecidableEq, Repr

/-- Booking state, with the fields R154 gives only in some states. -/
inductive BookingState where
  | pending | lead | armed
  | deferred (windowEnd : Nat)
  | blocked (w : Window)
  | active (w : Window)
deriving DecidableEq, Repr

/-- Booking mode, with the fields R154 gives only for some modes. `left` is none for unlimited. -/
inductive BookingMode where
  | timed
  | onLoad (accept : Nat)
  | repeating (period : Nat) (left : Option Nat) (skipRun : Nat)
deriving DecidableEq, Repr

/-- A booking (R154). -/
structure Booking where
  number : Nat
  station : Station
  zones : List Zone
  mode : BookingMode
  start : Nat
  duration : Nat
  lead : Nat
  locked : Bool
  state : BookingState
deriving DecidableEq, Repr

/-- The series field of a booking's end (R172). -/
inductive Series where
  | notRepeat
  | continues (start : Nat)
  | ended
deriving DecidableEq, Repr

/-! ### The Alarm Unit (R185) -/

/-- Alarm kinds, in order of priority. -/
inductive AlarmKind where
  | planInvalid | siteStop | unsafeVane | intrusion | conflict | clearanceOverdue | windLost
  | linkStale | sensorFailed | sensorFault | timeSlip | storeFailed | commitFailed
deriving DecidableEq, Repr

/-- State of an alarm entry. -/
inductive EntryState where
  | clear | active | latched
deriving DecidableEq, Repr

/-- An alarm entry (R185). -/
structure Entry where
  state : EntryState
  ack : Bool
deriving DecidableEq, Repr

/-- CLEAR with its acknowledged flag no. -/
def Entry.cleared : Entry := ⟨.clear, false⟩

/-- The alarm table of 49 entries: 5 of the site, 6 of each station, 2 of each address (R185). -/
structure AlarmTable where
  planInvalid : Entry
  siteStop : Entry
  timeSlip : Entry
  storeFailed : Entry
  commitFailed : Entry
  unsafeVane : PerStation Entry
  intrusion : PerStation Entry
  conflict : PerStation Entry
  clearanceOverdue : PerStation Entry
  windLost : PerStation Entry
  linkStale : PerStation Entry
  sensorFailed : PerAddr Entry
  sensorFault : PerAddr Entry
deriving DecidableEq, Repr

/-- The name of an entry: its kind together with its station or address (R185). -/
inductive AlarmId where
  | planInvalid | siteStop | timeSlip | storeFailed | commitFailed
  | unsafeVane (n : Station) | intrusion (n : Station) | conflict (n : Station)
  | clearanceOverdue (n : Station) | windLost (n : Station) | linkStale (n : Station)
  | sensorFailed (a : Addr) | sensorFault (a : Addr)
deriving DecidableEq, Repr

/-! ### The frames the part sends -/

/-- Answer codes (section 11.8). -/
inductive Code where
  | ok | granted | held | queued | partialRecovery
  | badKind | badLength | range | notJoined | noPlan | disabled | wrongCrane | noZone | notMember
  | wind | latched | swept | reserved | notHolder | notQueued | inside | booked | notHeld
  | notLatched | busy | invalid | inUse | notPending | timeUnset | late | full | loadStart
  | overlap | noBooking | notOwner | locked | notInWindow | lineState | closed | noSensor | noAlarm
deriving DecidableEq, Repr

/-- Revoke reasons (R34). -/
inductive RevokeReason where
  | entryTimeout | forced
deriving DecidableEq, Repr

/-- Notices to a crane (R34, R198). -/
inductive Notice where
  | grant (z : Zone) (kind : GrantKind)
  | revoke (z : Zone) (reason : RevokeReason)
  | clearRequest (z : Zone) (requester : Station)
  | bookingEnded (number : Nat) (ending : Ending) (series : Series)
  | wind (new previous : Stage)
deriving DecidableEq, Repr

/-- An alert (R188). -/
structure Alert where
  entry : AlarmId
  time : Nat
  phase : Nat
deriving DecidableEq, Repr

/-- The four zone fields of a position answer and of the station query, as R33 forms them. -/
structure ZoneSets where
  held : List Zone
  granted : List Zone
  clearing : List Zone
  queued : List (Zone × Nat)
deriving DecidableEq, Repr

/-- The data of a position answer (R33, R197). -/
structure PositionAnswer where
  link : LinkState
  mp : Bool
  profileHeld : Bool
  cw : Nat
  ccw : Nat
  radius : Nat
  stage : Stage
  vane : Vane
  zones : ZoneSets
  booking : Nat
  remaining : Nat
  highest : Option AlarmKind
  revision : Nat
deriving DecidableEq, Repr

/-- One entry of a MY_ZONES answer (R35). -/
structure MyZone where
  zone : Zone
  lo : Angle
  hi : Angle
  floor : Nat
  others : List Station
deriving DecidableEq, Repr

/-- The answer to QUERY_STATION (R181). -/
structure StationView where
  enabled : Bool
  ctx : StationCtx
  arb : ArbiterCtx
  zones : ZoneSets
  lim : LimitCtx
  wind : WindCtx
  vane : VaneCtx
  booking : Nat
  bookingState : Option BookingState
  highest : Option AlarmKind
deriving DecidableEq, Repr

/-- The answer to QUERY_ZONE (R182). -/
structure ZoneView where
  dyn : ZoneDyn
  reserving : Option (BookingState × Station)
  closedTo : List Station
deriving DecidableEq, Repr

/-- The answer to QUERY_SENSOR (R183): the record's history is cut to its newest 12 samples, and
`samples` is their whole number. -/
structure SensorView where
  line : LineRec
  sensor : SensorRec
  samples : Nat
deriving DecidableEq, Repr

/-- The answer to QUERY_PLAN (R183). -/
structure PlanView where
  revision : Nat
  valid : Bool
  pendingCommit : PendingCommit
  writing : Bool
  marker : Bool
  commitFailed : Bool
  storeFailed : Bool
  stations : List Station
  zones : List Zone
deriving DecidableEq, Repr

/-- A record a check failed on: a station or a zone (R8). -/
inductive RecordName where
  | station (n : Station)
  | zone (z : Zone)
deriving DecidableEq, Repr

/-- The data of an answer (section 11.8 and the rule of each request). -/
inductive Data where
  | empty
  | joined (n : Station) (revision : Nat) (wasIn : LinkState)
  | position (a : PositionAnswer)
  | holdState (seen : Bool)
  | place (position : Nat)
  | zoneSet (zones : List Zone)
  | zone (z : Zone)
  | reservedUntil (number : Nat) (lifted : Nat)
  | record (r : RecordName)
  | booking (number : Nat)
  | admitted (number : Nat) (state : BookingState) (holders : List (Option Station))
  | extended (amount : Int) (projectedEnd : Nat) (passed toCome : List Zone)
  | bookingWas (state : BookingState)
  | revision (revision : Nat)
  | station (n : Station)
  | times (before after : Nat)
  | derate (value : Nat)
  | realign (enabled : Bool)
  | restarted (revision time : Nat) (timeSet : Bool)
  | entryState (state : EntryState)
  | myZones (entries : List MyZone) (revision : Nat) (next : Option Nat)
  | myBookings (entries : List Booking) (lastEnded : Option LastEnded) (next : Nat)
  | stationView (v : StationView)
  | zoneView (v : ZoneView)
  | bookingsView (entries : List Booking) (nextNumber used next : Nat)
  | sensorView (v : SensorView)
  | timeView (c : Clock)
  | planView (v : PlanView)
  | stationRec (r : StationRec)
  | zoneRec (r : ZoneRec)
  | siteRec (r : SiteRec)
  | alarmsView (table : AlarmTable) (attn : Bool) (highest : PerStation (Option AlarmKind))
deriving DecidableEq, Repr

/-- A frame the part sends (R194, R198): an answer to a crane, with the kind of its request; an answer
on SL, with the tag and code of its command; a notice, an alert or a booking-ended report. -/
inductive Frame where
  | answer (kind : Byte) (code : Code) (data : Data)
  | answerSL (tag command : Nat) (code : Code) (data : Data)
  | notice (x : Notice)
  | alert (a : Alert)
  | report (n : Station) (number : Nat) (ending : Ending) (series : Series)
deriving DecidableEq, Repr

/-- The sending side of a link: the frame being sent, and the frames waiting, in the order raised
(R34, R179, R192). -/
structure Tx where
  sending : Option Frame
  waiting : List Frame
deriving DecidableEq, Repr

/-- The reception state of a link: hunting, or collecting with the bytes collected so far (R193). -/
inductive Rx where
  | hunting
  | collecting (bytes : List Byte)
deriving DecidableEq, Repr

/-! ### The empty plan (R20) -/

/-- A profile of the empty plan; only profile 0 is in use. -/
def emptyProfile (inUse : Bool) : Profile :=
  { decel := 100, slewMargin := 0, radialMargin := 0, speedCap := 1000, inUse := inUse }

/-- The station record of the empty plan (R20). -/
def emptyStation : StationRec :=
  { enabled := false, identity := 0, jibRadius := 500, vRated := 1000, source := .crane,
    profiles := #v[emptyProfile true, emptyProfile false, emptyProfile false, emptyProfile false,
      emptyProfile false, emptyProfile false, emptyProfile false, emptyProfile false],
    anemometers := .const false, gustAt := ⟨150, 200, 250⟩, meanAt := ⟨100, 150, 200⟩,
    hysteresis := 20, persistence := 4, dropDwell := 600, derateCaution := 250, derateHold := 500,
    mode := .acting, rampDown := 3, rampUp := 5, reportTimeout := 20, offlineDwell := 30,
    entryTimeout := 30, releaseDwell := 10, loadStart := false }

/-- The empty plan (R20). -/
def emptyPlan : PlanImage :=
  { stations := .const emptyStation, zones := .const { enabled := false, members := [] },
    site := { clearanceTimeout := 120, siteDerate := 0, realign := true } }

end Sys2Proof.Machine
end

