-- ==== Sys2Proof/Machine/State.lean ====
section
/-! DEFINITION. The state of the part, block by block, with the commands waiting to be taken, and the
state right after reset. -/

namespace Sys2Proof.Machine

/-- Faults of a step: none. The manual gives every command and event an effect and names no event at
which the part stops, so this type has no constructor. Safe: no command is turned into a stop. -/
inductive Fault where
deriving DecidableEq, Repr

/-- Refusals of a step. -/
inductive Refusal where
  /-- Raised by `exec` alone, in an arm whose command has no meaning yet. Safe: the model stops where
  the part goes on. No arm of this model raises it. -/
  | notModelled (mnemonic : String)
deriving DecidableEq, Repr

/-- The state of the part. -/
structure State where
  /-- The Plan Unit (R1). -/
  plan : PlanUnit
  /-- The Station Unit's part of each station context (R22). -/
  ctx : PerStation StationCtx
  /-- The Zone Arbiter's part of each station context (R47). -/
  arb : PerStation ArbiterCtx
  /-- The zone table: a dynamic record for each zone enabled in the live plan (R42). -/
  zones : PerZone (Option ZoneDyn)
  /-- The Limit Unit's fields of each station (R72). -/
  lim : PerStation LimitCtx
  /-- The site derate in force (R72). -/
  siteDerate : Nat
  /-- The line record (R90). -/
  line : LineRec
  /-- The four sensor records (R90). -/
  sensors : PerAddr SensorRec
  /-- The wind cycle in progress, until its reading has been handled (R91). -/
  cycle : Option WindCycle
  /-- The Wind Stage Unit's fields of each station (R114). -/
  wind : PerStation WindCtx
  /-- The site-stop state: the level of SSTOP as last taken (R114). -/
  siteStop : Bool
  /-- The level of the SSTOP pin (00_scope.md, "Signals"). -/
  sstopPin : Bool
  /-- The Shutdown Unit's fields of each station (R130). -/
  vane : PerStation VaneCtx
  /-- The Site Clock (R146). -/
  clock : Clock
  /-- The microseconds from the last tick taken to the next one: 50 000, unless a mark in step has
  restarted the interval (R147, R150). -/
  tickInterval : Nat
  /-- The booking table, in ascending number; at most 48 bookings (R154). -/
  bookings : List Booking
  /-- The next-number counter (R154). -/
  nextNumber : Nat
  /-- The alarm table (R185). -/
  alarms : AlarmTable
  /-- The ATTN output (R190). -/
  attn : Bool
  /-- The tag of the ENROL_NEXT whose answer is awaited (R178). -/
  enrolTag : Option Nat
  /-- The link whose request is being handled: on it, frames raised meanwhile are held back until the
  answer is sent (R34, R179). None between steps. -/
  handling : Option Link
  /-- The frames held back, in the order raised. Empty between steps. -/
  held : List Frame
  /-- The sending side of each link (R179, R192). -/
  tx : PerLink Tx
  /-- The reception state of each link (R193). -/
  rx : PerLink Rx
  /-- The model's own: how many of `Config.freeChoice` have been used (log entry 4). -/
  choices : Nat
  /-- The commands and events waiting to be taken, the next first. -/
  pending : List Instr
deriving DecidableEq, Repr

/-- A station context after a reset (R23). -/
def StationCtx.reset : StationCtx :=
  { link := .offline, position := none, rise := none, profile := none, profileHeld := false,
    reportTimer := .stopped, linkDwell := .stopped, mp := false, lastEnded := none }

/-- The Zone Arbiter's part of a station context after a reset (R23, R71). -/
def ArbiterCtx.reset : ArbiterCtx := { intrusion := false, recovery := false, conflict := false }

/-- The Limit Unit's fields after a reset (R89). -/
def LimitCtx.reset : LimitCtx :=
  { vWind := 0, inEffect := none, gapCw := 0, gapCcw := 0, cw := 0, ccw := 0, radius := 0 }

/-- The line record after a power-up (R95). -/
def LineRec.poweredUp : LineRec :=
  { state := .enrolling, windowCount := 0, windowOpen := true, enrolHeld := false, echoWait := none,
    commands := [], runWatch := none }

/-- The Wind Stage Unit's fields after a reset, and of a disabled station (R127, R129). -/
def WindCtx.reset : WindCtx :=
  { stage := .normal, figures := none, lost := false, raise := 0, dropStart := none,
    dropDue := false }

/-- The Shutdown Unit's fields after a reset, and of a disabled station (R143, R145). -/
def VaneCtx.reset : VaneCtx :=
  { vane := .braked, timer := .stopped, vc := false, unsafeLatched := false, overdue := false,
    lastReleased := false }

/-- The alarm table with every entry CLEAR (R191). -/
def AlarmTable.cleared : AlarmTable :=
  { planInvalid := .cleared, siteStop := .cleared, timeSlip := .cleared, storeFailed := .cleared,
    commitFailed := .cleared, unsafeVane := .const .cleared, intrusion := .const .cleared,
    conflict := .const .cleared, clearanceOverdue := .const .cleared, windLost := .const .cleared,
    linkStale := .const .cleared, sensorFailed := .const .cleared, sensorFault := .const .cleared }

/-- A sending side with nothing to send. -/
def Tx.idle : Tx := { sending := none, waiting := [] }

/-- The part after a power-on whose load has ended, over a plan store nothing has been written to:
the store is bad, so the live plan is the empty plan, PLAN_INVALID is ACTIVE and its alert is the
first frame sent (R19, R20, R191). SSTOP is withdrawn. The store's content and the level of SSTOP are
DESIGN CHOICES (log entry 2). -/
def State.reset : State :=
  { plan :=
      { live := emptyPlan, staged := emptyPlan, revision := 0, pendingCommit := .absent,
        store := { content := { image := emptyPlan, revision := 0, check := 0 }, marker := true },
        storeState := .idle, invalid := true, commitFailed := false, storeFailed := false }
    ctx := .const .reset
    arb := .const .reset
    zones := .const none
    lim := .const .reset
    siteDerate := 0
    line := .poweredUp
    sensors := .const .blank
    cycle := none
    wind := .const .reset
    siteStop := false
    sstopPin := false
    vane := .const .reset
    clock := { time := 0, timeSet := false, phase := 0, realign := true, slip := false,
               lastSlip := none }
    tickInterval := 50000
    bookings := []
    nextNumber := 1
    alarms := { AlarmTable.cleared with planInvalid := { state := .active, ack := false } }
    attn := true
    enrolTag := none
    handling := none
    held := []
    tx := { PerLink.const Tx.idle with
            supervisor := { sending := some (.alert { entry := .planInvalid, time := 0, phase := 0 })
                            waiting := [] } }
    rx := .const .hunting
    choices := 0
    pending := [] }

end Sys2Proof.Machine
end

