-- ==== Sys2Proof/Machine/Operands.lean ====
section
/-! DEFINITION. The operand forms: the fields of plan records and bookings as they arrive, their
ranges and their values (R3, R5, R6, R156, R195, R199), and a station's position against a member
entry (00_scope.md, "Inside" and "Angle intervals"). -/

namespace Sys2Proof.Machine

/-- The greatest site time, 4 294 967 295. -/
def maxTime : Nat := 4294967295

/-- `v` lies in the range `lo .. hi`, both ends included. -/
def inRange (lo v hi : Nat) : Bool := decide (lo ≤ v) && decide (v ≤ hi)

/-- To clamp an integer to `lo .. hi` (00_scope.md, "Clamping"). -/
def clampInt (lo hi v : Int) : Int := max lo (min v hi)

/-! ### Angles -/

/-- The angle lies in the interval `lo .. hi`, which wraps through 0 when `lo` is greater than `hi`. -/
def angleWithin (θ lo hi : Angle) : Bool :=
  if lo ≤ hi then decide (lo ≤ θ) && decide (θ ≤ hi) else decide (lo ≤ θ) || decide (θ ≤ hi)

/-- The width of an interval: (hi − lo) modulo 65 536, plus 1. -/
def intervalWidth (lo hi : Angle) : Nat := (hi - lo).toNat + 1

/-- The member entry of a station in a zone record. -/
def memberOf (r : ZoneRec) (n : Station) : Option Member := r.members.find? (·.station = n)

/-- A position lies within a zone by a member entry: its angle in the interval and its radius at or
above the floor. -/
def positionInside (m : Member) (p : Position) : Bool :=
  angleWithin p.angle m.lo m.hi && decide (m.floor ≤ p.radius)

/-! ### Fields as they arrive (R195) -/

/-- A yes-or-no byte is 0 or 1. -/
def yesNoOk (v : Nat) : Bool := decide (v ≤ 1)

/-- The value of a yes-or-no byte in range. -/
def yesNo (v : Nat) : Bool := v == 1

/-- The ranges of a profile (the table of section 1.2). -/
def profileOk (p : WireProfile) : Bool :=
  inRange 1 p.decel 1023 && inRange 0 p.slewMargin 4095 && inRange 0 p.radialMargin 255
    && inRange 0 p.speedCap 1000 && yesNoOk p.inUse

/-- A profile whose fields are in range. -/
def readProfile (p : WireProfile) : Profile :=
  { decel := p.decel, slewMargin := p.slewMargin, radialMargin := p.radialMargin,
    speedCap := p.speedCap, inUse := yesNo p.inUse }

/-- The three thresholds lie in 0 .. 999. -/
def levelsOk (t : PerLevel) : Bool :=
  inRange 0 t.caution 999 && inRange 0 t.hold 999 && inRange 0 t.shutdown 999

/-- The thresholds do not decrease from CAUTION to HOLD to SHUTDOWN (R3). -/
def levelsRise (t : PerLevel) : Bool :=
  decide (t.caution ≤ t.hold) && decide (t.hold ≤ t.shutdown)

/-- Every field of a station record is within the range of the table of section 1.2 (R3). The fixed
index is ignored when the source is CRANE (R199). -/
def stationFieldsOk (r : WireStation) : Bool :=
  yesNoOk r.enabled && inRange 0 r.identity 4294967295 && inRange 1 r.jibRadius 1023
    && inRange 1 r.vRated 4095 && yesNoOk r.source && (r.source == 0 || inRange 0 r.fixedIndex 7)
    && r.profiles.toList.all profileOk && inRange 0 r.anemometers 15
    && levelsOk r.gustAt && levelsOk r.meanAt && inRange 0 r.hysteresis 200
    && [1, 4, 8, 16].contains r.persistence && inRange 60 r.dropDwell 3600
    && inRange 0 r.derateCaution 1000 && inRange 0 r.derateHold 1000 && yesNoOk r.mode
    && inRange 0 r.rampDown 7 && inRange 0 r.rampUp 7 && inRange 6 r.reportTimeout 50
    && inRange 5 r.offlineDwell 120 && inRange 5 r.entryTimeout 255
    && inRange 0 r.releaseDwell 255 && yesNoOk r.loadStart

/-- A station record whose fields are in range. -/
def readStation (r : WireStation) : StationRec :=
  { enabled := yesNo r.enabled, identity := r.identity, jibRadius := r.jibRadius,
    vRated := r.vRated,
    source := if r.source = 0 then .crane else .fixed (Fin.ofNat 8 r.fixedIndex),
    profiles := Vector.ofFn fun i : Fin 8 => readProfile r.profiles[i.val],
    anemometers := ⟨r.anemometers.testBit 0, r.anemometers.testBit 1, r.anemometers.testBit 2,
      r.anemometers.testBit 3⟩,
    gustAt := r.gustAt, meanAt := r.meanAt, hysteresis := r.hysteresis,
    persistence := r.persistence, dropDwell := r.dropDwell, derateCaution := r.derateCaution,
    derateHold := r.derateHold, mode := if r.mode = 0 then .acting else .advisory,
    rampDown := r.rampDown, rampUp := r.rampUp, reportTimeout := r.reportTimeout,
    offlineDwell := r.offlineDwell, entryTimeout := r.entryTimeout,
    releaseDwell := r.releaseDwell, loadStart := yesNo r.loadStart }

/-- The profile at an index of a station record. -/
def profileAt (r : StationRec) (i : ProfileIx) : Profile := r.profiles[i.val]

/-- The checks of R3 beyond the ranges: the thresholds do not decrease, H is below both CAUTION
thresholds, a profile is in use, and a FIXED index names one in use. -/
def stationConsistent (r : StationRec) : Bool :=
  levelsRise r.gustAt && levelsRise r.meanAt && decide (r.hysteresis < r.gustAt.caution)
    && decide (r.hysteresis < r.meanAt.caution) && r.profiles.toList.any (·.inUse)
    && (match r.source with
        | .crane => true
        | .fixed i => (profileAt r i).inUse)

/-- The station record STAGE_STATION carries, if R3 accepts it. -/
def acceptStation (r : WireStation) : Option StationRec :=
  if stationFieldsOk r && stationConsistent (readStation r) then some (readStation r) else none

/-- A member entry in range: a station 1 .. 6, a floor of at most 1023 and an interval of width at
most 32 768 (R5). -/
def memberOk (m : WireMember) : Bool :=
  inRange 1 m.station 6 && inRange 0 m.floor 1023 && decide (intervalWidth m.lo m.hi ≤ 32768)

/-- The member entries in range, in the order staged. -/
def readMembers (ms : List WireMember) : List Member :=
  ms.filterMap fun m =>
    (Station.ofNumber? m.station).map fun n => { station := n, lo := m.lo, hi := m.hi, floor := m.floor }

/-- The zone record STAGE_ZONE carries, if R5 accepts it. -/
def acceptZone (r : WireZone) : Option ZoneRec :=
  if yesNoOk r.enabled && r.members.all memberOk && decide (r.members.length ≤ 4)
      && decide ((r.members.map (·.station)).Nodup)
      && (r.enabled == 0 || decide (2 ≤ r.members.length)) then
    some { enabled := yesNo r.enabled, members := readMembers r.members }
  else none

/-- The plan-wide record STAGE_SITE carries: a clearance timeout out of range is refused, and a site
derate above 1000 is clamped (R6). -/
def acceptSite (clearanceTimeout siteDerate realign : Nat) : Option SiteRec :=
  if inRange 10 clearanceTimeout 600 && yesNoOk realign then
    some { clearanceTimeout, siteDerate := min siteDerate 1000, realign := yesNo realign }
  else none

/-- The fields of a BOOK in range (R156). -/
structure BookRequest where
  zones : List Zone
  mode : BookingMode
  start : Nat
  duration : Nat
  lead : Nat
deriving DecidableEq, Repr

/-- The zone numbers a BOOK counts; entries beyond the count are ignored (section 11.4). -/
def countedZones (f : WireBook) : List Nat := [f.zone1, f.zone2, f.zone3, f.zone4].take f.count

/-- The booking mode a BOOK carries, if its byte and the fields of that mode are in range (R154). An
occurrences byte of 0 means unlimited (R196). -/
def readMode (f : WireBook) : Option BookingMode :=
  match f.mode with
  | 0 => some .timed
  | 1 => if inRange 0 f.accept 3600 then some (.onLoad f.accept) else none
  | 2 =>
    if inRange 300 f.period 86400 && inRange 0 f.occurrences 255 then
      some (.repeating f.period (if f.occurrences = 0 then none else some f.occurrences) 0)
    else none
  | _ => none

/-- The accept window of a mode: 0 unless ON_LOAD (R154). -/
def acceptOf : BookingMode → Nat
  | .onLoad w => w
  | _ => 0

/-- The RANGE check of a BOOK (R156, step 2): the request, if every field is in range, the zone list
holds 1 .. 4 zones none twice, the start is not less than the lead, and the reservation interval ends
within the site time. -/
def acceptBook (f : WireBook) : Option BookRequest :=
  match readMode f with
  | none => none
  | some mode =>
    if inRange 1 f.count 4 && (countedZones f).all (fun z => decide (z < 64))
        && decide ((countedZones f).Nodup) && inRange 60 f.duration 43200 && inRange 0 f.lead 900
        && inRange 0 f.start maxTime && decide (f.lead ≤ f.start)
        && decide (f.start + acceptOf mode + f.duration ≤ maxTime) then
      some { zones := (countedZones f).filterMap Zone.ofNumber?, mode, start := f.start,
             duration := f.duration, lead := f.lead }
    else none

end Sys2Proof.Machine
end

