-- ==== Sys2Proof/Machine/Flags.lean ====
section
/-! DEFINITION. The flags the part computes: how an alarm entry moves (R186, R187), ATTN (R190), the
highest alarm of a station (R189), the motion-permit condition (R39), and the order of the stages
(R114). -/

namespace Sys2Proof.Machine

/-! ### Alarm entries -/

/-- Latching classes (R185). -/
inductive LatchClass where
  | temporary | latching | held | sensorLatching
deriving DecidableEq, Repr

/-- The kind of an entry. -/
def AlarmId.kind : AlarmId → AlarmKind
  | .planInvalid => .planInvalid
  | .siteStop => .siteStop
  | .timeSlip => .timeSlip
  | .storeFailed => .storeFailed
  | .commitFailed => .commitFailed
  | .unsafeVane _ => .unsafeVane
  | .intrusion _ => .intrusion
  | .conflict _ => .conflict
  | .clearanceOverdue _ => .clearanceOverdue
  | .windLost _ => .windLost
  | .linkStale _ => .linkStale
  | .sensorFailed _ => .sensorFailed
  | .sensorFault _ => .sensorFault

/-- The scope byte of an entry: 0 for the site, the station, or the address (R198). -/
def AlarmId.scope : AlarmId → Nat
  | .unsafeVane n | .intrusion n | .conflict n | .clearanceOverdue n | .windLost n
  | .linkStale n => n.number
  | .sensorFailed a | .sensorFault a => a.number
  | _ => 0

/-- The priority of a kind, 1 the highest (R185). -/
def AlarmKind.priority : AlarmKind → Nat
  | .planInvalid => 1 | .siteStop => 2 | .unsafeVane => 3 | .intrusion => 4 | .conflict => 5
  | .clearanceOverdue => 6 | .windLost => 7 | .linkStale => 8 | .sensorFailed => 9
  | .sensorFault => 10 | .timeSlip => 11 | .storeFailed => 12 | .commitFailed => 13

/-- The latching class of a kind (R185). -/
def AlarmKind.latchClass : AlarmKind → LatchClass
  | .planInvalid | .intrusion => .held
  | .siteStop | .conflict | .windLost | .linkStale | .sensorFault => .temporary
  | .unsafeVane | .clearanceOverdue | .timeSlip | .storeFailed | .commitFailed => .latching
  | .sensorFailed => .sensorLatching

/-- The kinds in order of priority. -/
def AlarmKind.all : List AlarmKind :=
  [.planInvalid, .siteStop, .unsafeVane, .intrusion, .conflict, .clearanceOverdue, .windLost,
   .linkStale, .sensorFailed, .sensorFault, .timeSlip, .storeFailed, .commitFailed]

/-- The entry a kind and a scope byte name: the scope must be 0 for a site kind, a station 1 .. 6 for a
station kind, an address 1 .. 4 for a sensor kind (R187, R199). -/
def AlarmKind.entry? (k : AlarmKind) (scope : Nat) : Option AlarmId :=
  let site (i : AlarmId) : Option AlarmId := if scope = 0 then some i else none
  let station (f : Station → AlarmId) : Option AlarmId := (Station.ofNumber? scope).map f
  let sensor (f : Addr → AlarmId) : Option AlarmId := (Addr.ofNumber? scope).map f
  match k with
  | .planInvalid => site .planInvalid
  | .siteStop => site .siteStop
  | .timeSlip => site .timeSlip
  | .storeFailed => site .storeFailed
  | .commitFailed => site .commitFailed
  | .unsafeVane => station .unsafeVane
  | .intrusion => station .intrusion
  | .conflict => station .conflict
  | .clearanceOverdue => station .clearanceOverdue
  | .windLost => station .windLost
  | .linkStale => station .linkStale
  | .sensorFailed => sensor .sensorFailed
  | .sensorFault => sensor .sensorFault

/-- The kind of a priority byte (R199). -/
def AlarmKind.ofPriority? (p : Nat) : Option AlarmKind := AlarmKind.all.find? (·.priority = p)

/-- The 49 entries, in order of priority and then of scope. -/
def AlarmId.all : List AlarmId :=
  [.planInvalid, .siteStop] ++ Station.all.map .unsafeVane ++ Station.all.map .intrusion
    ++ Station.all.map .conflict ++ Station.all.map .clearanceOverdue
    ++ Station.all.map .windLost ++ Station.all.map .linkStale ++ Addr.all.map .sensorFailed
    ++ Addr.all.map .sensorFault ++ [.timeSlip, .storeFailed, .commitFailed]

/-- An entry of the table. -/
def AlarmTable.get (t : AlarmTable) : AlarmId → Entry
  | .planInvalid => t.planInvalid
  | .siteStop => t.siteStop
  | .timeSlip => t.timeSlip
  | .storeFailed => t.storeFailed
  | .commitFailed => t.commitFailed
  | .unsafeVane n => t.unsafeVane.get n
  | .intrusion n => t.intrusion.get n
  | .conflict n => t.conflict.get n
  | .clearanceOverdue n => t.clearanceOverdue.get n
  | .windLost n => t.windLost.get n
  | .linkStale n => t.linkStale.get n
  | .sensorFailed a => t.sensorFailed.get a
  | .sensorFault a => t.sensorFault.get a

/-- The table with one entry replaced. -/
def AlarmTable.set (t : AlarmTable) (i : AlarmId) (e : Entry) : AlarmTable :=
  match i with
  | .planInvalid => { t with planInvalid := e }
  | .siteStop => { t with siteStop := e }
  | .timeSlip => { t with timeSlip := e }
  | .storeFailed => { t with storeFailed := e }
  | .commitFailed => { t with commitFailed := e }
  | .unsafeVane n => { t with unsafeVane := t.unsafeVane.set n e }
  | .intrusion n => { t with intrusion := t.intrusion.set n e }
  | .conflict n => { t with conflict := t.conflict.set n e }
  | .clearanceOverdue n => { t with clearanceOverdue := t.clearanceOverdue.set n e }
  | .windLost n => { t with windLost := t.windLost.set n e }
  | .linkStale n => { t with linkStale := t.linkStale.set n e }
  | .sensorFailed a => { t with sensorFailed := t.sensorFailed.set a e }
  | .sensorFault a => { t with sensorFault := t.sensorFault.set a e }

/-- The entry after its condition begins (R186). -/
def Entry.begins (e : Entry) : Entry :=
  match e.state with
  | .active => e
  | .clear | .latched => { state := .active, ack := false }

/-- The entry after its condition ends, by its latching class (R186). -/
def Entry.ends (c : LatchClass) (e : Entry) : Entry :=
  match e.state with
  | .active =>
    match c with
    | .temporary | .held => .cleared
    | .latching => if e.ack then .cleared else { state := .latched, ack := false }
    | .sensorLatching => { e with state := .latched }
  | .clear | .latched => e

/-- The entry after an acknowledgement that is accepted (R187). -/
def Entry.acked (c : LatchClass) (e : Entry) : Entry :=
  match e.state with
  | .active => { e with ack := true }
  | .latched =>
    match c with
    | .latching => .cleared
    | .sensorLatching => { e with ack := true }
    | .temporary | .held => e
  | .clear => e

/-- The entry holds ATTN asserted: ACTIVE and not acknowledged, or LATCHED (R190). -/
def Entry.callsAttention (e : Entry) : Bool :=
  match e.state with
  | .active => !e.ack
  | .latched => true
  | .clear => false

/-- ATTN (R190). -/
def attnOf (t : AlarmTable) : Bool := AlarmId.all.any fun i => (t.get i).callsAttention

/-- An entry in ACTIVE or LATCHED. -/
def Entry.stands (e : Entry) : Bool := e.state != .clear

/-- An entry concerns a station: it is a site entry, an entry of the station, or an entry of an
address assigned to the station (R189). -/
def AlarmId.concerns (i : AlarmId) (n : Station) (assigned : PerAddr Bool) : Bool :=
  match i with
  | .planInvalid | .siteStop | .timeSlip | .storeFailed | .commitFailed => true
  | .unsafeVane m | .intrusion m | .conflict m | .clearanceOverdue m | .windLost m
  | .linkStale m => m == n
  | .sensorFailed a | .sensorFault a => assigned.get a

/-- The highest alarm of a station: the kind with the lowest priority number among the entries in
ACTIVE or LATCHED that concern it (R189). -/
def highestAlarm (t : AlarmTable) (assigned : PerAddr Bool) (n : Station) : Option AlarmKind :=
  (AlarmId.all.find? fun i => i.concerns n assigned && (t.get i).stands).map (·.kind)

/-! ### The motion permit -/

/-- The motion-permit condition of a station (R39). -/
def permitCondition (link : LinkState) (valid enabled intrusion unsafeVane conflict : Bool)
    (vWind : Nat) : Bool :=
  (link == .online) && valid && enabled && !intrusion && !unsafeVane && !conflict
    && decide (0 < vWind)

/-! ### Stages -/

/-- NORMAL lowest, then CAUTION, HOLD, SHUTDOWN (R114). -/
def Stage.rank : Stage → Nat
  | .normal => 0 | .caution => 1 | .hold => 2 | .shutdown => 3

/-- One level lower (R120). -/
def Stage.below : Stage → Stage
  | .shutdown => .hold | .hold => .caution | .caution => .normal | .normal => .normal

/-- The threshold of a level above NORMAL. -/
def levelOf (t : PerLevel) : Stage → Nat
  | .normal => 0 | .caution => t.caution | .hold => t.hold | .shutdown => t.shutdown

end Sys2Proof.Machine
end

