-- ==== Sys2Proof/Machine/Ops.lean ====
section
/-! DEFINITION. The named operations over the state: reading the plan, the zone table and the booking
table, replacing one record of each block, raising frames on the links (R34, R172, R179, R188, R192),
telling the Alarm Unit of a condition (R186), handling a request (R24, R177) and taking a choice the
manual leaves to chance. -/

namespace Sys2Proof.Machine

/-! ### Timers -/

/-- A running timer counts down by one; at 0 its expiry is due. -/
def Timer.count : Timer → Timer
  | .running n => if n ≤ 1 then .due else .running (n - 1)
  | .stopped => .stopped
  | .due => .due

/-- The remaining count of a timer, 0 for one that is stopped or due. -/
def Timer.left : Timer → Nat
  | .running n => n
  | .stopped | .due => 0

/-! ### Replacing one record -/

/-- Replace the Station Unit's fields of a station. -/
def State.setCtx (s : State) (n : Station) (c : StationCtx) : State :=
  { s with ctx := s.ctx.set n c }

/-- Replace the Zone Arbiter's fields of a station. -/
def State.setArb (s : State) (n : Station) (c : ArbiterCtx) : State :=
  { s with arb := s.arb.set n c }

/-- Replace a zone's dynamic record. -/
def State.setZone (s : State) (z : Zone) (d : Option ZoneDyn) : State :=
  { s with zones := s.zones.set z d }

/-- Replace the Limit Unit's fields of a station. -/
def State.setLim (s : State) (n : Station) (c : LimitCtx) : State :=
  { s with lim := s.lim.set n c }

/-- Replace the Wind Stage Unit's fields of a station. -/
def State.setWind (s : State) (n : Station) (c : WindCtx) : State :=
  { s with wind := s.wind.set n c }

/-- Replace the Shutdown Unit's fields of a station. -/
def State.setVane (s : State) (n : Station) (c : VaneCtx) : State :=
  { s with vane := s.vane.set n c }

/-- Replace a sensor record. -/
def State.setSensor (s : State) (a : Addr) (r : SensorRec) : State :=
  { s with sensors := s.sensors.set a r }

/-- Replace what the Plan Unit holds. -/
def State.setPlan (s : State) (p : PlanUnit) : State := { s with plan := p }

/-- Replace the line record. -/
def State.setLine (s : State) (l : LineRec) : State := { s with line := l }

/-- Replace the Site Clock's fields. -/
def State.setClock (s : State) (c : Clock) : State := { s with clock := c }

/-- Replace the booking table. -/
def State.setBookings (s : State) (bs : List Booking) : State := { s with bookings := bs }

/-- Replace the sending side of a link. -/
def State.setTx (s : State) (l : Link) (t : Tx) : State := { s with tx := s.tx.set l t }

/-- Replace the reception state of a link. -/
def State.setRx (s : State) (l : Link) (r : Rx) : State := { s with rx := s.rx.set l r }

/-- Change a zone's dynamic record, where it has one. -/
def State.modZone (s : State) (z : Zone) (f : ZoneDyn → ZoneDyn) : State :=
  match s.zones.get z with
  | some d => s.setZone z (some (f d))
  | none => s

/-! ### Reading the plan and the positions -/

/-- The live record of a station. -/
def State.station (s : State) (n : Station) : StationRec := s.plan.live.stations.get n

/-- The live record of a zone. -/
def State.zone (s : State) (z : Zone) : ZoneRec := s.plan.live.zones.get z

/-- A station's member entry in the live record of a zone. -/
def State.member (s : State) (z : Zone) (n : Station) : Option Member := memberOf (s.zone z) n

/-- The station is a member of the zone. -/
def State.isMember (s : State) (z : Zone) (n : Station) : Bool := (s.member z n).isSome

/-- The member stations of a zone, in the order of its live record. -/
def State.members (s : State) (z : Zone) : List Station := (s.zone z).members.map (·.station)

/-- The enabled zones of the live plan of which a station is a member, in ascending number. -/
def State.memberZones (s : State) (n : Station) : List Zone :=
  Zone.all.filter fun z => (s.zone z).enabled && s.isMember z n

/-- A station is inside a zone: its last position lies in its own member interval at or above its
own floor. A station whose last position is none is inside no zone (R42). -/
def State.inside (s : State) (z : Zone) (n : Station) : Bool :=
  match s.member z n, (s.ctx.get n).position with
  | some m, some p => positionInside m p
  | _, _ => false

/-! ### Reading the zone table -/

/-- What holds a zone: the holding of its dynamic record. -/
def State.holding (s : State) (z : Zone) : Option Holding := (s.zones.get z).bind (·.hold)

/-- The holder of a zone. -/
def State.holder (s : State) (z : Zone) : Option Station := (s.holding z).map (·.station)

/-- A station holds a zone, in GRANTED or HELD (R43). -/
def State.holds (s : State) (n : Station) (z : Zone) : Bool := s.holder z == some n

/-- A zone is held by a station other than the one named. -/
def State.heldByOther (s : State) (z : Zone) (n : Station) : Bool :=
  match s.holder z with
  | some h => h != n
  | none => false

/-- A swept set holds a station other than the one named. -/
def sweptByOther (swept : PerStation Bool) (n : Station) : Bool :=
  Station.all.any fun m => m != n && swept.get m

/-- A vane state that closes the station's zones to others: CLEARING or CLEAR (R46). -/
def Vane.closes : Vane → Bool
  | .clearing | .clear => true
  | .braked | .vaning => false

/-- A zone is closed to a station: its swept set holds another, or another member stands in CLEARING
or CLEAR (R46). -/
def State.closedTo (s : State) (z : Zone) (n : Station) : Bool :=
  (match s.zones.get z with
   | some d => sweptByOther d.swept n
   | none => false)
  || (s.members z).any fun m => m != n && (s.vane.get m).vane.closes

/-- The zones a station holds in HELD, in GRANTED, under clearance request, and waits for (R33). -/
def State.zoneSets (s : State) (n : Station) : ZoneSets :=
  let heldAs (seen : Bool) (z : Zone) : Bool :=
    match s.holding z with
    | some h => h.station == n && h.seen == seen
    | none => false
  { held := Zone.all.filter (heldAs true)
    granted := Zone.all.filter (heldAs false)
    clearing := Zone.all.filter fun z =>
      s.holds n z && (s.members z).any fun m => m != n && (s.vane.get m).vane == .clearing
    queued := Zone.all.filterMap fun z =>
      (s.zones.get z).bind fun d => (d.waiting.idxOf? n).map fun i => (z, i + 1) }

/-! ### Reading the booking table -/

/-- The booking with a number. -/
def State.booking? (s : State) (num : Nat) : Option Booking := s.bookings.find? (·.number = num)

/-- The window of a booking in BLOCKED or ACTIVE. -/
def Booking.window? (b : Booking) : Option Window :=
  match b.state with
  | .blocked w | .active w => some w
  | _ => none

/-- The booking is in BLOCKED or ACTIVE. -/
def Booking.inWindow (b : Booking) : Bool := b.window?.isSome

/-- A booking of the station in BLOCKED or ACTIVE names the zone. -/
def State.zoneBookedBy (s : State) (n : Station) (z : Zone) : Bool :=
  s.bookings.any fun b => b.station == n && b.inWindow && b.zones.contains z

/-- Replace the booking that has this booking's number. -/
def State.putBooking (s : State) (b : Booking) : State :=
  s.setBookings (s.bookings.map fun c => if c.number = b.number then b else c)

/-- Free the record of a booking. -/
def State.dropBooking (s : State) (num : Nat) : State :=
  s.setBookings (s.bookings.filter fun c => c.number ≠ num)

/-- Insert a booking, keeping the table in ascending number. -/
def insertBooking (b : Booking) : List Booking → List Booking
  | [] => [b]
  | c :: cs => if b.number ≤ c.number then b :: c :: cs else c :: insertBooking b cs

/-! ### Frames on the links -/

/-- A frame is sent at once when the link is idle and waits behind the others when it is not (R34,
R179). -/
def Tx.push (t : Tx) (f : Frame) : Tx :=
  match t.sending with
  | none => { t with sending := some f }
  | some _ => { t with waiting := t.waiting ++ [f] }

/-- Send frames on a link, in order. -/
def State.send (s : State) (l : Link) (fs : List Frame) : State :=
  s.setTx l (fs.foldl Tx.push (s.tx.get l))

/-- A frame is raised on a link: while a request of that link is being handled it is held back until
the answer is sent, otherwise it is sent (R34, R179). -/
def State.raise (s : State) (l : Link) (f : Frame) : State :=
  if s.handling = some l then { s with held := s.held ++ [f] } else s.send l [f]

/-- A notice to a station is raised on its link, and discarded while the station is OFFLINE (R34). -/
def State.notify (s : State) (n : Station) (x : Notice) : State :=
  if (s.ctx.get n).link = .offline then s else s.raise (.crane n) (.notice x)

/-- A request of a link is taken: what it raises on that link is held back, its answer, if it has one
now, is sent first, and then what was held back (R24, R34, R177, R179). The receiver goes back to
hunting from the byte after the frame (R193). The answer counts as sent when it is handed to the link, also
where it waits there behind another frame: the next request of the link is handled from then on, which is
the model's choice (log entry 31). -/
def State.handle (s : State) (l : Link) (work : State → State × Option Frame) : State :=
  let r := work { s.setRx l .hunting with handling := some l, held := [] }
  { r.1 with handling := none, held := [] }.send l (r.2.toList ++ r.1.held)

/-- A request of a crane, answered with a code and data; the kind is echoed (R194). -/
def State.craneRequest (s : State) (n : Station) (kind : Byte)
    (work : State → State × Code × Data) : State :=
  s.handle (.crane n) fun s =>
    let r := work s
    (r.1, some (.answer kind r.2.1 r.2.2))

/-- A crane's request other than HELLO and POSITION is refused NOT_JOINED unless the station is
ONLINE (R24). -/
def State.onlineRequest (s : State) (n : Station) (kind : Byte)
    (work : State → State × Code × Data) : State :=
  s.craneRequest n kind fun s =>
    if (s.ctx.get n).link = .online then work s else (s, .notJoined, .empty)

/-- A supervisor command, answered with its tag and code echoed (R177, R194). -/
def State.command (s : State) (tag cmd : Nat) (work : State → State × Code × Data) : State :=
  s.handle .supervisor fun s =>
    let r := work s
    (r.1, some (.answerSL tag cmd r.2.1 r.2.2))

/-! ### Alarms -/

/-- Replace an alarm entry; ATTN is re-evaluated at once (R190). -/
def State.setEntry (s : State) (i : AlarmId) (e : Entry) : State :=
  { s with alarms := s.alarms.set i e, attn := attnOf (s.alarms.set i e) }

/-- A condition begins: the entry moves, and a move from CLEAR raises an alert with the site time and
tick phase (R186, R188). -/
def State.alarmBegins (s : State) (i : AlarmId) : State :=
  let e := s.alarms.get i
  let t := s.setEntry i e.begins
  if e.state = .clear then
    t.raise .supervisor (.alert { entry := i, time := s.clock.time, phase := s.clock.phase })
  else t

/-- A condition ends: the entry moves by its latching class (R186). -/
def State.alarmEnds (s : State) (i : AlarmId) : State :=
  s.setEntry i ((s.alarms.get i).ends i.kind.latchClass)

/-- A condition is told as present or absent: its beginning or its end. -/
def State.alarmIs (s : State) (i : AlarmId) (present : Bool) : State :=
  if present then s.alarmBegins i else s.alarmEnds i

/-! ### Choices left to chance -/

/-- Take the next free choice (log entry 4). -/
def State.choose (s : State) : Nat × State :=
  (Config.freeChoice s.choices, { s with choices := s.choices + 1 })

/-- The arrangement of a list that a number picks: every order of the list is picked by some number.
The first element is the one at the number modulo the length, and so on with what is left. -/
def arrange {α : Type} : Nat → Nat → List α → List α
  | 0, _, _ => []
  | fuel + 1, k, xs =>
    match xs[k % xs.length]? with
    | some x => x :: arrange fuel (k / xs.length) (xs.eraseIdx (k % xs.length))
    | none => []

/-- The six stations in the order a number picks. -/
def stationOrder (k : Nat) : List Station := arrange 6 k Station.all

end Sys2Proof.Machine
end

