-- ==== Sys2Proof/Machine/Limit.lean ====
section
/-! DEFINITION. The Limit Unit's computation, stages A, B, C and E (R73 .. R80, R84, R85), and the
motion permit it publishes by (R39, R40). -/

namespace Sys2Proof.Machine

/-! ### Stage B arithmetic -/

/-- The integer square root, bit by bit from bit `k - 1` down: `r` grows by each bit that keeps its
square within `n`. -/
def isqrtBits : Nat → Nat → Nat → Nat
  | 0, _, r => r
  | k + 1, n, r => isqrtBits k n (if (r + 2 ^ k) * (r + 2 ^ k) ≤ n then r + 2 ^ k else r)

/-- The greatest integer whose square does not exceed the argument (00_scope.md, "Rounding"). -/
def isqrt (n : Nat) : Nat := isqrtBits (n.log2 / 2 + 1) n 0

/-! ### Stage A (R75 .. R77) -/

/-- The classes of an obstacle by the station's position against its own member entry (R75). -/
inductive ObstacleClass where
  | inside | slew | radius | apart
deriving DecidableEq, Repr

/-- The class of an obstacle (the table of R75). -/
def obstacleClass (m : Member) (p : Position) : ObstacleClass :=
  match angleWithin p.angle m.lo m.hi, decide (m.floor ≤ p.radius) with
  | true, true => .inside
  | false, true => .slew
  | true, false => .radius
  | false, false => .apart

/-- The clockwise distance to a slew obstacle, (lo − θ) modulo 65 536 (R76). -/
def clockwiseTo (p : Position) (m : Member) : Nat := (m.lo - p.angle).toNat

/-- The counter-clockwise distance to a slew obstacle, (θ − hi) modulo 65 536 (R76). -/
def counterClockwiseTo (p : Position) (m : Member) : Nat := (p.angle - m.hi).toNat

/-- The gap of a direction: none when it is open, 0 when there is an inside obstacle, and otherwise
the least distance over the slew obstacles, capped at 32 768 (R76). -/
def gapOver (obstacles : List Member) (p : Position) (distance : Position → Member → Nat) :
    Option Nat :=
  if obstacles.any (fun m => obstacleClass m p == .inside) then some 0
  else
    match (obstacles.filter fun m => obstacleClass m p == .slew).map (distance p) with
    | [] => none
    | d :: ds => some (min (ds.foldl min d) 32768)

/-- The radius limit: the least radius bound over the radius obstacles, or 1023, capped at the jib
radius (R77). -/
def radiusLimitOver (obstacles : List Member) (p : Position) (radialMargin jib : Nat) : Nat :=
  min jib (((obstacles.filter fun m => obstacleClass m p == .radius).map
    fun m => m.floor - radialMargin - 1).foldl min 1023)

/-- A zone counts as held by a station: the station is its holder and its swept set holds no other
station (R75). -/
def State.countsHeld (s : State) (z : Zone) (n : Station) : Bool :=
  s.holds n z &&
    (match s.zones.get z with
     | some d => !sweptByOther d.swept n
     | none => false)

/-- The station's own entries of its obstacles: its enabled member zones that do not count as held
by it (R75). -/
def State.obstacles (s : State) (n : Station) : List Member :=
  ((s.memberZones n).filter fun z => !s.countsHeld z n).filterMap fun z => s.member z n

/-! ### Stage B (R78) -/

/-- The gap speed of a gap. -/
def gapSpeed (vRated : Nat) (f : Figures) : Option Nat → Nat
  | none => vRated
  | some g =>
    if g ≤ f.slewMargin then 0 else min vRated (isqrt (2 * f.decel * (g - f.slewMargin)))

/-! ### Stage C (R79, R80) -/

/-- The derate of a station (R79). -/
def derateOf (siteStop : Bool) (r : StationRec) (stage : Stage) (siteDerate : Nat) : Nat :=
  if siteStop then 1000
  else
    match r.mode, stage with
    | .advisory, _ => min 1000 siteDerate
    | .acting, .normal => min 1000 siteDerate
    | .acting, .caution => min 1000 (r.derateCaution + siteDerate)
    | .acting, .hold => min 1000 (r.derateHold + siteDerate)
    | .acting, .shutdown => 1000

/-- The target speed: the floor of V_rated · (1000 − D) / 1000 (R80). R80 adds that it is 0 exactly when D is
1000, which the formula does not give for a small V_rated; the model follows the formula, which is its choice
(log entry 27). -/
def targetSpeed (vRated derate : Nat) : Nat := vRated * (1000 - derate) / 1000

/-- The target speed of a station as the fields R79 reads stand. -/
def State.target (s : State) (n : Station) : Nat :=
  targetSpeed (s.station n).vRated
    (derateOf s.siteStop (s.station n) (s.wind.get n).stage s.siteDerate)

/-! ### Stage D arithmetic (R81) -/

/-- The ticks a ramp code gives for a change of V_rated; 0 is immediate (section 4.6). -/
def rampTicks : Nat → Nat
  | 0 => 0
  | k + 1 => 20 * 2 ^ k

/-- The step of a ramp code 1 .. 7: the ceiling of V_rated divided by its ticks. -/
def rampStepSize (vRated code : Nat) : Nat := (vRated + rampTicks code - 1) / rampTicks code

/-- v_wind after one ramp step towards the target (R81). -/
def rampStep (r : StationRec) (v target : Nat) : Nat :=
  if target < v then
    if r.rampDown = 0 then target else max target (v - rampStepSize r.vRated r.rampDown)
  else if v < target then
    if r.rampUp = 0 then target else min target (v + rampStepSize r.vRated r.rampUp)
  else v

/-! ### The whole computation -/

/-- The figures of a profile. -/
def figuresOf (p : Profile) : Figures :=
  { decel := p.decel, slewMargin := p.slewMargin, radialMargin := p.radialMargin,
    speedCap := p.speedCap }

/-- The profile in effect at a computation: the profile in use, when it is in use in the live record,
and otherwise the one in effect before (R74). -/
def State.profileInEffect (s : State) (n : Station) : Option Figures :=
  match (s.ctx.get n).profile with
  | some i =>
    if (profileAt (s.station n) i).inUse then some (figuresOf (profileAt (s.station n) i))
    else (s.lim.get n).inEffect
  | none => (s.lim.get n).inEffect

/-- The slew limit of a direction: 0 while the motion permit is withdrawn, and otherwise the least of
the gap speed, v_wind and the speed cap (R84). -/
def slewLimit (mp : Bool) (gap vWind cap : Nat) : Nat :=
  if mp then min gap (min vWind cap) else 0

/-- The Limit Unit computes a station's limits in full, stages A, B and E (R73, R84), or publishes
zeros in the cases of R85. -/
def State.recompute (s : State) (n : Station) : State :=
  let r := s.station n
  let l := s.lim.get n
  if !r.enabled then
    s.setLim n { l with gapCw := 0, gapCcw := 0, cw := 0, ccw := 0, radius := 0 }
  else
    let eff := s.profileInEffect n
    match (s.vane.get n).vane, (s.ctx.get n).position, eff with
    | .vaning, _, _ | _, none, _ | _, _, none =>
      s.setLim n { l with inEffect := eff, gapCw := 0, gapCcw := 0, cw := 0, ccw := 0,
                          radius := 0 }
    | _, some p, some f =>
      let obs := s.obstacles n
      let gapCw := gapSpeed r.vRated f (gapOver obs p clockwiseTo)
      let gapCcw := gapSpeed r.vRated f (gapOver obs p counterClockwiseTo)
      let cap := r.vRated * f.speedCap / 1000
      let mp := (s.ctx.get n).mp
      s.setLim n { l with inEffect := eff, gapCw, gapCcw,
                          cw := slewLimit mp gapCw l.vWind cap,
                          ccw := slewLimit mp gapCcw l.vWind cap,
                          radius := radiusLimitOver obs p f.radialMargin r.jibRadius }

/-! ### The motion permit -/

/-- The motion-permit condition of a station over the fields of its owners (R39). -/
def State.permit (s : State) (n : Station) : Bool :=
  permitCondition (s.ctx.get n).link (!s.plan.invalid) (s.station n).enabled
    (s.arb.get n).intrusion (s.vane.get n).unsafeLatched (s.arb.get n).conflict
    (s.lim.get n).vWind

/-- The Station Unit re-evaluates MP; when the line changes, the Limit Unit is told and computes the
station's limits (R40, R73). -/
def State.reevalPermit (s : State) (n : Station) : State :=
  let c := s.ctx.get n
  if s.permit n = c.mp then s else (s.setCtx n { c with mp := s.permit n }).recompute n

end Sys2Proof.Machine
end

