-- ==== Sys2Proof/Machine/Clearance.lean ====
section
/-! DEFINITION. The clear condition of a station in CLEARING (R134), the VC line (R136), what the
Shutdown Unit does when it is told of a change of holder (R65), and the setting of v_wind with its
crossings of 0 (R81 .. R83). -/

namespace Sys2Proof.Machine

/-- Clearance overdue becomes present or absent, and the Alarm Unit is told of a change (R135). -/
def State.setOverdue (s : State) (v : Station) (present : Bool) : State :=
  let c := s.vane.get v
  if c.overdue = present then s
  else (s.setVane v { c with overdue := present }).alarmIs (.clearanceOverdue v) present

/-- The holder query names no member zone of the station held by another (R65, R134). -/
def State.zonesClearFor (s : State) (v : Station) : Bool :=
  (s.memberZones v).all fun z => !s.heldByOther z v

/-- The clear condition: v_wind is 0 and no member zone is held by another station (R134). -/
def State.clearCondition (s : State) (v : Station) : Bool :=
  decide ((s.lim.get v).vWind = 0) && s.zonesClearFor v

/-- The Shutdown Unit judges the clear condition of a station in CLEARING; when it holds the station
passes to CLEAR, its timer stops, its VC line is asserted and clearance overdue ends (R134, R136). -/
def State.judgeClear (s : State) (v : Station) : State :=
  let c := s.vane.get v
  if c.vane = .clearing ∧ s.clearCondition v = true then
    (s.setVane v { c with vane := .clear, timer := .stopped, vc := true }).setOverdue v false
  else s

/-- The VC line of a VANING station is withdrawn when a zone of which it is a member is held by
another station (R136). -/
def State.judgeSwingLine (s : State) (v : Station) (z : Zone) : State :=
  let c := s.vane.get v
  if c.vane = .vaning ∧ s.heldByOther z v = true then s.setVane v { c with vc := false } else s

/-- The Zone Arbiter tells the Shutdown Unit of a change of holder of a zone, and the Shutdown Unit
acts for each member (R65, R134, R136). -/
def State.holderTold (s : State) (z : Zone) : State :=
  (s.members z).foldl (fun s m => (s.judgeClear m).judgeSwingLine m z) s

/-- v_wind is set; a crossing of 0 is told to the Station Unit and to the Shutdown Unit, whose
judgements do not depend on each other (R83). -/
def State.setVWind (s : State) (n : Station) (v : Nat) : State :=
  let l := s.lim.get n
  let t := s.setLim n { l with vWind := v }
  if (l.vWind = 0) = (v = 0) then t else (t.reevalPermit n).judgeClear n

/-- The tick of one station at the Limit Unit: the ramp step (R81), then the limits in full (R73), for
an enabled station in ONLINE or STALE. -/
def State.limitTick (s : State) (n : Station) : State :=
  let link := (s.ctx.get n).link
  if (link = .online ∨ link = .stale) ∧ (s.station n).enabled = true then
    (s.setVWind n (rampStep (s.station n) (s.lim.get n).vWind (s.target n))).recompute n
  else s

end Sys2Proof.Machine
end

