-- ==== Sys2Proof/Machine/Arbiter.lean ====
section
/-! DEFINITION. The Zone Arbiter (03_zone_arbitration.md): intrusion, conflict and recovery, granting
and serving zones, adoption, what the Booking Engine and the Shutdown Unit ask of it, and the meanings
of HOLD, WITHDRAW, RELEASE, FORCE_RELEASE, RECOVER and the two zone timers' expiries. -/

namespace Sys2Proof.Machine

/-! ### Intrusion, conflict and recovery -/

/-- The enabled zones a station is inside and does not hold, in ascending number. -/
def State.standsUnheld (s : State) (n : Station) : List Zone :=
  (s.memberZones n).filter fun z => s.inside z n && !s.holds n z

/-- Intrusion latched is set; a latch already set stays set (R59). -/
def State.latchIntrusion (s : State) (n : Station) : State :=
  let c := s.arb.get n
  if c.intrusion then s
  else ((s.setArb n { c with intrusion := true }).alarmBegins (.intrusion n)).reevalPermit n

/-- A station holds a zone that another member is inside (R60). -/
def State.conflictNow (s : State) (h : Station) : Bool :=
  Zone.all.any fun z => s.holds h z && (s.members z).any fun m => m != h && s.inside z m

/-- Conflict is re-evaluated for a station (R60). -/
def State.reevalConflict (s : State) (h : Station) : State :=
  let c := s.arb.get h
  let now := s.conflictNow h
  if now = c.conflict then s
  else ((s.setArb h { c with conflict := now }).alarmIs (.conflict h) now).reevalPermit h

/-- While recovery is requested: when the station is inside no enabled zone it does not hold,
intrusion latched and recovery requested both clear (R68). -/
def State.recoveryTest (s : State) (n : Station) : State :=
  let c := s.arb.get n
  if c.recovery = true ∧ s.standsUnheld n = [] then
    ((s.setArb n { c with intrusion := false, recovery := false }).alarmEnds
      (.intrusion n)).reevalPermit n
  else s

/-- After a change of holder of a zone: the Shutdown Unit is told (R65) and conflict is re-evaluated
for the zone's members (R60). -/
def State.holderChanged (s : State) (z : Zone) : State :=
  ((s.members z).foldl State.reevalConflict (s.holderTold z))

/-! ### Grants -/

/-- The booking that reserves a zone. -/
def State.reserving (s : State) (z : Zone) : Option Booking :=
  ((s.zones.get z).bind (·.reservation)).bind s.booking?

/-- A zone is reserved for a station: its reserving booking belongs to it (R45). -/
def State.reservedFor (s : State) (z : Zone) (n : Station) : Bool :=
  match s.reserving z with
  | some b => b.station == n
  | none => false

/-- A zone is reserved against a station: its reserving booking belongs to another (R45). -/
def State.reservedAgainst (s : State) (z : Zone) (n : Station) : Bool :=
  match s.reserving z with
  | some b => b.station != n
  | none => false

/-- The zones passed after a zone joins them, in the order of the zone list; when they make up the
whole list a BLOCKED booking becomes ACTIVE with its window unchanged (R164). -/
def Booking.pass (b : Booking) (z : Zone) : Booking :=
  let add (w : Window) : Window :=
    { w with passed := b.zones.filter fun y => w.passed.contains y || y == z }
  match b.state with
  | .blocked w =>
    if (add w).passed = b.zones then { b with state := .active (add w) }
    else { b with state := .blocked (add w) }
  | .active w => { b with state := .active (add w) }
  | _ => b

/-- The Booking Engine is told that a zone has passed to a booking's station (R164). -/
def State.bookingPassed (s : State) (num : Nat) (z : Zone) : State :=
  match s.booking? num with
  | some b => s.putBooking (b.pass z)
  | none => s

/-- A zone becomes held by a station; it leaves the zone's wait list, and the timers are as given. -/
def ZoneDyn.give (d : ZoneDyn) (h : Holding) (entry : Timer) : ZoneDyn :=
  { d with hold := some h, entry := entry, dwell := .stopped,
           waiting := d.waiting.erase h.station }

/-- What follows every grant: the GRANT notice, the Shutdown Unit and conflict, and the recovery test
(R49, R52, R61, R68). -/
def State.granted (s : State) (z : Zone) (n : Station) (kind : GrantKind) : State :=
  ((s.notify n (.grant z kind)).holderChanged z).recoveryTest n

/-- An ordinary grant: GRANTED, ORDINARY, with the entry timer started (R49). -/
def State.grantOrdinary (s : State) (z : Zone) (n : Station) : State :=
  (s.modZone z fun d => d.give ⟨n, .ordinary, false⟩ (.running (s.station n).entryTimeout)).granted
    z n .ordinary

/-- A grant to a booking in window: GRANTED, BOOKED, both timers stopped (R52, case 1; R63). -/
def State.grantBooked (s : State) (z : Zone) (n : Station) : State :=
  (s.modZone z fun d => d.give ⟨n, .booked, false⟩ .stopped).granted z n .booked

/-- Serving a zone that has no holder (R52). -/
def State.serve (s : State) (z : Zone) : State :=
  match s.zones.get z with
  | none => s
  | some d =>
    match d.hold, d.reservation, d.waiting with
    | some _, _, _ => s
    | none, some num, _ =>
      match s.booking? num with
      | some b =>
        if b.inWindow = true ∧ s.closedTo z b.station = false then
          (s.grantBooked z b.station).bookingPassed num z
        else s
      | none => s
    | none, none, h :: _ => if s.closedTo z h then s else s.grantOrdinary z h
    | none, none, [] => s

/-- Every zone without a holder of which a station is a member is served (R53). -/
def State.serveMemberZones (s : State) (n : Station) : State :=
  (s.memberZones n).foldl State.serve s

/-- Serving at an event that concerns a station: the zone its rule names, and every zone without a holder
of which that station is a member (R53). -/
def State.serveAt (s : State) (z : Zone) (n : Station) : State := (s.serve z).serveMemberZones n

/-- A zone is open to a station: FREE, not closed to it, and unreserved or reserved for it (R61). -/
def State.openTo (s : State) (z : Zone) (n : Station) : Bool :=
  match s.zones.get z with
  | some d =>
    d.hold.isNone && !s.closedTo z n && (d.reservation.isNone || s.reservedFor z n)
  | none => false

/-- A station is made holder of an open zone it is inside: HELD, BOOKED when the zone is reserved for
a booking of it in window, which is told, and ORDINARY otherwise (R61, R67). -/
def State.adoptZone (s : State) (z : Zone) (n : Station) : State :=
  match s.reserving z with
  | some b =>
    if b.inWindow then
      ((s.modZone z fun d => d.give ⟨n, .booked, true⟩ .stopped).bookingPassed b.number z).granted
        z n .booked
    else (s.modZone z fun d => d.give ⟨n, .ordinary, true⟩ .stopped).granted z n .ordinary
  | none => (s.modZone z fun d => d.give ⟨n, .ordinary, true⟩ .stopped).granted z n .ordinary

/-- Adoption of one zone the station is inside (R61). -/
def State.adoptOne (n : Station) (s : State) (z : Zone) : State :=
  if s.holds n z then s
  else if s.openTo z n then s.adoptZone z n
  else s.latchIntrusion n

/-- Adoption: each enabled member zone the station is inside, in ascending number (R61). -/
def State.adopt (s : State) (n : Station) : State :=
  ((s.memberZones n).filter fun z => s.inside z n).foldl (State.adoptOne n) s

/-! ### Removing a holder -/

/-- The holder is removed: both timers stop and the zone is FREE (R43). -/
def ZoneDyn.free (d : ZoneDyn) : ZoneDyn :=
  { d with hold := none, entry := .stopped, dwell := .stopped }

/-- The holder of a zone is removed. -/
def State.removeHolder (s : State) (z : Zone) : State := s.modZone z ZoneDyn.free

/-! ### Wait lists (R44) -/

/-- A head placement: out of its present place, then at the head; the fourth of four is removed. -/
def headPlace (w : List Station) (n : Station) : List Station := (n :: w.erase n).take 3

/-- A station is given a head placement in a zone's wait list. -/
def State.placeAtHead (s : State) (z : Zone) (n : Station) : State :=
  s.modZone z fun d => { d with waiting := headPlace d.waiting n }

/-- A station is removed from a zone's wait list. -/
def State.unqueue (s : State) (n : Station) (z : Zone) : State :=
  s.modZone z fun d => { d with waiting := d.waiting.erase n }

/-- At station loss the station leaves every wait list, and then each of those zones without a
holder is served (R70), and every zone without a holder of which it is a member (R53). -/
def State.loseWaits (s : State) (n : Station) : State :=
  let zs := Zone.all.filter fun z =>
    match s.zones.get z with
    | some d => d.waiting.contains n
    | none => false
  (zs.foldl State.serve (zs.foldl (State.unqueue · n) s)).serveMemberZones n

/-! ### The release dwell (R56) -/

/-- The release-dwell timer of a zone held by its holder in HELD with grant kind ORDINARY, after a
judged report: stopped when the holder is inside, started at the release dwell when it is outside and
the timer is stopped. It does not apply to a holder whose release dwell is 0. -/
def judgeDwell (inside : Bool) (releaseDwell : Nat) (t : Timer) : Timer :=
  if inside then .stopped
  else if t = .stopped ∧ releaseDwell ≠ 0 then .running releaseDwell
  else t

/-! ### Requests of the Booking Engine -/

/-- The zones of a booking that has reached LEAD are reserved (R62). -/
def State.reserve (s : State) (num : Nat) (zs : List Zone) : State :=
  zs.foldl (fun s z => s.modZone z fun d => { d with reservation := some num }) s

/-- The reservations of a booking are lifted, and each of its zones without a holder is served
(R62). -/
def State.liftReservations (s : State) (zs : List Zone) : State :=
  zs.foldl State.serve
    (zs.foldl (fun s z => s.modZone z fun d => { d with reservation := none }) s)

/-- A booking opens on one of its zones (R63). -/
def State.openZone (b : Station) (s : State) (z : Zone) : State :=
  match s.holding z with
  | some h =>
    if h.station = b then
      s.modZone z fun d =>
        { d with hold := some { h with kind := .booked }, entry := .stopped, dwell := .stopped }
    else s.placeAtHead z b
  | none => if s.closedTo z b then s.placeAtHead z b else s.grantBooked z b

/-- A booking ends, with any outcome, on one of its zones (R64): a zone its station holds BOOKED becomes
ORDINARY, with the release dwell started where it is HELD and the station stands outside, and the station
leaves the zone's wait list. So it does at the end of a PENDING booking too, where another booking of the
station in window names the zone (log entry 30). -/
def State.endZone (b : Booking) (s : State) (z : Zone) : State :=
  let dwell := (s.station b.station).releaseDwell
  let outside := !s.inside z b.station
  s.modZone z fun d =>
    let d := { d with waiting := d.waiting.erase b.station }
    match d.hold with
    | some h =>
      if h.station = b.station ∧ h.kind = .booked then
        { d with hold := some { h with kind := .ordinary },
                 dwell := if h.seen ∧ dwell ≠ 0 ∧ outside then .running dwell else d.dwell }
      else d
    | none => d

/-! ### Requests of the Shutdown Unit (R65) -/

/-- A station is added to the swept set of every enabled zone of which it is a member. -/
def State.sweepAdd (s : State) (v : Station) : State :=
  (s.memberZones v).foldl
    (fun s z => s.modZone z fun d => { d with swept := d.swept.set v true }) s

/-- A station is taken out of every swept set; each of its member zones without a holder is served,
and conflict is re-evaluated for every holder of those zones. -/
def State.sweepRemove (s : State) (v : Station) : State :=
  let t := Zone.all.foldl
    (fun s z => s.modZone z fun d => { d with swept := d.swept.set v false }) s
  let t := t.serveMemberZones v
  ((t.memberZones v).filterMap t.holder).foldl State.reevalConflict t

/-! ### Judging a position report (R58) -/

/-- Entry: every zone the station holds in GRANTED and is now inside becomes HELD, and its entry timer
stops (R54). -/
def State.judgeEntry (s : State) (n : Station) : State :=
  Zone.all.foldl (fun s z =>
    if s.inside z n then
      s.modZone z fun d =>
        match d.hold with
        | some h =>
          if h.station = n ∧ h.seen = false then
            { d with hold := some { h with seen := true }, entry := .stopped }
          else d
        | none => d
    else s) s

/-- Intrusion: a station inside an enabled zone it does not hold is latched (R59). -/
def State.judgeIntrusion (s : State) (n : Station) : State :=
  if s.standsUnheld n = [] then s else s.latchIntrusion n

/-- Release dwell: every zone the station holds in HELD with grant kind ORDINARY (R56). -/
def State.judgeDwells (s : State) (n : Station) : State :=
  Zone.all.foldl (fun s z =>
    let inside := s.inside z n
    let dwell := (s.station n).releaseDwell
    s.modZone z fun d =>
      match d.hold with
      | some h =>
        if h.station = n ∧ h.seen = true ∧ h.kind = .ordinary then
          { d with dwell := judgeDwell inside dwell d.dwell }
        else d
      | none => d) s

/-- Conflict, for the station and for every station that holds a zone of which it is a member
(R58, step 5). -/
def State.judgeConflicts (s : State) (n : Station) : State :=
  (n :: (s.memberZones n).filterMap s.holder).foldl State.reevalConflict s

/-- The Zone Arbiter judges a report of a station: adoption when it completes a join, entry, intrusion
unless it completes a join or the station is VANING, release dwell and conflict, and the recovery test
after the change of its last position (R58, R68). -/
def State.judgeReport (s : State) (n : Station) (joined : Bool) : State :=
  let s := if joined then s.adopt n else s
  let s := s.judgeEntry n
  let s := if joined || (s.vane.get n).vane == .vaning then s else s.judgeIntrusion n
  let s := s.judgeDwells n
  let s := s.judgeConflicts n
  s.recoveryTest n

/-! ### Requests of a crane -/

/-- The zone a request names and its dynamic record, unless it is not 0 .. 63 or is disabled (R42). -/
def State.zone? (s : State) (zone : Nat) : Option (Zone × ZoneDyn) :=
  (Zone.ofNumber? zone).bind fun z => (s.zones.get z).map fun d => (z, d)

/-- The site second at which a booking's reservation is due to be lifted: the window end in DEFERRED,
BLOCKED and ACTIVE, and the end of its reservation interval otherwise (R48). -/
def Booking.liftsAt (b : Booking) : Nat :=
  match b.state with
  | .deferred e => e
  | .blocked w | .active w => w.ends
  | .pending | .lead | .armed => b.start + acceptOf b.mode + b.duration

/-- Cases 9 and 10 of HOLD: a FREE zone is granted, and a held one queues the station at the tail
(R48). -/
def State.holdOpen (s : State) (z : Zone) (d : ZoneDyn) (c : Station) : State × Code × Data :=
  if d.hold.isNone then (s.grantOrdinary z c, .granted, .empty)
  else
    (s.modZone z fun d => { d with waiting := d.waiting ++ [c] }, .queued,
      .place (d.waiting.length + 1))

/-- HOLD of a zone by a station (R48). -/
def State.holdZone (s : State) (c : Station) (zone : Nat) : State × Code × Data :=
  match s.zone? zone with
  | none => (s, .noZone, .empty)
  | some (z, d) =>
    if s.isMember z c = false then (s, .notMember, .zone z)
    else if (s.wind.get c).stage = .shutdown then (s, .wind, .empty)
    else if (s.arb.get c).intrusion = true ∨ (s.vane.get c).unsafeLatched = true then
      (s, .latched, .empty)
    else if s.holds c z = true then (s, .held, .holdState (d.hold.any (·.seen)))
    else
      match d.waiting.idxOf? c with
      | some i => (s, .queued, .place (i + 1))
      | none =>
        if s.closedTo z c = true then (s, .swept, .empty)
        else
          match s.reserving z with
          | some b =>
            if b.station ≠ c then (s, .reserved, .reservedUntil b.number b.liftsAt)
            else s.holdOpen z d c
          | none => s.holdOpen z d c

/-- WITHDRAW of a station from a zone's wait list (R50). -/
def State.withdrawZone (s : State) (c : Station) (zone : Nat) : State × Code × Data :=
  match s.zone? zone with
  | none => (s, .noZone, .empty)
  | some (z, d) =>
    if d.waiting.contains c then ((s.unqueue c z).serveAt z c, .ok, .empty)
    else (s, .notQueued, .empty)

/-- RELEASE of a zone by a station (R51). -/
def State.releaseZone (s : State) (c : Station) (zone : Nat) : State × Code × Data :=
  match s.zone? zone with
  | none => (s, .noZone, .empty)
  | some (z, _) =>
    if s.holds c z = false then (s, .notHolder, .empty)
    else if s.inside z c = true then (s, .inside, .empty)
    else if s.zoneBookedBy c z = true then (s, .booked, .empty)
    else (((s.removeHolder z).serveAt z c).holderChanged z, .ok, .empty)

/-- HOLD (R48); NOT_JOINED unless the station is ONLINE (R24). -/
def execHold (n : Station) (zone : Nat) (s : State) : Host.Outcome State Fault Refusal :=
  .next (s.onlineRequest n 0x03 fun s => s.holdZone n zone)

/-- RELEASE (R51). -/
def execRelease (n : Station) (zone : Nat) (s : State) : Host.Outcome State Fault Refusal :=
  .next (s.onlineRequest n 0x04 fun s => s.releaseZone n zone)

/-- WITHDRAW (R50). -/
def execWithdraw (n : Station) (zone : Nat) (s : State) : Host.Outcome State Fault Refusal :=
  .next (s.onlineRequest n 0x05 fun s => s.withdrawZone n zone)

/-! ### Requests of the supervisor -/

/-- FORCE_RELEASE of a zone (R66). -/
def State.forceRelease (s : State) (zone : Nat) : State × Code × Data :=
  match s.zone? zone with
  | none => (s, .noZone, .empty)
  | some (z, d) =>
    match d.hold with
    | none => (s, .notHeld, .empty)
    | some h =>
      if s.zoneBookedBy h.station z = true then (s, .booked, .empty)
      else
        ((((s.removeHolder z).notify h.station (.revoke z .forced)).holderChanged z).serveAt z
          h.station, .ok, .station h.station)

/-- RECOVER at one zone the station is inside and does not hold (R67). -/
def State.recoverZone (n : Station) (s : State) (z : Zone) : State :=
  if s.openTo z n then s.adoptZone z n else s.placeAtHead z n

/-- RECOVER of a station (R67). -/
def State.recoverStation (s : State) (number : Nat) : State × Code × Data :=
  match Station.ofNumber? number with
  | none => (s, .range, .empty)
  | some n =>
    if (s.arb.get n).intrusion = false then (s, .notLatched, .empty)
    else
      let t := (s.standsUnheld n).foldl (State.recoverZone n) s
      let t := (t.setArb n { t.arb.get n with recovery := true }).recoveryTest n
      match t.standsUnheld n with
      | [] => (t, .ok, .empty)
      | zs => (t, .partialRecovery, .zoneSet zs)

/-- FORCE_RELEASE (R66). -/
def execForceRelease (tag zone : Nat) (s : State) : Host.Outcome State Fault Refusal :=
  .next (s.command tag 0x10 fun s => s.forceRelease zone)

/-- RECOVER (R67). -/
def execRecover (tag station : Nat) (s : State) : Host.Outcome State Fault Refusal :=
  .next (s.command tag 0x11 fun s => s.recoverStation station)

/-! ### Expiries -/

/-- The expiry of a zone's entry timer, when it is due: the holder is removed, told REVOKE with reason
ENTRY_TIMEOUT, and the zone is served (R55). -/
def State.expireEntry (s : State) (z : Zone) : State :=
  match s.zones.get z with
  | some d =>
    match d.entry, d.hold with
    | .due, some h =>
      (((s.removeHolder z).notify h.station (.revoke z .entryTimeout)).holderChanged z).serveAt z
        h.station
    | _, _ => s
  | none => s

/-- The expiry of a zone's release-dwell timer, when it is due: the zone is released on the holder's
behalf and served (R57). -/
def State.expireDwell (s : State) (z : Zone) : State :=
  match s.zones.get z with
  | some d =>
    match d.dwell, d.hold with
    | .due, some h => ((s.removeHolder z).holderChanged z).serveAt z h.station
    | _, _ => s
  | none => s

/-- ENTRY_TIMER_EXPIRY (R55). -/
def execEntryTimerExpiry (z : Zone) (s : State) : Host.Outcome State Fault Refusal :=
  .next (s.expireEntry z)

/-- RELEASE_DWELL_EXPIRY (R57). -/
def execReleaseDwellExpiry (z : Zone) (s : State) : Host.Outcome State Fault Refusal :=
  .next (s.expireDwell z)

/-- The second boundary at the Zone Arbiter: every entry timer counts, and a release-dwell timer counts
while the holder is ONLINE and is frozen otherwise (R55, R56). -/
def State.countZone (s : State) (z : Zone) : State :=
  s.modZone z fun d =>
    let holderOnline : Bool :=
      match d.hold with
      | some h => (s.ctx.get h.station).link == .online
      | none => false
    { d with entry := d.entry.count, dwell := if holderOnline then d.dwell.count else d.dwell }

end Sys2Proof.Machine
end

