-- ==== Sys2Proof/Machine/Booking.lean ====
section
/-! DEFINITION. The Booking Engine (09_lift_bookings.md): spans and conflicts, admission, the timeline,
opening, countdown, extension, wind effects and the end of a booking, and the meanings of the booking
requests and the booking events. -/

namespace Sys2Proof.Machine

/-! ### Spans (R155) -/

/-- The end of a booking's reservation interval. -/
def Booking.intervalEnd (b : Booking) : Nat := b.start + acceptOf b.mode + b.duration

/-- The projected end of a window under a pending amount: the present site time plus 1, plus the
remaining and the amount clamped to 1 .. 65 535 (R166). Near the top of the site time it can pass the greatest
site second; no rule refuses that, and the model lets it, which is its choice (log entry 33). -/
def Window.projectedEnd (w : Window) (now : Nat) (amount : Int) : Nat :=
  now + 1 + (clampInt 1 65535 (w.remaining + amount)).toNat

/-- Where a booking's span begins. -/
def Booking.spanBegin (b : Booking) : Nat := b.start - b.lead

/-- Where a booking's span ends (the table of R155). -/
def Booking.spanEnd (b : Booking) (now : Nat) : Nat :=
  match b.state with
  | .pending | .lead | .armed => b.intervalEnd
  | .deferred e => e
  | .blocked w | .active w =>
    match w.extension with
    | some n => max w.ends (w.projectedEnd now n)
    | none => w.ends

/-- Two bookings share a zone or belong to the same station. -/
def Booking.sharesWith (b c : Booking) : Bool :=
  b.station == c.station || b.zones.any fun z => c.zones.contains z

/-- Two bookings conflict: their spans intersect, and they share a zone or a station (R155). -/
def Booking.conflictsWith (b c : Booking) (now : Nat) : Bool :=
  decide (b.spanBegin < c.spanEnd now) && decide (c.spanBegin < b.spanEnd now) && b.sharesWith c

/-! ### Opening (R163) -/

/-- The state of an open booking whose station holds the zones passed. -/
def openState (zones : List Zone) (w : Window) : BookingState :=
  if w.passed = zones then .active w else .blocked w

/-- A booking opens with a remaining and a window end: the Zone Arbiter opens it on its zones in the
order of its list, and the zones its station then holds are the zones passed (R63, R163). -/
def State.openBooking (s : State) (b : Booking) (remaining ends : Nat) : State :=
  let w (passed : List Zone) : Window :=
    { ends, remaining, extension := none, passed, due := false }
  let t := s.putBooking { b with state := .blocked (w []) }
  let t := b.zones.foldl (State.openZone b.station) t
  t.putBooking
    { b with state := openState b.zones (w (b.zones.filter fun z => t.holds b.station z)) }

/-! ### The end of a booking (R171 .. R173) -/

/-- The outcome re-arms a REPEAT series (the table of R171). -/
def Ending.rearms : Ending → Bool
  | .done | .lapsedNoLoad | .lapsedDeferred | .lapsedBlocked | .abortedWind => true
  | .abortedClearance | .cancelledRequest | .cancelledPlan | .cancelledNoSlot => false

/-- The first candidate start: the previous start plus the least whole number of periods, at least
one, that puts candidate − lead later than the present site time (R173). -/
def firstCandidate (start period lead now : Nat) : Nat :=
  start + period * (if now < start + period - lead then 1 else (now + lead - start) / period + 1)

/-- Candidates are tested in turn, a skip for each that conflicts; none when one would end above the
site time, or at the eighth skip (R173). -/
def seekSlot (others : List Booking) (now period : Nat) : Nat → Booking → Nat →
    Option (Booking × Nat)
  | 0, _, _ => none
  | fuel + 1, b, skips =>
    if maxTime < b.intervalEnd then none
    else if others.any fun c => b.conflictsWith c now then
      seekSlot others now period fuel { b with start := b.start + period } (skips + 1)
    else some (b, skips)

/-- What becomes of a booking that ends: the re-armed booking, if there is one, the outcome written and
reported, and the series field (R171 .. R173). -/
def State.rearm (s : State) (b : Booking) (e : Ending) : Option Booking × Ending × Series :=
  match b.mode with
  | .repeating period left _ =>
    if e.rearms = false then (none, e, .ended)
    else if left = some 1 then (none, e, .ended)
    else
      let cand := firstCandidate b.start period b.lead s.clock.time
      match seekSlot (s.bookings.filter fun c => c.number ≠ b.number) s.clock.time period 8
          { b with state := .pending, start := cand } 0 with
      | some (c, skips) =>
        (some { c with mode := .repeating period (left.map (· - 1)) skips }, e,
          .continues c.start)
      | none => (none, .cancelledNoSlot, .ended)
  | _ => (none, e, .notRepeat)

/-- A booking ends (the six steps of R171). -/
def State.endBooking (s : State) (b : Booking) (e : Ending) : State :=
  let t := b.zones.foldl (State.endZone b) s
  let t := if b.state = .pending then t
    else (t.liftReservations b.zones).serveMemberZones b.station
  let r := t.rearm b e
  let c := t.ctx.get b.station
  let t := t.setCtx b.station { c with lastEnded := some ⟨b.number, r.2.1⟩ }
  let t := t.notify b.station (.bookingEnded b.number r.2.1 r.2.2)
  let t := t.raise .supervisor (.report b.station b.number r.2.1 r.2.2)
  match r.1 with
  | some c => t.putBooking c
  | none => t.dropBooking b.number

/-! ### The timeline (R158 .. R162) -/

/-- A booking enters LEAD: its zones are reserved (R159). -/
def State.leadBooking (s : State) (b : Booking) : State :=
  (s.putBooking { b with state := .lead }).reserve b.number b.zones

/-- A LEAD booking is started: an ON_LOAD booking is ARMED, another is DEFERRED at HOLD or SHUTDOWN
and opens at NORMAL or CAUTION (R160, R161). -/
def State.startBooking (s : State) (b : Booking) : State :=
  match b.mode with
  | .onLoad _ => s.putBooking { b with state := .armed }
  | _ =>
    match (s.wind.get b.station).stage with
    | .hold | .shutdown => s.putBooking { b with state := .deferred (b.start + b.duration) }
    | .normal | .caution => s.openBooking b b.duration (b.start + b.duration)

/-- The second boundary counts a window: a pending extension replaces the decrease; a remaining of 1
without one has its end due (R165). -/
def Window.count (w : Window) (now : Nat) : Window :=
  match w.extension with
  | some n =>
    let r := (clampInt 1 65535 (w.remaining + n)).toNat
    { w with remaining := r, extension := none, ends := now + r }
  | none =>
    if w.remaining ≤ 1 then { w with due := true }
    else { w with remaining := w.remaining - 1, ends := now + (w.remaining - 1) }

/-- The countdown of one booking at a second boundary (R165). -/
def Booking.count (b : Booking) (now : Nat) : Booking :=
  match b.state with
  | .blocked w => { b with state := .blocked (w.count now) }
  | .active w => { b with state := .active (w.count now) }
  | _ => b

/-- The countdown of the table at a second boundary. -/
def State.countBookings (s : State) : State :=
  s.setBookings (s.bookings.map fun b => b.count s.clock.time)

/-- The outcome that is due at steps 1 and 2 of R158, if one is: the end of a window (R165), of an
accept window (R161), or of a deferred window (R162). -/
def Booking.endDue (b : Booking) (now : Nat) : Option Ending :=
  match b.state with
  | .active w => if w.due then some .done else none
  | .blocked w => if w.due then some .lapsedBlocked else none
  | .armed => if b.start + acceptOf b.mode < now then some .lapsedNoLoad else none
  | .deferred e => if e ≤ now then some .lapsedDeferred else none
  | .pending | .lead => none

/-- Step 1 of R158 for one booking. -/
def State.stepRemaining (s : State) (b : Booking) : State :=
  if b.inWindow then
    match b.endDue s.clock.time with
    | some e => s.endBooking b e
    | none => s
  else s

/-- Step 2 of R158 for one booking. -/
def State.stepExpiry (s : State) (b : Booking) : State :=
  if b.inWindow then s
  else
    match b.endDue s.clock.time with
    | some e => s.endBooking b e
    | none => s

/-- Step 3 of R158 for one booking. -/
def State.stepLead (s : State) (b : Booking) : State :=
  if b.state = .pending ∧ b.spanBegin ≤ s.clock.time then s.leadBooking b else s

/-- Step 4 of R158 for one booking. -/
def State.stepStart (s : State) (b : Booking) : State :=
  if b.state = .lead ∧ b.start ≤ s.clock.time then s.startBooking b else s

/-- One step of R158 over the bookings with the numbers selected, in ascending number. -/
def State.overBookings (s : State) (sel : Nat → Bool) (f : State → Booking → State) : State :=
  ((s.bookings.map (·.number)).filter sel).foldl (fun s num =>
    match s.booking? num with
    | some b => f s b
    | none => s) s

/-- What the Booking Engine has still to do of the second boundary the clock has taken, in the four
steps of R158. -/
def State.settleBookings (s : State) : State :=
  let s := s.overBookings (fun _ => true) State.stepRemaining
  let s := s.overBookings (fun _ => true) State.stepExpiry
  let s := s.overBookings (fun _ => true) State.stepLead
  s.overBookings (fun _ => true) State.stepStart

/-! ### Admission (R156, R157) -/

/-- The booking number after another; it wraps from 65 535 to 1. -/
def nextBookingNumber (n : Nat) : Nat := if 65535 ≤ n then 1 else n + 1

/-- The first number from `n` on that is not in use; of 49 numbers in a row one is free. -/
def freeNumber (used : List Nat) : Nat → Nat → Nat
  | 0, n => n
  | fuel + 1, n => if used.contains n then freeNumber used fuel (nextBookingNumber n) else n

/-- The number an admitted booking takes (R157). -/
def State.newNumber (s : State) : Nat := freeNumber (s.bookings.map (·.number)) 48 s.nextNumber

/-- A booking is admitted: it takes a free record and a number in PENDING, enters LEAD when its
start − lead is the present site time, and is started when its start is too (R157). -/
def State.admitLift (s : State) (b : Booking) : State :=
  let t := { s.setBookings (insertBooking b s.bookings) with
             nextNumber := nextBookingNumber b.number }
  if b.spanBegin = s.clock.time then
    let t := t.leadBooking b
    if b.start = s.clock.time then t.startBooking { b with state := .lead } else t
  else t

/-- The booking a request asks for, before it is admitted. -/
def State.bookingFor (s : State) (n : Station) (locked : Bool) (r : BookRequest) : Booking :=
  { number := s.newNumber, station := n, zones := r.zones, mode := r.mode, start := r.start,
    duration := r.duration, lead := r.lead, locked := locked, state := .pending }

/-- The answer to an admitted BOOK: the number, the state after admission and the present holder of
each listed zone (R157). -/
def State.admittedAnswer (s : State) (b : Booking) : Code × Data :=
  (.ok, .admitted b.number
    (match s.booking? b.number with
     | some c => c.state
     | none => b.state)
    (b.zones.map s.holder))

/-- The checks 3 .. 9 of a BOOK whose fields are in range, and its admission (R156, R157). -/
def State.bookInRange (s : State) (n : Station) (bySupervisor locked : Bool) (r : BookRequest) :
    State × Code × Data :=
  let b := s.bookingFor n locked r
  if bySupervisor = true ∧ (s.station n).enabled = false then (s, .disabled, .empty)
  else if r.zones.any (fun z => !(s.zone z).enabled) = true then (s, .noZone, .empty)
  else
    match r.zones.find? fun z => !s.isMember z n with
    | some z => (s, .notMember, .zone z)
    | none =>
      if 48 ≤ s.bookings.length then (s, .full, .empty)
      else if b.spanBegin < s.clock.time then (s, .late, .empty)
      else if (match r.mode with | .onLoad _ => true | _ => false) = true
          ∧ (s.station n).loadStart = false then (s, .loadStart, .empty)
      else
        match s.bookings.find? fun c => b.conflictsWith c s.clock.time with
        | some c => (s, .overlap, .booking c.number)
        | none => (s.admitLift b, (s.admitLift b).admittedAnswer b)

/-- BOOK for a station: TIME_UNSET, then RANGE, then the checks on the plan and the table (R156). -/
def State.bookLift (s : State) (n : Station) (bySupervisor locked : Bool) (f : WireBook) :
    State × Code × Data :=
  if s.clock.timeSet = false then (s, .timeUnset, .empty)
  else
    match acceptBook f with
    | none => (s, .range, .empty)
    | some r => s.bookInRange n bySupervisor locked r

/-- The supervisor's BOOK: RANGE also covers its station number and its locked flag (R156). -/
def State.supervisorBookLift (s : State) (station locked : Nat) (f : WireBook) :
    State × Code × Data :=
  if s.clock.timeSet = false then (s, .timeUnset, .empty)
  else
    match Station.ofNumber? station with
    | none => (s, .range, .empty)
    | some n =>
      if yesNoOk locked = false then (s, .range, .empty)
      else s.bookLift n true (yesNo locked) f

/-! ### Cancelling, extending and locking (R166, R169, R170) -/

/-- A number not in the table is answered LATE when it is the last ended booking of the requesting
crane's station, or for the supervisor of any station, and NO_BOOKING otherwise (R166). -/
def State.missingBooking (s : State) (crane : Option Station) (num : Nat) : Code :=
  let endedHere (n : Station) : Bool :=
    match (s.ctx.get n).lastEnded with
    | some e => e.number == num
    | none => false
  if (match crane with
      | some n => endedHere n
      | none => Station.all.any endedHere) then .late
  else .noBooking

/-- The refusals of a crane's CANCEL or EXTEND of a booking: NOT_OWNER, then LOCKED (R166, R169). -/
def Booking.craneRefusal (b : Booking) (crane : Option Station) : Option Code :=
  match crane with
  | some n => if b.station ≠ n then some .notOwner else if b.locked then some .locked else none
  | none => none

/-- CANCEL of a booking by a crane, or by the supervisor (R169). -/
def State.cancelLift (s : State) (crane : Option Station) (num : Nat) : State × Code × Data :=
  if num = 0 then (s, .range, .empty)
  else
    match s.booking? num with
    | none => (s, s.missingBooking crane num, .empty)
    | some b =>
      match b.craneRefusal crane with
      | some code => (s, code, .empty)
      | none => (s.endBooking b .cancelledRequest, .ok, .bookingWas b.state)

/-- The new pending amount of an EXTEND (R166). -/
def Window.newAmount (w : Window) (n : Int) : Int :=
  clampInt (-3600) 3600 (w.extension.getD 0 + n)

/-- The booking an extension to a projected end would overlap, with the lowest number (R166). -/
def State.extensionOverlap (s : State) (b : Booking) (projected : Nat) : Option Booking :=
  s.bookings.find? fun c =>
    c.number != b.number && b.sharesWith c && decide (c.spanBegin < projected)

/-- EXTEND of a booking by a crane, or by the supervisor (R166). -/
def State.extendLift (s : State) (crane : Option Station) (num : Nat) (n : Int) :
    State × Code × Data :=
  if num = 0 ∨ n < -3600 ∨ 3600 < n then (s, .range, .empty)
  else
    match s.booking? num with
    | none => (s, s.missingBooking crane num, .empty)
    | some b =>
      match b.craneRefusal crane, b.window? with
      | some code, _ => (s, code, .empty)
      | none, none => (s, .notInWindow, .empty)
      | none, some w =>
        let amount := w.newAmount n
        let projected := w.projectedEnd s.clock.time amount
        match s.extensionOverlap b projected with
        | some c => (s, .overlap, .booking c.number)
        | none =>
          let v := { w with extension := some amount }
          (s.putBooking
            { b with state := match b.state with
                              | .active _ => .active v
                              | _ => .blocked v },
           .ok, .extended amount projected w.passed (b.zones.filter fun z => !w.passed.contains z))

/-- LOCK or UNLOCK of a booking (R170). -/
def State.lockLift (s : State) (num : Nat) (locked : Bool) : State × Code × Data :=
  match s.booking? num with
  | none => (s, .noBooking, .empty)
  | some b => (s.putBooking { b with locked := locked }, .ok, .empty)

/-! ### Load rises, wind and clearance -/

/-- A load rise of a station: its ARMED booking opens at NORMAL or CAUTION, and the rise is passed
over at HOLD or SHUTDOWN (R161). -/
def State.loadRise (s : State) (n : Station) : State :=
  match s.bookings.find? fun b => b.station == n && b.state == .armed with
  | some b =>
    match (s.wind.get n).stage with
    | .normal | .caution => s.openBooking b b.duration (s.clock.time + b.duration)
    | .hold | .shutdown => s
  | none => s

/-- The effect of a station's new stage on one of its bookings (the table of R167, R162). -/
def State.bookingStageTold (stage : Stage) (s : State) (b : Booking) : State :=
  match b.state, stage with
  | .blocked _, .shutdown | .active _, .shutdown => s.endBooking b .abortedWind
  | .deferred e, .normal | .deferred e, .caution =>
    if e ≤ s.clock.time then s.endBooking b .lapsedDeferred
    else s.openBooking b (e - s.clock.time) e
  | _, _ => s

/-- The Booking Engine is told of a station's new stage (R167). -/
def State.stageToldBookings (s : State) (n : Station) (stage : Stage) : State :=
  s.overBookings (fun num =>
      match s.booking? num with
      | some b => b.station == n
      | none => false)
    (State.bookingStageTold stage)

/-- A clearance request on a zone ends the holder's booking in window that names the zone, with
ABORTED(CLEARANCE) (R133, R168). -/
def State.abortForClearance (s : State) (h : Station) (z : Zone) : State :=
  match s.bookings.find? fun b => b.station == h && b.inWindow && b.zones.contains z with
  | some b => s.endBooking b .abortedClearance
  | none => s

/-! ### Meanings -/

/-- A crane's request for the Booking Engine. It is taken after the outstanding steps of the boundary (log
entry 1), as work that is not its own: the frames these raise go out before its answer (R34, R172,
R179). -/
def State.bookingRequest (s : State) (n : Station) (kind : Byte)
    (work : State → State × Code × Data) : State :=
  (if (s.ctx.get n).link = .online then s.settleBookings else s).onlineRequest n kind work

/-- A supervisor's command for the Booking Engine, taken after the outstanding steps of the boundary as a
crane's request is. -/
def State.bookingCommand (s : State) (tag cmd : Nat) (work : State → State × Code × Data) : State :=
  s.settleBookings.command tag cmd work

/-- BOOK (R156). -/
def execBook (n : Station) (fields : WireBook) (s : State) : Host.Outcome State Fault Refusal :=
  .next (s.bookingRequest n 0x06 fun s => s.bookLift n false false fields)

/-- CANCEL (R169). -/
def execCancel (n : Station) (number : Nat) (s : State) : Host.Outcome State Fault Refusal :=
  .next (s.bookingRequest n 0x07 fun s => s.cancelLift (some n) number)

/-- EXTEND (R166). -/
def execExtend (n : Station) (number : Nat) (amount : Int) (s : State) :
    Host.Outcome State Fault Refusal :=
  .next (s.bookingRequest n 0x08 fun s => s.extendLift (some n) number amount)

/-- The supervisor's BOOK (R156). -/
def execSupervisorBook (tag station locked : Nat) (fields : WireBook) (s : State) :
    Host.Outcome State Fault Refusal :=
  .next (s.bookingCommand tag 0x28 fun s => s.supervisorBookLift station locked fields)

/-- The supervisor's CANCEL (R169). -/
def execSupervisorCancel (tag number : Nat) (s : State) : Host.Outcome State Fault Refusal :=
  .next (s.bookingCommand tag 0x29 fun s => s.cancelLift none number)

/-- The supervisor's EXTEND (R166). -/
def execSupervisorExtend (tag number : Nat) (amount : Int) (s : State) :
    Host.Outcome State Fault Refusal :=
  .next (s.bookingCommand tag 0x2A fun s => s.extendLift none number amount)

/-- LOCK (R170). -/
def execLock (tag number : Nat) (s : State) : Host.Outcome State Fault Refusal :=
  .next (s.bookingCommand tag 0x2B fun s => s.lockLift number true)

/-- UNLOCK (R170). -/
def execUnlock (tag number : Nat) (s : State) : Host.Outcome State Fault Refusal :=
  .next (s.bookingCommand tag 0x2C fun s => s.lockLift number false)

/-- The steps of R158 before one, and that step up to a booking's number, when the booking's own turn
in that step is due; otherwise nothing. `before` takes the earlier steps over the whole table. -/
def State.bookingTurn (s : State) (num : Nat) (before : State → State)
    (step : State → Booking → State) (due : State → Booking → Bool) : State :=
  match (before s).booking? num with
  | some b =>
    if due (before s) b then (before s).overBookings (fun k => decide (k ≤ num)) step else s
  | none => s

/-- The ends of step 1 of R158, over the whole table. -/
def State.allRemaining (s : State) : State := s.overBookings (fun _ => true) State.stepRemaining

/-- Steps 1 and 2 of R158, over the whole table. -/
def State.allEnds (s : State) : State :=
  s.allRemaining.overBookings (fun _ => true) State.stepExpiry

/-- Steps 1 to 3 of R158, over the whole table. -/
def State.allLeads (s : State) : State := s.allEnds.overBookings (fun _ => true) State.stepLead

/-- BOOKING_REMAINING_EXPIRY (R165). -/
def execBookingRemainingExpiry (number : Nat) (s : State) : Host.Outcome State Fault Refusal :=
  .next (s.bookingTurn number id State.stepRemaining fun s b =>
    b.inWindow && (b.endDue s.clock.time).isSome)

/-- ACCEPT_WINDOW_EXPIRY (R161). -/
def execAcceptWindowExpiry (number : Nat) (s : State) : Host.Outcome State Fault Refusal :=
  .next (s.bookingTurn number State.allRemaining State.stepExpiry fun s b =>
    b.endDue s.clock.time == some .lapsedNoLoad)

/-- DEFERRED_WINDOW_EXPIRY (R162). -/
def execDeferredWindowExpiry (number : Nat) (s : State) : Host.Outcome State Fault Refusal :=
  .next (s.bookingTurn number State.allRemaining State.stepExpiry fun s b =>
    b.endDue s.clock.time == some .lapsedDeferred)

/-- BOOKING_LEAD (R159). -/
def execBookingLead (number : Nat) (s : State) : Host.Outcome State Fault Refusal :=
  .next (s.bookingTurn number State.allEnds State.stepLead fun s b =>
    b.state == .pending && decide (b.spanBegin ≤ s.clock.time))

/-- BOOKING_START (R160, R161). -/
def execBookingStart (number : Nat) (s : State) : Host.Outcome State Fault Refusal :=
  .next (s.bookingTurn number State.allLeads State.stepStart fun s b =>
    b.state == .lead && decide (b.start ≤ s.clock.time))

end Sys2Proof.Machine
end

