-- ==== Sys2Proof/Machine/Shutdown.lean ====
section
/-! DEFINITION. The Shutdown Unit (07_shutdown_and_weathervaning.md): the shutdown sequence and its
clearance, the swing and the return from it, the unsafe release, and the meaning of
CLEARANCE_TIMER_EXPIRY. -/

namespace Sys2Proof.Machine

/-- The shutdown sequence is in force for a station (R131). -/
def State.inForce (s : State) (v : Station) : Bool :=
  (s.station v).enabled && (s.wind.get v).stage == .shutdown
    && ((s.station v).mode == .acting || s.siteStop)

/-! ### Clearance -/

/-- The answer to the holder query: the member zones of a station held by another, with the holder of
each (R65). -/
def State.othersHolding (s : State) (v : Station) : List (Zone × Station) :=
  (s.memberZones v).filterMap fun z =>
    match s.holder z with
    | some h => if h = v then none else some (z, h)
    | none => none

/-- A clearance request for a zone held by a station, on behalf of the clearing station (R133). -/
def State.requestClearance (v : Station) (s : State) (zh : Zone × Station) : State :=
  (s.abortForClearance zh.2 zh.1).notify zh.2 (.clearRequest zh.1 v)

/-- The clearance timer starts at the live clearance timeout, with clearance overdue absent (R132,
step 4). -/
def State.startClearanceTimer (s : State) (v : Station) : State :=
  (s.setVane v { s.vane.get v with timer := .running s.plan.live.site.clearanceTimeout }).setOverdue
    v false

/-- Steps 2 to 5 of R132. -/
def State.clearNeighbours (s : State) (v : Station) : State :=
  (((s.othersHolding v).foldl (State.requestClearance v) s).startClearanceTimer v).judgeClear v

/-- The sequence begins for a station in BRAKED (R132). -/
def State.beginSequence (s : State) (v : Station) : State :=
  (s.setVane v { s.vane.get v with vane := .clearing, vc := false }).clearNeighbours v

/-- The sequence ends for a station in CLEARING or CLEAR (R139): the Zone Arbiter serves the zones
opened. -/
def State.endSequence (s : State) (v : Station) : State :=
  ((s.setVane v { s.vane.get v with vane := .braked, timer := .stopped, vc := false }).setOverdue v
    false).serveMemberZones v

/-- The Shutdown Unit judges whether the sequence is in force and acts on a change (R131). -/
def State.judgeSequence (s : State) (v : Station) : State :=
  match (s.vane.get v).vane with
  | .braked => if s.inForce v then s.beginSequence v else s
  | .clearing | .clear => if s.inForce v then s else s.endSequence v
  | .vaning => s

/-! ### The brake state of a report (R137 .. R142) -/

/-- A RELEASED report in CLEAR begins the swing (R137). -/
def State.beginSwing (s : State) (v : Station) : State :=
  let t := s.sweepAdd v
  (t.setVane v { t.vane.get v with vane := .vaning }).serveMemberZones v

/-- A RELEASED report in BRAKED or CLEARING is an unsafe release (R140). -/
def State.unsafeRelease (s : State) (v : Station) : State :=
  let wasClearing : Bool := (s.vane.get v).vane == .clearing
  let t := s.setVane v { s.vane.get v with unsafeLatched := true }
  let t := (t.alarmBegins (.unsafeVane v)).sweepAdd v
  let t := t.setVane v { t.vane.get v with vane := .vaning, timer := .stopped, vc := false }
  let t := if wasClearing then (t.setOverdue v false).serveMemberZones v else t
  t.reevalPermit v

/-- An APPLIED report in VANING while the sequence is in force (R138): CLEAR, or CLEARING with the
neighbours asked afresh; then the swept entries go. -/
def State.swingToClearance (s : State) (v : Station) : State :=
  let t :=
    if s.clearCondition v then s.setVane v { s.vane.get v with vane := .clear, vc := true }
    else (s.setVane v { s.vane.get v with vane := .clearing, vc := false }).clearNeighbours v
  t.sweepRemove v

/-- An APPLIED report in VANING while the sequence is not in force: the return to service, with
adoption before the swept entries go (R138). -/
def State.returnToService (s : State) (v : Station) : State :=
  ((s.setVane v { s.vane.get v with vane := .braked, vc := false }).adopt v).sweepRemove v

/-- Unsafe vane latched clears, and the motion permit is re-evaluated, when the UNSAFE_VANE entry is
CLEAR (R141). -/
def State.unsafeCleared (s : State) (v : Station) : State :=
  if (s.alarms.get (.unsafeVane v)).state = .clear ∧ (s.vane.get v).unsafeLatched = true then
    (s.setVane v { s.vane.get v with unsafeLatched := false }).reevalPermit v
  else s

/-- An APPLIED report in VANING: the transition of R138 first, and then the end of the UNSAFE_VANE
condition (R141). -/
def State.endSwing (s : State) (v : Station) : State :=
  let t := if s.inForce v then s.swingToClearance v else s.returnToService v
  (t.alarmEnds (.unsafeVane v)).unsafeCleared v

/-- The Shutdown Unit takes the brake state of an accepted report (R142). -/
def State.takeBrake (s : State) (v : Station) (released : Bool) : State :=
  let c := s.vane.get v
  let t := s.setVane v { c with lastReleased := released }
  match c.vane, released with
  | .clear, true => t.beginSwing v
  | .braked, true | .clearing, true => t.unsafeRelease v
  | .vaning, false => t.endSwing v
  | .vaning, true | .braked, false | .clearing, false | .clear, false => t

/-! ### The clearance timer -/

/-- The second boundary at the Shutdown Unit: the clearance timer of a station in CLEARING counts
(R135). -/
def VaneCtx.count (c : VaneCtx) : VaneCtx := { c with timer := c.timer.count }

/-- The expiry of a clearance timer, when it is due (R135). -/
def State.expireClearance (s : State) (v : Station) : State :=
  let c := s.vane.get v
  if c.timer = .due then (s.setVane v { c with timer := .stopped }).setOverdue v true else s

/-- CLEARANCE_TIMER_EXPIRY (R135). -/
def execClearanceTimerExpiry (n : Station) (s : State) : Host.Outcome State Fault Refusal :=
  .next (s.expireClearance n)

end Sys2Proof.Machine
end

