-- ==== Sys2Proof/Machine/Stage.lean ====
section
/-! DEFINITION. The Wind Stage Unit (06_wind_stages.md): the evaluation at a hand-over, the fall after
a drop dwell, the site stop, and the meanings of DROP_DWELL_EXPIRY, SSTOP_ASSERTED and
SSTOP_WITHDRAWN. -/

namespace Sys2Proof.Machine

/-! ### Handing a change on -/

/-- The Booking Engine and the Shutdown Unit are told of a station's new stage, in the order given
(R124). -/
def State.tellStage (s : State) (n : Station) (stage : Stage) (bookingFirst : Bool) : State :=
  if bookingFirst then (s.stageToldBookings n stage).judgeSequence n
  else (s.judgeSequence n).stageToldBookings n stage

/-- A station's stage changes, and the change is handed on; a stage that stays as it is hands nothing
on (R124). -/
def State.changeStage (s : State) (n : Station) (stage : Stage) (bookingFirst : Bool) : State :=
  let w := s.wind.get n
  if w.stage = stage then s
  else
    ((s.setWind n { w with stage := stage }).notify n (.wind stage w.stage)).tellStage n stage
      bookingFirst

/-- The order in which choice `k` has the Booking Engine and the Shutdown Unit told for a station; the
rest of `k` picks the order of the stations (log entry 4). -/
def bookingFirst (k : Nat) (n : Station) : Bool := (k / 720).testBit n.number

/-! ### The evaluation (R115 .. R119) -/

/-- The figures of a station's assigned RUNNING sensors (R116). -/
def State.runningFigures (s : State) (n : Station) : List (Nat × Nat) :=
  (Addr.all.filter fun a =>
    (s.station n).anemometers.get a && (s.sensors.get a).state == .running).filterMap fun a =>
      (s.sensors.get a).figures

/-- The greatest gust and the greatest mean of a list of figures, none of an empty list (R116). -/
def greatestFigures : List (Nat × Nat) → Option (Nat × Nat)
  | [] => none
  | f :: fs => some (fs.foldl (fun g h => (max g.1 h.1, max g.2 h.2)) f)

/-- Step 1 of R115: the figures and the input state are formed, and WIND_LOST is told of a change
(R116, R126). -/
def State.formFigures (s : State) (n : Station) : State :=
  let w := s.wind.get n
  let f := greatestFigures (s.runningFigures n)
  let t := s.setWind n { w with figures := f, lost := f.isNone }
  if f.isNone = w.lost then t else t.alarmIs (.windLost n) f.isNone

/-- The raise counter is 0 and drop timing is stopped. -/
def WindCtx.settled (w : WindCtx) : WindCtx := { w with raise := 0, dropStart := none, dropDue := false }

/-- A level above NORMAL qualifies (R118). -/
def qualifies (r : StationRec) (f : Nat × Nat) (level : Stage) : Bool :=
  decide (levelOf r.gustAt level ≤ f.1) || decide (levelOf r.meanAt level ≤ f.2)

/-- The highest level above NORMAL that qualifies, NORMAL when none does (R118). -/
def highestQualifying (r : StationRec) (f : Nat × Nat) : Stage :=
  if qualifies r f .shutdown then .shutdown
  else if qualifies r f .hold then .hold
  else if qualifies r f .caution then .caution
  else .normal

/-- The drop condition of a stage above NORMAL (R119). -/
def dropCondition (r : StationRec) (f : Nat × Nat) (stage : Stage) : Bool :=
  stage != .normal && decide (f.1 + r.hysteresis < levelOf r.gustAt stage)
    && decide (f.2 + r.hysteresis < levelOf r.meanAt stage)

/-- Step 5 of R115 (R119). -/
def State.evaluateDrop (s : State) (n : Station) (f : Nat × Nat) : State :=
  let w := s.wind.get n
  if dropCondition (s.station n) f w.stage then
    match w.dropStart with
    | some _ => s
    | none => s.setWind n { w with dropStart := some s.clock.time }
  else s.setWind n { w with dropStart := none, dropDue := false }

/-- Steps 4 and 5 of R115 (R118, R119). -/
def State.evaluateRaise (s : State) (n : Station) (f : Nat × Nat) (first : Bool) : State :=
  let r := s.station n
  let w := s.wind.get n
  let q := highestQualifying r f
  let count := if w.stage.rank < q.rank then w.raise + 1 else 0
  if w.stage.rank < q.rank ∧ r.persistence ≤ count then (s.setWind n w.settled).changeStage n q first
  else (s.setWind n { w with raise := count }).evaluateDrop n f

/-- The evaluation of one station at a hand-over (R115, R117, R123). -/
def State.evaluateStation (s : State) (n : Station) (first : Bool) : State :=
  if (s.station n).enabled then
    let t := s.formFigures n
    let w := t.wind.get n
    if t.siteStop then (t.setWind n w.settled).changeStage n .shutdown first
    else
      match w.figures with
      | none =>
        let t := t.setWind n w.settled
        match w.stage with
        | .normal | .caution => t.changeStage n .hold first
        | .hold | .shutdown => t
      | some f => t.evaluateRaise n f first
  else s

/-- The hand-over: every station is evaluated, in the orders choice `k` picks (R115, R124). One station's
evaluation and the handing on of its change are done whole before the next station's begin, which is the
model's choice (log entry 34). -/
def State.handOver (s : State) (k : Nat) : State :=
  (stationOrder k).foldl (fun s n => s.evaluateStation n (bookingFirst k n)) s

/-! ### The fall (R120, R121) -/

/-- The second boundary at the Wind Stage Unit: a fall is due for an enabled station whose drop timing
has run for its drop dwell (R120). -/
def State.countDrop (s : State) (n : Station) : State :=
  let w := s.wind.get n
  match w.dropStart with
  | some t =>
    if (s.station n).enabled = true ∧ (s.station n).dropDwell ≤ s.clock.time - t then
      s.setWind n { w with dropDue := true }
    else s
  | none => s

/-- The stage falls one level, when a fall is due (R120). -/
def State.fall (s : State) (n : Station) (first : Bool) : State :=
  let w := s.wind.get n
  if w.dropDue then
    (s.setWind n { w with dropStart := if w.stage.below = .normal then none else some s.clock.time,
                          dropDue := false }).changeStage n w.stage.below first
  else s

/-- SET_TIME moves a running drop-timing start with the site time; a start below 0 becomes 0 (R121). -/
def WindCtx.moveTime (w : WindCtx) (before after : Nat) : WindCtx :=
  { w with dropStart := w.dropStart.map fun t => t + after - before }

/-- DROP_DWELL_EXPIRY (R120). -/
def execDropDwellExpiry (n : Station) (s : State) : Host.Outcome State Fault Refusal :=
  .next (if (s.wind.get n).dropDue then s.choose.2.fall n (bookingFirst s.choose.1 n) else s)

/-! ### The site stop (R122, R123) -/

/-- What the assertion of SSTOP does to one enabled station: SHUTDOWN at once, and the Shutdown Unit
is told whether the stage changed or not (R122). -/
def State.stopStation (s : State) (n : Station) (first : Bool) : State :=
  if (s.station n).enabled then
    ((s.setWind n (s.wind.get n).settled).changeStage n .shutdown first).judgeSequence n
  else s

/-- The assertion of SSTOP is taken (R122), one station whole after the other, which is the model's choice
(log entry 34). -/
def State.takeSiteStop (s : State) (k : Nat) : State :=
  (stationOrder k).foldl (fun s n => s.stopStation n (bookingFirst k n))
    ({ s with siteStop := true }.alarmBegins .siteStop)

/-- The withdrawal of SSTOP is taken (R123), one station whole after the other (log entry 34). -/
def State.leaveSiteStop (s : State) (k : Nat) : State :=
  ((stationOrder k).filter fun n => (s.station n).enabled).foldl State.judgeSequence
    ({ s with siteStop := false }.alarmEnds .siteStop)

/-- SSTOP_ASSERTED (R122). -/
def execSstopAsserted (s : State) : Host.Outcome State Fault Refusal :=
  .next ({ s.choose.2 with sstopPin := true }.takeSiteStop s.choose.1)

/-- SSTOP_WITHDRAWN (R123). -/
def execSstopWithdrawn (s : State) : Host.Outcome State Fault Refusal :=
  .next ({ s.choose.2 with sstopPin := false }.leaveSiteStop s.choose.1)

end Sys2Proof.Machine
end

