-- ==== Sys2Proof/Machine/Line.lean ====
section
/-! DEFINITION. The Wind Line Controller (05_the_wind_line.md): the words of the line and their check,
enrolment, starting, reading and stopping the sensors, the hand-over, and the meanings of the wind line
commands and events. -/

namespace Sys2Proof.Machine

/-! ### Words of the line (R92, R94, R200) -/

/-- The three bits of a check register, its leftmost bit first. -/
structure Check3 where
  left : Bool
  mid : Bool
  right : Bool
deriving DecidableEq, Repr

/-- One bit fed into the check register: shift left, and combine with 101 if a 1 left it (R92). -/
def Check3.feed (r : Check3) (b : Bool) : Check3 :=
  ⟨r.mid ^^ r.left, r.right, b ^^ r.left⟩

/-- The check over a value's bits: the register starts at 101, and three zero bits follow the value
(R92). -/
def check3 (bits : List Bool) : List Bool :=
  let r := (bits ++ [false, false, false]).foldl Check3.feed ⟨true, false, true⟩
  [r.left, r.mid, r.right]

/-- The number a list of bits spells, most significant bit first. -/
def bitsValue (bits : List Bool) : Nat := bits.foldl (fun v b => 2 * v + b.toNat) 0

/-- The `w` bits of a number, most significant first. -/
def bitsOf : Nat → Nat → List Bool
  | 0, _ => []
  | w + 1, v => v.testBit w :: bitsOf w v

/-- What a reply slot brought: nothing, a word with a bad check, or a value with a good check (R91,
R92). -/
inductive Reply where
  | missing
  | badCheck
  | value (v : Nat)
deriving DecidableEq, Repr

/-- A slot is read as one word of 13 bits; fewer are a missing reply (R200). -/
def readSlot (slot : Slot) : Reply :=
  if slot.length < 13 then .missing
  else if check3 (slot.take 10) = (slot.drop 10).take 3 then .value (bitsValue (slot.take 10))
  else .badCheck

/-- The classes of a reply (the table of R92). -/
inductive ReplyClass where
  | missing | bad
  | speed (v : Nat)
  | busy | ready | sensorFault
deriving DecidableEq, Repr

/-- The class of a reply. A bad check and a bad code are bad replies alike (R92). -/
def Reply.cls : Reply → ReplyClass
  | .missing => .missing
  | .badCheck => .bad
  | .value v =>
    if v ≤ 999 then .speed v
    else if v = 1001 then .busy
    else if v = 1002 then .ready
    else if v = 1010 then .sensorFault
    else .bad

/-- The function field of a command (section 11.7). -/
def LineCommand.functionBits : LineCommand → List Bool
  | .assign _ => [false, true]
  | .run => [true, false]
  | .runTo _ => [true, true]

/-- The address field of a command; RUN is broadcast and carries 000 (section 11.7). -/
def LineCommand.addressBits : LineCommand → List Bool
  | .assign a | .runTo a => bitsOf 3 a.number
  | .run => bitsOf 3 0

/-- The eleven bits of a command word: the start bits 011, the address, the function and their check
(R94, R200). -/
def LineCommand.word (c : LineCommand) : List Bool :=
  let body := c.addressBits ++ c.functionBits
  [false, true, true] ++ body ++ check3 body

/-! ### Sensor records -/

/-- The state is STARTING. -/
def SensorState.isStarting : SensorState → Bool
  | .starting _ => true
  | .absent | .assigned | .running | .fault | .failed => false

/-- A sensor record is replaced. The SENSOR_FAULT and SENSOR_FAILED conditions follow its state, and a
record that enters STARTING returns its SENSOR_FAILED entry to CLEAR (R112, R186). -/
def State.putRecord (s : State) (a : Addr) (r : SensorRec) : State :=
  let old := (s.sensors.get a).state
  let t := s.setSensor a r
  let t :=
    if (old == .fault) = (r.state == .fault) then t
    else t.alarmIs (.sensorFault a) (r.state == .fault)
  let t :=
    if (old == .failed) = (r.state == .failed) then t
    else t.alarmIs (.sensorFailed a) (r.state == .failed)
  if r.state.isStarting && !old.isStarting then t.setEntry (.sensorFailed a) .cleared else t

/-- The floor of the average of a list of samples. -/
def average (xs : List Nat) : Nat := xs.sum / xs.length

/-- A good reply is added to a record's history, and its figures are formed afresh (R108). -/
def SensorRec.addSample (r : SensorRec) (v : Nat) : SensorRec :=
  let h := (v :: r.history).take 240
  { r with history := h, figures := some (average (h.take 12), average h) }

/-! ### The command list (R90, R94) -/

/-- A command is listed, unless it is already. -/
def State.listCommand (s : State) (c : LineCommand) : State :=
  if s.line.commands.contains c then s
  else s.setLine { s.line with commands := s.line.commands ++ [c] }

/-- An ASSIGN is listed. -/
def LineRec.assignListed (l : LineRec) : Bool :=
  l.commands.any fun c =>
    match c with
    | .assign _ => true
    | .run | .runTo _ => false

/-- A record in the first cycle of an attempt (R100, R103). -/
def SensorRec.beginAttempt (r : SensorRec) (attempts cycles : Nat) : SensorRec :=
  { r with state := .starting .identity, attempts, attemptCycles := cycles, readyRun := 0,
           identity := [] }

/-- RUN reaches one record: an ASSIGNED one starts (R100). -/
def State.runRecord (s : State) (a : Addr) : State :=
  let r := s.sensors.get a
  if r.state = .assigned then s.putRecord a (r.beginAttempt 1 0) else s

/-- The effects of a command on the controller's own records, as it is sent (R98, R100, R103). A RUN-TO for a
record that is not in AWAITING_COMMAND leaves it as it is, which is the model's choice (log entry 28). -/
def State.commandSent (s : State) (c : LineCommand) : State :=
  match c with
  | .assign a => s.setLine { s.line with echoWait := some (a, .running 4) }
  | .run =>
    Addr.all.foldl State.runRecord
      (s.setLine { s.line with state := .running, windowOpen := false, runWatch := some 0 })
  | .runTo a =>
    let r := s.sensors.get a
    if r.state = .starting .awaitingCommand then
      s.putRecord a (r.beginAttempt (r.attempts + 1) 0)
    else s

/-- The consecutive pulses of the start pattern sent before a command word (R94). -/
def startPulses : Nat := 24

/-- A command is sent in the cycle just begun, which it makes a command cycle: the start pattern and then
the word (R91, R94, R200). -/
def State.sendCommand (s : State) (c : LineCommand) : State :=
  { s with cycle := some { kind := .command startPulses c.word, age := 0 } }.commandSent c

/-- A wind cycle begins (R91, R94, R96): the open window counts it, and the oldest command listed is
sent in place of the sync pulse. A window that a RUN has closed early counts no more, as R96 says, though R90
describes the count as of cycle starts up to 8: the model's choice (log entry 38). -/
def State.startCycle (s : State) : State :=
  let l := if s.line.windowOpen then { s.line with windowCount := min 8 (s.line.windowCount + 1) }
           else s.line
  let t := s.setLine l
  match l.state, l.commands with
  | .off, _ => { t with cycle := some { kind := .unpowered, age := 0 } }
  | _, [] => { t with cycle := some { kind := .ordinary, age := 0 } }
  | _, c :: cs => (t.setLine { l with commands := cs }).sendCommand c

/-- The eighth cycle start has been counted and the window has not been closed yet. -/
def LineRec.closeDue (l : LineRec) : Bool := l.windowOpen && l.windowCount == 8

/-- The window closes, when its closing is due; with no enrolment held and no RUN listed, RUN is sent
in the same cycle (R96). -/
def State.closeWindow (s : State) : State :=
  if s.line.closeDue then
    let t := s.setLine { s.line with windowOpen := false }
    if s.line.enrolHeld || s.line.commands.contains .run then t
    else if s.line.commands = [] then t.sendCommand .run
    else t.listCommand .run
  else s

/-- WINDOW_CLOSE (R96). -/
def execWindowClose (s : State) : Host.Outcome State Fault Refusal := .next s.closeWindow

/-! ### Enrolment (R97, R98, R178) -/

/-- The controller gives the ENROL_NEXT answer, with the tag recorded, which is then forgotten (R98,
R178). -/
def State.answerEnrol (s : State) (code : Code) : State :=
  match s.enrolTag with
  | some tag => { s with enrolTag := none }.send .supervisor [.answerSL tag 0x18 code .empty]
  | none => s

/-- The echo wait in an ordinary cycle: the echo makes the record ASSIGNED and ends the wait, and any
other content of the slot leaves one cycle less (R98). On a RUNNING line it does so also of a record that is
no longer ABSENT, which is the model's choice (log entry 28). -/
def State.readEcho (s : State) (slots : PerAddr Slot) : State :=
  match s.line.echoWait with
  | some (a, t) =>
    if readSlot (slots.get a) = .value a.number then
      ((s.setLine { s.line with echoWait := none }).putRecord a
        { s.sensors.get a with state := .assigned }).answerEnrol .ok
    else s.setLine { s.line with echoWait := some (a, t.count) }
  | none => s

/-- The echo wait runs out, when its end is due: the record stays ABSENT and the ENROL_NEXT is
answered NO_SENSOR (R98). -/
def State.expireEcho (s : State) : State :=
  match s.line.echoWait with
  | some (_, .due) => (s.setLine { s.line with echoWait := none }).answerEnrol .noSensor
  | _ => s

/-- ECHO_WAIT_EXPIRY (R98). -/
def execEchoWaitExpiry (s : State) : Host.Outcome State Fault Refusal := .next s.expireEcho

/-! ### Starting a sensor (R101 .. R104) -/

/-- A record whose third attempt has failed (R103). -/
def SensorRec.fail (r : SensorRec) : SensorRec :=
  { r with state := .failed, history := [], figures := none }

/-- An attempt fails (R103). -/
def State.failAttempt (s : State) (a : Addr) : State :=
  let r := s.sensors.get a
  if r.attempts < 3 then
    (s.putRecord a { r with state := .starting .awaitingCommand }).listCommand (.runTo a)
  else s.putRecord a r.fail

/-- A record in CHECKING has reached 40 attempt cycles (R102). -/
def SensorRec.checkingDue (r : SensorRec) : Bool :=
  r.state == .starting .checking && decide (40 ≤ r.attemptCycles)

/-- The attempt of a record in CHECKING fails at 40 attempt cycles, when that is due (R102). -/
def State.expireChecking (s : State) (a : Addr) : State :=
  if (s.sensors.get a).checkingDue then s.failAttempt a else s

/-- The failures due at addresses below one, so that RUN-TOs of one counted cycle are listed in
ascending address (R103). -/
def State.expireCheckingBelow (s : State) (a : Addr) : State :=
  (Addr.all.filter fun b => decide (b.number < a.number)).foldl State.expireChecking s

/-- CHECKING_TIMEOUT (R102). -/
def execCheckingTimeout (a : Addr) (s : State) : Host.Outcome State Fault Refusal :=
  .next (if (s.sensors.get a).checkingDue then (s.expireCheckingBelow a).expireChecking a else s)

/-- A record in IDENTITY has reached 8 attempt cycles without a word (R101, R104). -/
def SensorRec.silentDue (r : SensorRec) : Bool :=
  r.state == .starting .identity && r.identity.isEmpty && decide (8 ≤ r.attemptCycles)

/-- A silent anemometer is taken to be absent, when that is due (R104). -/
def State.expireSilent (s : State) (a : Addr) : State :=
  if (s.sensors.get a).silentDue then s.putRecord a .blank else s

/-- SENSOR_SILENT (R104). -/
def execSensorSilent (a : Addr) (s : State) : Host.Outcome State Fault Refusal :=
  .next (s.expireSilent a)

/-- A slot in start phase IDENTITY (R101): the record after it, or none when the attempt fails. -/
def SensorRec.identitySlot (r : SensorRec) (x : Reply) : Option SensorRec :=
  match x with
  | .value v =>
    let id := r.identity ++ [BitVec.ofNat 10 v]
    if id.length = 8 then
      some { r with identity := id, state := .starting .checking, readyRun := 0 }
    else some { r with identity := id }
  | .missing => if r.identity.isEmpty then some r else none
  | .badCheck => none

/-- A slot in start phase CHECKING (the table of R102): the record after it, or none when the attempt
fails. -/
def SensorRec.checkingSlot (r : SensorRec) (x : ReplyClass) : Option SensorRec :=
  match x with
  | .ready =>
    if 1 ≤ r.readyRun then some { r with readyRun := 2, state := .starting .firstSpeed }
    else some { r with readyRun := r.readyRun + 1 }
  | .sensorFault => none
  | .busy | .speed _ | .bad | .missing => some { r with readyRun := 0 }

/-- The slot in start phase FIRST_SPEED (R102): the record after it, or none when the attempt fails. -/
def SensorRec.firstSpeedSlot (r : SensorRec) (x : ReplyClass) : Option SensorRec :=
  match x with
  | .speed v => some { r.addSample v with state := .running, missRun := 0, goodRun := 0 }
  | .ready | .sensorFault | .busy | .bad | .missing => none

/-! ### Running sensors (R105 .. R107) -/

/-- A SENSOR_FAULT reply in RUNNING or FAULT (R107). -/
def SensorRec.declareFailed (r : SensorRec) : SensorRec := { r.fail with missRun := 0, goodRun := 0 }

/-- A slot in RUNNING (R105). -/
def SensorRec.runningSlot (r : SensorRec) (x : ReplyClass) : SensorRec :=
  match x with
  | .speed v => { r.addSample v with missRun := 0 }
  | .sensorFault => r.declareFailed
  | .bad | .missing | .busy | .ready =>
    if 2 ≤ r.missRun then { r with missRun := 3, state := .fault, goodRun := 0 }
    else { r with missRun := r.missRun + 1 }

/-- A slot in FAULT (R106). -/
def SensorRec.faultSlot (r : SensorRec) (x : ReplyClass) : SensorRec :=
  match x with
  | .speed v =>
    if 7 ≤ r.goodRun then { r.addSample v with state := .running, missRun := 0, goodRun := 0 }
    else { r.addSample v with goodRun := r.goodRun + 1 }
  | .sensorFault => r.declareFailed
  | .bad | .missing | .busy | .ready => { r with goodRun := 0 }

/-! ### The reading of a cycle -/

/-- A word in the slot of a watched ABSENT record makes it STARTING, whatever its check (R100). -/
def State.findWatched (s : State) (a : Addr) (x : Reply) : State :=
  let r := s.sensors.get a
  match s.line.runWatch, r.state with
  | some w, .absent =>
    if w < 8 ∧ x ≠ .missing then s.putRecord a (r.beginAttempt 1 w) else s
  | _, _ => s

/-- The record is in an attempt. -/
def SensorState.inAttempt : SensorState → Bool
  | .starting .identity | .starting .checking | .starting .firstSpeed => true
  | .starting .awaitingCommand | .absent | .assigned | .running | .fault | .failed => false

/-- One counted cycle is added to an attempt, up to 40 (section 5.5). -/
def SensorRec.countCycle (r : SensorRec) : SensorRec :=
  { r with attemptCycles := min 40 (r.attemptCycles + 1) }

/-- The slot of a record in an attempt: the record moves on or the attempt fails, and the cycle is
counted for the attempt (R101, R102, R103). -/
def State.readAttempt (s : State) (a : Addr) (moved : Option SensorRec) : State :=
  match moved with
  | some r => s.putRecord a r.countCycle
  | none => ((s.expireCheckingBelow a).setSensor a (s.sensors.get a).countCycle).failAttempt a

/-- One address's slot in an ordinary cycle of a RUNNING line, by the record's state (R91, R100 ..
R107). -/
def State.readAddr (slots : PerAddr Slot) (s : State) (a : Addr) : State :=
  let x := readSlot (slots.get a)
  let t := s.findWatched a x
  let r := t.sensors.get a
  match r.state with
  | .starting .identity => t.readAttempt a (r.identitySlot x)
  | .starting .checking => t.readAttempt a (r.checkingSlot x.cls)
  | .starting .firstSpeed => t.readAttempt a (r.firstSpeedSlot x.cls)
  | .running => t.putRecord a (r.runningSlot x.cls)
  | .fault => t.putRecord a (r.faultSlot x.cls)
  | .starting .awaitingCommand | .absent | .assigned | .failed => t

/-- The run watch at the end of a counted cycle; its stop at 8 is a step of its own (R100). -/
def LineRec.countWatch (l : LineRec) : LineRec :=
  { l with runWatch := l.runWatch.map fun w => min 8 (w + 1) }

/-- The run watch stops, when it stands at 8 (R100). -/
def State.stopWatch (s : State) : State :=
  if s.line.runWatch = some 8 then s.setLine { s.line with runWatch := none } else s

/-- RUN_WATCH_END (R100). -/
def execRunWatchEnd (s : State) : Host.Outcome State Fault Refusal := .next s.stopWatch

/-- The slots of a cycle are handled: of an ordinary cycle alone, by the echo wait, and in RUNNING by
the sensor records and the run watch too (R91). Where an echo wait stands in RUNNING it takes its slot before
the run watch does, which is the model's choice (log entry 28). The addresses are taken in ascending order, and
their alerts with them, which is its choice too (log entry 10). -/
def State.readSlots (s : State) (kind : CycleKind) (slots : PerAddr Slot) : State :=
  match kind, s.line.state with
  | .ordinary, .enrolling => s.readEcho slots
  | .ordinary, .running =>
    let t := Addr.all.foldl (State.readAddr slots) (s.readEcho slots)
    t.setLine t.line.countWatch
  | _, _ => s

/-- What the last counted cycle has brought to its end is taken: the echo wait, the run watch and the
attempts (R98, R100, R102, R104). -/
def State.takeCycleEnds (s : State) : State :=
  let s := s.expireEcho.stopWatch
  let s := Addr.all.foldl State.expireChecking s
  Addr.all.foldl State.expireSilent s

/-- The reading of the cycle in progress ends: its slots are handled and the hand-over is made. A
next cycle whose start waits for it begins, after what the cycle has brought to its end (R91, R102, R109,
log entry 5). -/
def State.endReading (s : State) (slots : PerAddr Slot) (k : Nat) : State :=
  match s.cycle with
  | some c =>
    let t := { s.readSlots c.kind slots with cycle := none }.handOver k
    if 5 ≤ c.age then t.takeCycleEnds.startCycle else t
  | none => s

/-- The reading of a cycle ends at its fourth tick (R147). -/
def State.readingDue (s : State) : Bool :=
  match s.cycle with
  | some c => decide (4 ≤ c.age)
  | none => false

/-- WIND_CYCLE_READING_END (R91, R109). -/
def execWindCycleReadingEnd (slots : PerAddr Slot) (s : State) : Host.Outcome State Fault Refusal :=
  .next (if s.readingDue then s.choose.2.endReading slots s.choose.1 else s)

/-! ### Power -/

/-- Line power goes or comes: a cycle in progress has no pulse and no slots from here on. -/
def State.cutCycle (s : State) : State :=
  { s with cycle := s.cycle.map fun c => { c with kind := .unpowered } }

/-- Every record becomes ABSENT with its lists empty and its counts 0 (R95, R111). -/
def State.blankRecords (s : State) : State :=
  Addr.all.foldl (fun s a => s.putRecord a .blank) s

/-- The line is powered up (R95). -/
def State.powerUpLine (s : State) : State := (s.cutCycle.blankRecords).setLine .poweredUp

/-- The line record of a stopped line (R111). -/
def LineRec.stopped : LineRec :=
  { state := .off, windowCount := 0, windowOpen := false, enrolHeld := false, echoWait := none,
    commands := [], runWatch := none }

/-- The line is stopped; an ENROL_NEXT that awaits its answer is answered NO_SENSOR (R111, R178). -/
def State.stopPower (s : State) : State :=
  ((s.cutCycle.setLine .stopped).answerEnrol .noSensor).blankRecords

/-! ### Commands of the supervisor -/

/-- ENROL_NEXT (R97): the refusals in order, or none, when it is accepted. -/
def State.enrolRefusal (s : State) (addr : Nat) : Option Code :=
  match Addr.ofNumber? addr with
  | none => some .range
  | some a =>
    if s.line.windowOpen = false then some .closed
    else if s.line.echoWait.isSome = true ∨ s.line.assignListed = true then some .busy
    else if (s.sensors.get a).state ≠ .absent then some .inUse
    else none

/-- ENROL_NEXT (R97, R178): accepted, it is answered later. -/
def State.enrolNext (s : State) (tag addr : Nat) : State × Option Frame :=
  match s.enrolRefusal addr, Addr.ofNumber? addr with
  | none, some a =>
    ({ s.setLine { s.line with enrolHeld := true } with enrolTag := some tag }.listCommand
      (.assign a), none)
  | none, none => (s, none)
  | some code, _ => (s, some (.answerSL tag 0x18 code .empty))

/-- ENROL_NEXT (R97). -/
def execEnrolNext (tag addr : Nat) (s : State) : Host.Outcome State Fault Refusal :=
  .next (s.handle .supervisor fun s => s.enrolNext tag addr)

/-- RUN_LINE (R99). With both a RUN and an ASSIGN listed the rule gives BUSY and OK alike; the model answers
BUSY, which is its choice (log entry 35). -/
def State.runLine (s : State) : State × Code × Data :=
  match s.line.state with
  | .off | .running => (s, .lineState, .empty)
  | .enrolling =>
    if s.line.echoWait.isSome = true ∨ s.line.assignListed = true then (s, .busy, .empty)
    else (s.listCommand .run, .ok, .empty)

/-- RUN_LINE (R99). -/
def execRunLine (tag : Nat) (s : State) : Host.Outcome State Fault Refusal :=
  .next (s.command tag 0x19 State.runLine)

/-- STOP_LINE (R111). -/
def State.stopLine (s : State) : State × Code × Data :=
  match s.line.state with
  | .off => (s, .ok, .empty)
  | .enrolling | .running => (s.stopPower, .ok, .empty)

/-- STOP_LINE (R111). -/
def execStopLine (tag : Nat) (s : State) : Host.Outcome State Fault Refusal :=
  .next (s.command tag 0x1A State.stopLine)

/-- START_LINE (R95). -/
def State.startLine (s : State) : State × Code × Data :=
  match s.line.state with
  | .off => (s.powerUpLine, .ok, .empty)
  | .enrolling | .running => (s, .lineState, .empty)

/-- START_LINE (R95). -/
def execStartLine (tag : Nat) (s : State) : Host.Outcome State Fault Refusal :=
  .next (s.command tag 0x1B State.startLine)

/-- A record given SENSOR_RESTART (R110). -/
def SensorRec.restarted (r : SensorRec) : SensorRec :=
  { r with state := .starting .awaitingCommand, attempts := 0, history := [], figures := none,
           missRun := 0, goodRun := 0, attemptCycles := 0, readyRun := 0 }

/-- SENSOR_RESTART (R110). The rule accepts it for ABSENT, RUNNING, FAULT and FAILED and refuses STARTING; of
ASSIGNED, which an ASSIGN sent after RUN can leave on a RUNNING line, it says nothing, and the model accepts
it, which is its choice (log entry 29). -/
def State.sensorRestart (s : State) (addr : Nat) : State × Code × Data :=
  match Addr.ofNumber? addr with
  | none => (s, .range, .empty)
  | some a =>
    let r := s.sensors.get a
    if s.line.state ≠ .running then (s, .lineState, .empty)
    else if r.state.isStarting = true then (s, .busy, .empty)
    else ((s.putRecord a r.restarted).listCommand (.runTo a), .ok, .empty)

/-- SENSOR_RESTART (R110). -/
def execSensorRestart (tag addr : Nat) (s : State) : Host.Outcome State Fault Refusal :=
  .next (s.command tag 0x1C fun s => s.sensorRestart addr)

end Sys2Proof.Machine
end

