-- ==== Sys2Proof/Machine/Station.lean ====
section
/-! DEFINITION. The Station Unit (02_crane_stations.md): joining, position reports, the loss of a crane,
the crane's queries, and the meanings of HELLO, POSITION, MY_ZONES, MY_BOOKINGS, REPORT_TIMER_EXPIRY
and LINK_DWELL_EXPIRY. -/

namespace Sys2Proof.Machine

/-! ### Joining (R25, R26) -/

/-- The refusals of a HELLO, in order (R25). -/
def State.helloRefusal (s : State) (n : Station) (identity : Nat) : Option Code :=
  if s.plan.invalid then some .noPlan
  else if (s.station n).enabled = false then some .disabled
  else if identity ≠ (s.station n).identity then some .wrongCrane
  else none

/-- The LINK_STALE condition of a station ends, if it was present (R26, R29, R32). -/
def State.staleEnds (s : State) (n : Station) (was : LinkState) : State :=
  if was = .stale then s.alarmEnds (.linkStale n) else s

/-- The effects of an accepted HELLO (R26, R82). -/
def State.join (s : State) (n : Station) : State :=
  let c := s.ctx.get n
  let t := s.setCtx n
    { c with link := .joining, linkDwell := .running (s.station n).offlineDwell,
             reportTimer := .stopped, rise := none, profileHeld := false }
  ((t.staleEnds n c.link).setVWind n 0).reevalPermit n

/-- HELLO (R25, R26). -/
def State.hello (s : State) (n : Station) (identity : Nat) : State × Code × Data :=
  match s.helloRefusal n identity with
  | some code => (s, code, .empty)
  | none => (s.join n, .ok, .joined n s.plan.revision (s.ctx.get n).link)

/-- HELLO (R25). -/
def execHello (n : Station) (identity : Nat) (s : State) : Host.Outcome State Fault Refusal :=
  .next (s.craneRequest n 0x01 fun s => s.hello n identity)

/-! ### Position reports (R28, R29) -/

/-- The lowest-numbered profile in use of a station record. -/
def lowestInUse (r : StationRec) : Option ProfileIx :=
  (List.finRange 8).find? fun i => (profileAt r i).inUse

/-- The profile in use and profile held after a report (R28). -/
def selectProfile (r : StationRec) (present : Option ProfileIx) (carried : Nat) :
    Option ProfileIx × Bool :=
  match r.source with
  | .fixed i => (some i, false)
  | .crane =>
    let i : ProfileIx := Fin.ofNat 8 carried
    if (profileAt r i).inUse then (some i, false)
    else
      match present with
      | some p => (some p, true)
      | none => (lowestInUse r, true)

/-- The Station Unit's own fields after a report (R28). -/
def StationCtx.report (c : StationCtx) (r : StationRec) (angle : Angle) (radius profile : Nat)
    (loaded released : Bool) : StationCtx :=
  let p := selectProfile r c.profile profile
  { c with rise := some loaded, profile := p.1, profileHeld := p.2,
           position := some { angle, radius := min radius r.jibRadius, loaded, released } }

/-- Step 3 of R29: a JOINING or STALE station becomes ONLINE, and the Zone Arbiter judges the report,
with adoption when it completes a join. -/
def State.reportJudged (s : State) (n : Station) : State :=
  let was := (s.ctx.get n).link
  ((s.setCtx n { s.ctx.get n with link := .online }).staleEnds n was).judgeReport n
    (was == .joining)

/-- Step 4 of R29: the report timer restarts, the link dwell timer stops and the motion permit is
re-evaluated. -/
def State.restartReport (s : State) (n : Station) : State :=
  (s.setCtx n { s.ctx.get n with reportTimer := .running (s.station n).reportTimeout,
                                 linkDwell := .stopped }).reevalPermit n

/-- A report with a loaded flag would be a load rise: the rise reference is "not loaded" (R28). -/
def State.loadRises (s : State) (n : Station) (loaded : Bool) : Bool :=
  (s.ctx.get n).rise == some false && loaded

/-- An accepted position report, handed on through the blocks in the order of R29. -/
def State.report (s : State) (n : Station) (angle : Angle) (radius profile : Nat)
    (loaded released : Bool) : State :=
  let c := s.ctx.get n
  let rises := s.loadRises n loaded
  let t := s.setCtx n (c.report (s.station n) angle radius profile loaded released)
  let t := t.takeBrake n released
  let t := if rises then t.loadRise n else t
  ((t.reportJudged n).restartReport n).recompute n

/-- The highest alarm of a station (R189). -/
def State.highest (s : State) (n : Station) : Option AlarmKind :=
  highestAlarm s.alarms (s.station n).anemometers n

/-- The data of the position answer (R33). -/
def State.positionAnswer (s : State) (n : Station) : PositionAnswer :=
  let c := s.ctx.get n
  let l := s.lim.get n
  let b := s.bookings.find? fun b => b.station == n && b.inWindow
  { link := c.link, mp := c.mp, profileHeld := c.profileHeld, cw := l.cw, ccw := l.ccw,
    radius := l.radius, stage := (s.wind.get n).stage, vane := (s.vane.get n).vane,
    zones := s.zoneSets n,
    booking := (b.map (·.number)).getD 0,
    remaining := ((b.bind Booking.window?).map (·.remaining)).getD 0,
    highest := s.highest n, revision := s.plan.revision }

/-- POSITION: refused NOT_JOINED from a station in OFFLINE, and handled as a report from any other
(R24). -/
def State.position (s : State) (n : Station) (angle : Angle) (radius profile : Nat)
    (loaded released : Bool) : State × Code × Data :=
  if (s.ctx.get n).link = .offline then (s, .notJoined, .empty)
  else
    let t := s.report n angle radius profile loaded released
    (t, .ok, .position (t.positionAnswer n))

/-- The state a position report is taken on: after the outstanding steps of the boundary when the report is
a load rise, which is for the Booking Engine (log entry 1). The frames these raise go out before the
answer (R34, R179). -/
def State.beforeReport (s : State) (n : Station) (loaded : Bool) : State :=
  if (s.ctx.get n).link ≠ .offline ∧ s.loadRises n loaded = true then s.settleBookings else s

/-- POSITION (R29). -/
def execPosition (n : Station) (angle : Angle) (radius profile : Nat) (loaded released : Bool)
    (s : State) : Host.Outcome State Fault Refusal :=
  .next ((s.beforeReport n loaded).craneRequest n 0x02 fun s =>
    s.position n angle radius profile loaded released)

/-! ### Timeout and loss (R30, R32) -/

/-- The tick at the Station Unit: the report timer counts (R30). -/
def StationCtx.tick (c : StationCtx) : StationCtx := { c with reportTimer := c.reportTimer.count }

/-- The second boundary at the Station Unit: the link dwell timer counts (R27, R31). -/
def StationCtx.boundary (c : StationCtx) : StationCtx := { c with linkDwell := c.linkDwell.count }

/-- The report timer expires, when that is due (R30). -/
def State.expireReport (s : State) (n : Station) : State :=
  let c := s.ctx.get n
  if c.reportTimer = .due then
    ((s.setCtx n { c with link := .stale, reportTimer := .stopped,
                          linkDwell := .running (s.station n).offlineDwell }).alarmBegins
      (.linkStale n)).reevalPermit n
  else s

/-- The link dwell timer expires, when that is due: station loss (R32). -/
def State.expireLink (s : State) (n : Station) : State :=
  let c := s.ctx.get n
  if c.linkDwell = .due then
    let t := s.setCtx n { c with link := .offline, reportTimer := .stopped, linkDwell := .stopped }
    ((((t.staleEnds n c.link).reevalPermit n).loseWaits n).setVWind n 0)
  else s

/-- REPORT_TIMER_EXPIRY (R30). -/
def execReportTimerExpiry (n : Station) (s : State) : Host.Outcome State Fault Refusal :=
  .next (s.expireReport n)

/-- LINK_DWELL_EXPIRY (R32). -/
def execLinkDwellExpiry (n : Station) (s : State) : Host.Outcome State Fault Refusal :=
  .next (s.expireLink n)

/-! ### Queries of the crane (R35, R36) -/

/-- The entry of a zone in a MY_ZONES answer (R35). -/
def State.myZone (s : State) (n : Station) (z : Zone) : Option MyZone :=
  (s.member z n).map fun m =>
    { zone := z, lo := m.lo, hi := m.hi, floor := m.floor,
      others := (s.members z).filter fun k => k != n }

/-- MY_ZONES (R35). -/
def State.listZones (s : State) (n : Station) (first : Nat) : State × Code × Data :=
  if 63 < first then (s, .range, .empty)
  else
    let zs := (s.memberZones n).filter fun z => decide (first ≤ z.val)
    (s, .ok, .myZones ((zs.take 16).filterMap (s.myZone n)) s.plan.revision
      ((zs.drop 16).head?.map (·.val)))

/-- MY_BOOKINGS (R36). -/
def State.listBookings (s : State) (n : Station) (first : Nat) : State × Code × Data :=
  let bs := s.bookings.filter fun b => b.station == n && decide (first ≤ b.number)
  (s, .ok, .myBookings (bs.take 6) (s.ctx.get n).lastEnded
    (((bs.drop 6).head?.map (·.number)).getD 0))

/-- MY_ZONES (R35). -/
def execMyZones (n : Station) (first : Nat) (s : State) : Host.Outcome State Fault Refusal :=
  .next (s.onlineRequest n 0x09 fun s => s.listZones n first)

/-- MY_BOOKINGS (R36). -/
def execMyBookings (n : Station) (first : Nat) (s : State) : Host.Outcome State Fault Refusal :=
  .next (s.onlineRequest n 0x0A fun s => s.listBookings n first)

end Sys2Proof.Machine
end

