-- ==== Sys2Proof/Machine/Commit.lean ====
section
/-! DEFINITION. The Plan Unit (01_the_zone_plan.md): staging, the checks of a commit, a commit that takes
effect on every block in turn, the moments of a pending commit, the plan store, and the meanings of the
plan commands, AT_TIME_COMMIT_MOMENT and STORE_WRITE_END. -/

namespace Sys2Proof.Machine

/-! ### Staging (R3, R5, R6, R7) -/

/-- A commit is pending. -/
def State.commitPending (s : State) : Bool := s.plan.pendingCommit != .absent

/-- The staged plan is replaced. -/
def State.setStaged (s : State) (p : PlanImage) : State := s.setPlan { s.plan with staged := p }

/-- STAGE_STATION (R3). -/
def State.stageStation (s : State) (number : Nat) (fields : WireStation) : State × Code × Data :=
  if s.commitPending then (s, .busy, .empty)
  else
    match Station.ofNumber? number, acceptStation fields with
    | some n, some r =>
      (s.setStaged { s.plan.staged with stations := s.plan.staged.stations.set n r }, .ok, .empty)
    | _, _ => (s, .range, .empty)

/-- STAGE_ZONE (R5). -/
def State.stageZone (s : State) (number : Nat) (fields : WireZone) : State × Code × Data :=
  if s.commitPending then (s, .busy, .empty)
  else
    match Zone.ofNumber? number, acceptZone fields with
    | some z, some r =>
      (s.setStaged { s.plan.staged with zones := s.plan.staged.zones.set z r }, .ok, .empty)
    | _, _ => (s, .range, .empty)

/-- STAGE_SITE (R6). While a commit is pending it is answered BUSY whatever its fields are: R6 gives BUSY and
RANGE no order, and BUSY first is the model's choice (log entry 36). -/
def State.stageSite (s : State) (clearanceTimeout siteDerate realign : Nat) :
    State × Code × Data :=
  if s.commitPending then (s, .busy, .empty)
  else
    match acceptSite clearanceTimeout siteDerate realign with
    | some r => (s.setStaged { s.plan.staged with site := r }, .ok, .empty)
    | none => (s, .range, .empty)

/-- RESTAGE (R7). -/
def State.restage (s : State) : State × Code × Data :=
  if s.commitPending then (s, .busy, .empty) else (s.setStaged s.plan.live, .ok, .empty)

/-- STAGE_STATION (R3). -/
def execStageStation (tag number : Nat) (fields : WireStation) (s : State) :
    Host.Outcome State Fault Refusal :=
  .next (s.command tag 0x01 fun s => s.stageStation number fields)

/-- STAGE_ZONE (R5). -/
def execStageZone (tag number : Nat) (fields : WireZone) (s : State) :
    Host.Outcome State Fault Refusal :=
  .next (s.command tag 0x02 fun s => s.stageZone number fields)

/-- STAGE_SITE (R6). -/
def execStageSite (tag clearanceTimeout siteDerate realign : Nat) (s : State) :
    Host.Outcome State Fault Refusal :=
  .next (s.command tag 0x03 fun s => s.stageSite clearanceTimeout siteDerate realign)

/-- RESTAGE (R7). -/
def execRestage (tag : Nat) (s : State) : Host.Outcome State Fault Refusal :=
  .next (s.command tag 0x04 State.restage)

/-! ### The checks (R9, R10) -/

/-- A zone is changed: its staged record differs from its live record (R10). -/
def State.zoneChanged (s : State) (z : Zone) : Bool :=
  s.plan.staged.zones.get z != s.plan.live.zones.get z

/-- A staged station fails the cross-record check: it is enabled without an assigned anemometer
(R9). -/
def stationCrossFails (p : PlanImage) (n : Station) : Bool :=
  (p.stations.get n).enabled && !Addr.all.any fun a => (p.stations.get n).anemometers.get a

/-- A staged zone fails the cross-record check: it is enabled and a member is disabled (R9). -/
def zoneCrossFails (p : PlanImage) (z : Zone) : Bool :=
  (p.zones.get z).enabled &&
    (p.zones.get z).members.any fun m => !(p.stations.get m.station).enabled

/-- The lowest-numbered record that fails: first any station, then any zone (R8). -/
def firstFailing (station : Station → Bool) (zone : Zone → Bool) : Option RecordName :=
  match Station.all.find? station with
  | some n => some (.station n)
  | none => (Zone.all.find? zone).map .zone

/-- The cross-record check of the staged plan, by the record that fails it (R9). -/
def State.crossCheck (s : State) : Option RecordName :=
  firstFailing (stationCrossFails s.plan.staged) (zoneCrossFails s.plan.staged)

/-- A dynamic record is FREE, with an empty wait list, an empty swept set and no reservation (R10). -/
def ZoneDyn.clear (d : ZoneDyn) : Bool :=
  d.hold.isNone && d.waiting.isEmpty && d.reservation.isNone && d.swept == .const false

/-- A changed zone enabled in the live plan fails the in-use check unless it is clear (R10). -/
def State.zoneInUse (s : State) (z : Zone) : Bool :=
  s.zoneChanged z && (s.zone z).enabled &&
    match s.zones.get z with
    | some d => !d.clear
    | none => false

/-- A station the staged plan disables fails the in-use check unless it is OFFLINE (R10). -/
def State.stationInUse (s : State) (n : Station) : Bool :=
  (s.station n).enabled && !(s.plan.staged.stations.get n).enabled
    && (s.ctx.get n).link != .offline

/-- The in-use check, by the record that fails it (R10). -/
def State.inUseCheck (s : State) : Option RecordName := firstFailing s.stationInUse s.zoneInUse

/-! ### A commit that takes effect (R12, R13) -/

/-- The six station-scope entries of a station become CLEAR, with no alert (R191). -/
def State.clearStationEntries (s : State) (n : Station) : State :=
  [AlarmId.unsafeVane n, .intrusion n, .conflict n, .clearanceOverdue n, .windLost n,
   .linkStale n].foldl (fun s i => s.setEntry i .cleared) s

/-- The live plan's site derate and realign enable are handed on (R6). -/
def State.handOnSettings (s : State) : State :=
  { s with siteDerate := s.plan.live.site.siteDerate,
           clock := { s.clock with realign := s.plan.live.site.realign } }

/-- The Plan Unit's own part: the staged plan becomes live, the revision goes on, and the PLAN_INVALID
and COMMIT_FAILED conditions end (R2, R12). -/
def State.replaceLive (s : State) : State :=
  (((s.setPlan { s.plan with live := s.plan.staged, revision := (s.plan.revision + 1) % 65536,
                             pendingCommit := .absent, invalid := false,
                             commitFailed := false }).alarmEnds .planInvalid).alarmEnds
    .commitFailed).handOnSettings

/-- A disabled station's context at a commit: the link side keeps its last ended booking (R41). -/
def StationCtx.disable (c : StationCtx) : StationCtx :=
  { c with position := none, rise := none, profile := none, profileHeld := false }

/-- The Station Unit takes the commit for a station disabled by it, whose alarm entries become CLEAR
(R41, R191). -/
def State.commitStation (s : State) (n : Station) : State :=
  (s.setCtx n (s.ctx.get n).disable).clearStationEntries n

/-- The Zone Arbiter re-creates or discards the record of a changed zone (R13, R69). -/
def State.recreateZone (s : State) (z : Zone) : State :=
  s.setZone z (if (s.zone z).enabled then some .fresh else none)

/-- The Zone Arbiter takes the commit (R69). -/
def State.commitArbiter (s : State) (changed : List Zone) (disabled : List Station) : State :=
  let t := changed.foldl State.recreateZone s
  let t := disabled.foldl (fun s n => s.setArb n .reset) t
  Station.all.foldl State.reevalConflict t

/-- A PENDING booking does not survive the new live plan (R13). -/
def State.bookingStranded (s : State) (b : Booking) : Bool :=
  b.state == .pending &&
    (!(s.station b.station).enabled
      || b.zones.any fun z => !(s.zone z).enabled || !s.isMember z b.station)

/-- The Booking Engine takes the commit, in ascending number (R174). -/
def State.commitBookings (s : State) : State :=
  s.overBookings (fun _ => true) fun s b =>
    if s.bookingStranded b then s.endBooking b .cancelledPlan else s

/-- The Wind Stage Unit takes the commit: a station disabled or enabled by it starts from the reset
values, and one enabled under a site stop becomes SHUTDOWN (R127). -/
def State.commitWind (s : State) (disabled enabled : List Station) (k : Nat) : State :=
  let t := (disabled ++ enabled).foldl (fun s n => s.setWind n .reset) s
  if t.siteStop then
    ((stationOrder k).filter enabled.contains).foldl
      (fun s n => s.changeStage n .shutdown (bookingFirst k n)) t
  else t

/-- The Limit Unit applies the sets of R82 to one station (R87). -/
def State.commitSpeed (disabled : List Station) (s : State) (n : Station) : State :=
  if disabled.contains n then
    let t := s.setVWind n 0
    t.setLim n .reset
  else if (s.station n).vRated < (s.lim.get n).vWind ∧ (s.station n).enabled = true then
    s.setVWind n (s.station n).vRated
  else s

/-- The Limit Unit takes the commit (R87). -/
def State.commitLimits (s : State) (disabled : List Station) : State :=
  let t := Station.all.foldl (State.commitSpeed disabled) s
  (Station.all.filter fun n => (t.station n).enabled).foldl State.recompute t

/-- Steps 1 to 3 of R143 for one enabled station. -/
def State.commitVane (s : State) (n : Station) : State :=
  let t := (s.judgeSequence n).judgeClear n
  let c := t.vane.get n
  if c.vane = .vaning ∧ t.zonesClearFor n = false then t.setVane n { c with vc := false } else t

/-- The Shutdown Unit takes the commit (R143), one station whole after the other (log entry 34). -/
def State.commitShutdown (s : State) (disabled : List Station) (k : Nat) : State :=
  let t := disabled.foldl (fun s n => s.setVane n .reset) s
  ((stationOrder k).filter fun n => (t.station n).enabled).foldl State.commitVane t

/-- The Booking Engine and the Wind Stage Unit, in the order choice `k` picks (R12), each whole before the
other, which is the model's choice (log entry 34). -/
def State.commitBoth (s : State) (disabled enabled : List Station) (k : Nat) : State :=
  if (k / 720).testBit 0 then (s.commitBookings).commitWind disabled enabled k
  else (s.commitWind disabled enabled k).commitBookings

/-- A commit takes effect, block by block in the order of R12. A station it enables keeps the last ended booking
left from before an earlier disabling, as R38 says of commits, though R41 has it stand as R23 leaves it: the
model's choice (log entry 37). -/
def State.commitEffect (s : State) (k : Nat) : State :=
  let changed := Zone.all.filter s.zoneChanged
  let disabled := Station.all.filter fun n =>
    (s.station n).enabled && !(s.plan.staged.stations.get n).enabled
  let enabled := Station.all.filter fun n =>
    !(s.station n).enabled && (s.plan.staged.stations.get n).enabled
  let t := disabled.foldl State.commitStation s.replaceLive
  let t := t.commitArbiter changed disabled
  let t := t.commitBoth disabled enabled k
  let t := (t.commitLimits disabled).commitShutdown disabled k
  Station.all.foldl State.reevalPermit t

/-- A commit takes effect with the next free choice (log entry 4). -/
def State.commitNow (s : State) : State := s.choose.2.commitEffect s.choose.1

/-! ### COMMIT and its moments (R8, R11, R14) -/

/-- Modes of a COMMIT. -/
inductive CommitMode where
  | now | atMark
  | atTime (target : Nat)
deriving DecidableEq, Repr

/-- The mode a COMMIT carries; the target is ignored unless the mode is AT_TIME (R199). -/
def readCommitMode (mode target : Nat) : Option CommitMode :=
  match mode with
  | 0 => some .now
  | 1 => some .atMark
  | 2 => if target ≤ maxTime then some (.atTime target) else none
  | _ => none

/-- Steps 3 and 4 of R8, and what a COMMIT does when they pass. -/
def State.commitChecked (s : State) (m : CommitMode) : State × Code × Data :=
  match s.crossCheck, s.inUseCheck with
  | some r, _ => (s, .invalid, .record r)
  | none, some r => (s, .inUse, .record r)
  | none, none =>
    match m with
    | .now => (s.commitNow, .ok, .revision s.commitNow.plan.revision)
    | .atMark =>
      (s.setPlan { s.plan with pendingCommit := .atMark }, .ok, .revision s.plan.revision)
    | .atTime t =>
      (s.setPlan { s.plan with pendingCommit := .atTime t false }, .ok,
        .revision s.plan.revision)

/-- COMMIT (R8). -/
def State.commit (s : State) (mode target : Nat) : State × Code × Data :=
  if s.commitPending then (s, .busy, .empty)
  else
    match readCommitMode mode target with
    | none => (s, .range, .empty)
    | some (.atTime t) =>
      if s.clock.timeSet = false then (s, .timeUnset, .empty)
      else if t ≤ s.clock.time then (s, .late, .empty)
      else s.commitChecked (.atTime t)
    | some .now => s.commitChecked .now
    | some .atMark => s.commitChecked .atMark

/-- COMMIT (R8). -/
def execCommit (tag mode target : Nat) (s : State) : Host.Outcome State Fault Refusal :=
  .next (s.command tag 0x05 fun s => s.commit mode target)

/-- A pending commit comes to its moment: it takes effect, or it is abandoned and COMMIT_FAILED is
present (R11). -/
def State.commitMoment (s : State) : State :=
  match s.inUseCheck with
  | none => s.commitNow
  | some _ =>
    let t := s.setPlan { s.plan with pendingCommit := .absent, commitFailed := true }
    if s.plan.commitFailed then t else t.alarmBegins .commitFailed

/-- The second boundary at the Plan Unit: an AT_TIME commit whose target the site time has reached is
at its moment (R11). -/
def PlanUnit.boundary (p : PlanUnit) (now : Nat) : PlanUnit :=
  match p.pendingCommit with
  | .atTime t _ => if t ≤ now then { p with pendingCommit := .atTime t true } else p
  | .absent | .atMark => p

/-- The moment of an AT_TIME commit, when it has come (R11). -/
def State.atTimeMoment (s : State) : State :=
  match s.plan.pendingCommit with
  | .atTime _ true => s.commitMoment
  | _ => s

/-- The moment of an AT_MARK commit, at a time mark (R11, R152). -/
def State.atMarkMoment (s : State) : State :=
  match s.plan.pendingCommit with
  | .atMark => s.commitMoment
  | .absent | .atTime _ _ => s

/-- AT_TIME_COMMIT_MOMENT (R11). -/
def execAtTimeCommitMoment (s : State) : Host.Outcome State Fault Refusal := .next s.atTimeMoment

/-- CANCEL_COMMIT (R14). -/
def State.cancelCommit (s : State) : State × Code × Data :=
  if s.commitPending then (s.setPlan { s.plan with pendingCommit := .absent }, .ok, .empty)
  else (s, .notPending, .empty)

/-- CANCEL_COMMIT (R14). -/
def execCancelCommit (tag : Nat) (s : State) : Host.Outcome State Fault Refusal :=
  .next (s.command tag 0x06 State.cancelCommit)

/-! ### The plan store (R16, R17, R19) -/

/-- STORE (R16). -/
def State.storePlan (s : State) : State × Code × Data :=
  match s.plan.storeState with
  | .writing _ _ => (s, .busy, .empty)
  | .idle =>
    (s.setPlan { s.plan with store := { s.plan.store with marker := true },
                             storeState := .writing s.plan.live s.plan.revision },
      .ok, .empty)

/-- STORE (R16). -/
def execStore (tag : Nat) (s : State) : Host.Outcome State Fault Refusal :=
  .next (s.command tag 0x07 State.storePlan)

/-- The content's check agrees with its image and revision (R19). -/
def storeChecked (c : StoreContent) : Bool :=
  c.check == Config.storeCheck c.image c.revision

/-- The store is good: its marker is clear and its check agrees (R19). -/
def PlanStore.good (p : PlanStore) : Bool := !p.marker && storeChecked p.content

/-- What is read back agrees with the snapshot and its check (R17). -/
def readBackAgrees (c : StoreContent) (image : PlanImage) (revision : Nat) : Bool :=
  c.image == image && c.revision == revision && storeChecked c

/-- A write of the store ends with what is then read back (R17). -/
def State.endWrite (s : State) (found : StoreContent) : State :=
  match s.plan.storeState with
  | .writing image revision =>
    if readBackAgrees found image revision then
      (s.setPlan { s.plan with store := { content := found, marker := false },
                               storeState := .idle, storeFailed := false }).alarmEnds .storeFailed
    else
      let t := s.setPlan { s.plan with store := { content := found, marker := true },
                                       storeState := .idle, storeFailed := true }
      if s.plan.storeFailed then t else t.alarmBegins .storeFailed
  | .idle => s

/-- STORE_WRITE_END (R17). -/
def execStoreWriteEnd (found : StoreContent) (s : State) : Host.Outcome State Fault Refusal :=
  .next (s.endWrite found)

end Sys2Proof.Machine
end

