-- ==== Sys2Proof/Machine/Clock.lean ====
section
/-! DEFINITION. The Site Clock (08_site_clock_and_time_marks.md): ticks, second boundaries and wind-cycle
starts, re-phasing, time marks, and the meanings of TICK, TIME_MARK, SET_TIME, SET_SITE_DERATE and
SET_REALIGN. -/

namespace Sys2Proof.Machine

/-! ### Work left over from the last tick

An expiry is a step of its own, taken after the tick that made it due and before the next one; what
has not been taken by then is taken as the next tick begins (log entry 1). -/

/-- The fall of a station's stage, when it is due, with the next free choice (R120). -/
def State.takeFall (s : State) (n : Station) : State :=
  if (s.wind.get n).dropDue then s.choose.2.fall n (bookingFirst s.choose.1 n) else s

/-- The expiries of timers and of the booking timeline that are due, and the moment of an AT_TIME
commit that has come. -/
def State.takeExpiries (s : State) : State :=
  let s := Station.all.foldl State.expireReport s
  let s := Station.all.foldl State.expireLink s
  let s := Zone.all.foldl State.expireEntry s
  let s := Zone.all.foldl State.expireDwell s
  let s := Station.all.foldl State.expireClearance s
  let s := Station.all.foldl State.takeFall s
  s.settleBookings.atTimeMoment

/-- The steps of the wind line that are due: the closing of the window (R96) and the ends of the last
counted cycle. -/
def State.takeLine (s : State) : State := s.closeWindow.takeCycleEnds

/-- Four slots in which nothing arrived. -/
def noReplies : PerAddr Slot := .const []

/-- A cycle that is over and whose hand-over has not been made ends, with nothing in its slots. -/
def State.takeReading (s : State) : State :=
  match s.cycle with
  | some c => if 5 ≤ c.age then s.choose.2.endReading noReplies s.choose.1 else s
  | none => s

/-- Everything that is due is taken. -/
def State.takeDue (s : State) : State := s.takeExpiries.takeReading.takeLine

/-! ### Ticks and boundaries (R147) -/

/-- A tick at the blocks that take it: the report timers, then the ramp steps and computations. -/
def State.tickEvent (s : State) : State :=
  Station.all.foldl State.limitTick { s with ctx := s.ctx.map StationCtx.tick }

/-- The site time after a second boundary; at its top it stays (R147). -/
def nextSecond (t : Nat) : Nat := if maxTime ≤ t then t else t + 1

/-- A second boundary: the site time advances, and every block that takes it counts. Drop timing is
compared with the drop dwell in force before an AT_TIME commit of the same boundary, which is the model's
choice (log entry 26). -/
def State.secondBoundary (s : State) : State :=
  let s := s.setClock { s.clock with time := nextSecond s.clock.time }
  let s := { s with ctx := s.ctx.map StationCtx.boundary, vane := s.vane.map VaneCtx.count }
  let s := Zone.all.foldl State.countZone s
  let s := Station.all.foldl State.countDrop s
  (s.setPlan (s.plan.boundary s.clock.time)).countBookings

/-- A wind cycle starts at tick phases 0, 5, 10 and 15. -/
def startsCycle (phase : Nat) : Bool := phase % 5 == 0

/-- The wind cycle at a tick: a cycle start begins a cycle, or waits for the hand-over of the one
before; another tick is counted for the cycle in progress (R91, R147). -/
def State.tickCycle (s : State) : State :=
  if startsCycle s.clock.phase then
    match s.cycle with
    | some c => { s with cycle := some { c with age := 5 } }
    | none => s.startCycle
  else { s with cycle := s.cycle.map fun c => { c with age := c.age + 1 } }

/-- The microseconds of a tick interval that no mark has retimed (R147). -/
def tickLength : Nat := 50000

/-- A tick of a phase, with its second boundary where it has one. R147 puts no order on the two; the
model counts the boundary first and lets no expiry of the tick be taken between, so a release dwell counts
by the link state before a report timer's expiry at the same tick, and the limits of the tick are computed
(R73) before an entry timer, a release dwell or a link dwell that the boundary brings to 0 expires (R55, R57,
R32); this is its choice where an order shows (log entry 26). -/
def State.takeTick (s : State) (phase : Nat) (boundary : Bool) : State :=
  let s := { s.setClock { s.clock with phase := phase } with tickInterval := tickLength }
  let s := if boundary then s.secondBoundary else s
  s.tickEvent.tickCycle

/-- The tick the counting gives: the phase goes on by one, and from 19 to 0 (R147). -/
def State.tick (s : State) : State :=
  let t := s.takeDue
  let phase := (t.clock.phase + 1) % 20
  t.takeTick phase (phase == 0)

/-- TICK (R147). -/
def execTick (s : State) : Host.Outcome State Fault Refusal := .next s.tick

/-! ### Re-phasing (R148) -/

/-- A wind cycle in progress ends at a re-phase; one whose reading has not ended is abandoned. -/
def State.endCycle (s : State) : State :=
  { s with cycle := s.cycle.map fun c =>
      if c.age < 4 then { kind := .abandoned, age := c.age } else c }

/-- A re-phase, with nothing left due: a tick of phase 0 is taken at once (R148). -/
def State.rephaseNow (s : State) (boundary : Bool) : State := s.endCycle.takeTick 0 boundary

/-- A re-phase, after what is due has been taken (R148). -/
def State.rephase (s : State) (boundary : Bool) : State := s.takeDue.rephaseNow boundary

/-! ### SET_TIME (R149) -/

/-- SET_TIME is accepted: its time is in range and the booking table is empty. -/
def State.timeMoves (s : State) (t : Nat) : Bool := decide (t ≤ maxTime) && s.bookings.isEmpty

/-- SET_TIME, accepted: the time moves, drop timing with it, and the clock re-phases without a
boundary. -/
def State.moveTime (s : State) (t : Nat) : State :=
  let before := s.clock.time
  let s := s.setClock { s.clock with time := t, timeSet := true }
  { s with wind := s.wind.map fun w : WindCtx => WindCtx.moveTime w before t }.rephaseNow false

/-- SET_TIME (R149). -/
def State.setTime (s : State) (t : Nat) : State × Code × Data :=
  if maxTime < t then (s, .range, .empty)
  else if s.bookings = [] then (s.moveTime t, .ok, .times s.clock.time t)
  else (s, .busy, .empty)

/-- SET_TIME (R149). What is due is taken before an accepted one, as work that is not its own: the frames
this raises go out before the answer (R34, R179). -/
def execSetTime (tag time : Nat) (s : State) : Host.Outcome State Fault Refusal :=
  .next ((if s.timeMoves time then s.takeDue else s).command tag 0x20 fun s => s.setTime time)

/-! ### Time marks (R150, R151, R152) -/

/-- The phase of a mark some microseconds after the last tick, in an interval of a length: the phase of
the nearest tick, of the earlier one at the midpoint (section 8.5). Before the first tick after a power-on the
end of the load stands for a phase-0 tick taken, which is the model's choice (log entry 8). -/
def markPhase (phase interval sinceTick : Nat) : Nat :=
  if 2 * sinceTick ≤ interval then phase else (phase + 1) % 20

/-- The interval restarts from a mark: the next tick comes one tick length after the mark (R150). -/
def State.restartInterval (s : State) (sinceTick : Nat) : State :=
  { s with tickInterval := sinceTick + tickLength }

/-- A mark in step: the slip condition ends. With realign enabled, the interval restarts from the mark when
the phase-0 tick has been taken, and otherwise that tick is taken at the mark (R150). -/
def State.markInStep (s : State) (sinceTick : Nat) : State :=
  let t := if s.clock.slip then
      (s.setClock { s.clock with slip := false }).alarmEnds .timeSlip else s
  if t.clock.realign then
    if t.clock.phase = 0 then t.restartInterval sinceTick else t.tick
  else t

/-- A slipped mark: the last slip is recorded, the slip condition begins, and with realign enabled the
clock re-phases, with a boundary for phases 10 .. 19 (R150, R151). -/
def State.markSlipped (s : State) (phase : Nat) : State :=
  let c := s.clock
  let t := s.setClock { c with slip := true, lastSlip := some (phase, c.time) }
  let t := if c.slip then t else t.alarmBegins .timeSlip
  if c.realign then t.rephase (decide (10 ≤ phase)) else t

/-- The mark as the Site Clock takes it. -/
def State.judgeMark (s : State) (phase sinceTick : Nat) : State :=
  if phase = 0 then s.markInStep sinceTick else s.markSlipped phase

/-- The mark brings a second boundary at once. -/
def State.markBoundary (s : State) (phase : Nat) : Bool :=
  s.clock.realign && ((phase == 0 && s.clock.phase != 0) || decide (10 ≤ phase))

/-- A mark with no AT_MARK commit pending is the Site Clock's alone; with one, the clock and the Plan
Unit take it in the order given. A boundary taken first has had its expiries taken when the commit is
checked (R152). -/
def State.takeMark (s : State) (phase sinceTick : Nat) (clockFirst : Bool) : State :=
  if s.plan.pendingCommit = .atMark then
    if clockFirst then
      let t := s.judgeMark phase sinceTick
      (if s.markBoundary phase then t.takeExpiries else t).atMarkMoment
    else s.atMarkMoment.judgeMark phase sinceTick
  else s.judgeMark phase sinceTick

/-- TIME_MARK (R150). -/
def execTimeMark (sinceTick : Nat) (s : State) : Host.Outcome State Fault Refusal :=
  let phase := markPhase s.clock.phase s.tickInterval sinceTick
  .next (if s.plan.pendingCommit = .atMark then
      s.choose.2.takeMark phase sinceTick (s.choose.1.testBit 0)
    else s.takeMark phase sinceTick true)

/-! ### Settings in force (R180) -/

/-- SET_SITE_DERATE (R180). -/
def State.setSiteDerate (s : State) (value : Nat) : State × Code × Data :=
  if 65535 < value then (s, .range, .empty)
  else ({ s with siteDerate := min value 1000 }, .ok, .derate (min value 1000))

/-- SET_REALIGN (R180). -/
def State.setRealign (s : State) (value : Nat) : State × Code × Data :=
  if yesNoOk value then
    (s.setClock { s.clock with realign := yesNo value }, .ok, .realign (yesNo value))
  else (s, .range, .empty)

/-- SET_SITE_DERATE (R180). -/
def execSetSiteDerate (tag value : Nat) (s : State) : Host.Outcome State Fault Refusal :=
  .next (s.command tag 0x21 fun s => s.setSiteDerate value)

/-- SET_REALIGN (R180). -/
def execSetRealign (tag value : Nat) (s : State) : Host.Outcome State Fault Refusal :=
  .next (s.command tag 0x22 fun s => s.setRealign value)

end Sys2Proof.Machine
end

