-- ==== Sys2Proof/Machine/Supervisor.lean ====
section
/-! DEFINITION. The Supervisor Port's queries and the acknowledgement of alarms
(10_supervisor_link_and_alarms.md, sections 10.3 and 10.5). -/

namespace Sys2Proof.Machine

/-! ### QUERY_STATION (R181) -/

/-- The whole of a station's context, gathered from its owners. -/
def State.stationView (s : State) (n : Station) : StationView :=
  let b := s.bookings.find? fun b => b.station == n && b.state != .pending
  { enabled := (s.station n).enabled, ctx := s.ctx.get n, arb := s.arb.get n,
    zones := s.zoneSets n, lim := s.lim.get n, wind := s.wind.get n, vane := s.vane.get n,
    booking := (b.map (·.number)).getD 0, bookingState := b.map (·.state),
    highest := s.highest n }

/-- QUERY_STATION (R181). -/
def State.queryStation (s : State) (station : Nat) : State × Code × Data :=
  match Station.ofNumber? station with
  | some n => (s, .ok, .stationView (s.stationView n))
  | none => (s, .range, .empty)

/-- QUERY_STATION (R181). -/
def execQueryStation (tag station : Nat) (s : State) : Host.Outcome State Fault Refusal :=
  .next (s.command tag 0x30 fun s => s.queryStation station)

/-! ### QUERY_ZONE and QUERY_BOOKINGS (R182) -/

/-- A zone's dynamic record as QUERY_ZONE gives it. The members it is closed to stand in the order of the zone
record, which is the model's choice (log entry 16). -/
def State.zoneView (s : State) (z : Zone) (d : ZoneDyn) : ZoneView :=
  { dyn := d, reserving := (s.reserving z).map fun b => (b.state, b.station),
    closedTo := (s.members z).filter fun n => s.closedTo z n }

/-- QUERY_ZONE (R182). -/
def State.queryZone (s : State) (zone : Nat) : State × Code × Data :=
  match Zone.ofNumber? zone with
  | none => (s, .range, .empty)
  | some z =>
    match s.zones.get z with
    | none => (s, .noZone, .empty)
    | some d => (s, .ok, .zoneView (s.zoneView z d))

/-- QUERY_ZONE (R182). -/
def execQueryZone (tag zone : Nat) (s : State) : Host.Outcome State Fault Refusal :=
  .next (s.command tag 0x31 fun s => s.queryZone zone)

/-- The bookings from a first number that pass a station filter; 0 passes all (R182). -/
def State.bookingsFrom (s : State) (first filter : Nat) : List Booking :=
  s.bookings.filter fun b =>
    decide (first ≤ b.number) && (filter == 0 || b.station.number == filter)

/-- QUERY_BOOKINGS (R182). -/
def State.queryBookings (s : State) (first filter : Nat) : State × Code × Data :=
  if 6 < filter then (s, .range, .empty)
  else
    let bs := s.bookingsFrom first filter
    (s, .ok, .bookingsView (bs.take 5) s.nextNumber s.bookings.length
      (((bs.drop 5).head?.map (·.number)).getD 0))

/-- QUERY_BOOKINGS (R182). -/
def execQueryBookings (tag first filter : Nat) (s : State) : Host.Outcome State Fault Refusal :=
  .next (s.command tag 0x32 fun s => s.queryBookings first filter)

/-! ### The other queries (R183) -/

/-- QUERY_SENSOR (R183): the history is cut to its newest 12 samples. -/
def State.querySensor (s : State) (addr : Nat) : State × Code × Data :=
  match Addr.ofNumber? addr with
  | none => (s, .range, .empty)
  | some a =>
    let r := s.sensors.get a
    (s, .ok, .sensorView { line := s.line, sensor := { r with history := r.history.take 12 },
                           samples := r.history.length })

/-- QUERY_SENSOR (R183). -/
def execQuerySensor (tag addr : Nat) (s : State) : Host.Outcome State Fault Refusal :=
  .next (s.command tag 0x33 fun s => s.querySensor addr)

/-- QUERY_TIME (R183). -/
def State.queryTime (s : State) : State × Code × Data := (s, .ok, .timeView s.clock)

/-- QUERY_TIME (R183). -/
def execQueryTime (tag : Nat) (s : State) : Host.Outcome State Fault Refusal :=
  .next (s.command tag 0x34 State.queryTime)

/-- The Plan Unit as QUERY_PLAN gives it (R183). The differing stations stand in ascending number, which is the
model's choice (log entry 16). -/
def State.planView (s : State) : PlanView :=
  { revision := s.plan.revision, valid := !s.plan.invalid, pendingCommit := s.plan.pendingCommit,
    writing := s.plan.storeState != .idle, marker := s.plan.store.marker,
    commitFailed := s.plan.commitFailed, storeFailed := s.plan.storeFailed,
    stations := Station.all.filter fun n =>
      s.plan.staged.stations.get n != s.plan.live.stations.get n,
    zones := Zone.all.filter s.zoneChanged }

/-- QUERY_PLAN (R183). -/
def State.queryPlan (s : State) : State × Code × Data := (s, .ok, .planView s.planView)

/-- QUERY_PLAN (R183). -/
def execQueryPlan (tag : Nat) (s : State) : Host.Outcome State Fault Refusal :=
  .next (s.command tag 0x35 State.queryPlan)

/-- The image an image byte names: LIVE or STAGED (R195). -/
def State.image? (s : State) (image : Nat) : Option PlanImage :=
  match image with
  | 0 => some s.plan.live
  | 1 => some s.plan.staged
  | _ => none

/-- A record of an image, by its class and number (R183, R195). -/
def recordOf (p : PlanImage) (cls number : Nat) : Option Data :=
  match cls with
  | 0 => (Station.ofNumber? number).map fun n => .stationRec (p.stations.get n)
  | 1 => (Zone.ofNumber? number).map fun z => .zoneRec (p.zones.get z)
  | 2 => some (.siteRec p.site)
  | _ => none

/-- READ_RECORD (R183). -/
def State.readRecord (s : State) (image cls number : Nat) : State × Code × Data :=
  match (s.image? image).bind fun p => recordOf p cls number with
  | some d => (s, .ok, d)
  | none => (s, .range, .empty)

/-- READ_RECORD (R183). -/
def execReadRecord (tag image cls number : Nat) (s : State) : Host.Outcome State Fault Refusal :=
  .next (s.command tag 0x36 fun s => s.readRecord image cls number)

/-- QUERY_ALARMS (R183). -/
def State.queryAlarms (s : State) : State × Code × Data :=
  (s, .ok, .alarmsView s.alarms s.attn (.of s.highest))

/-- QUERY_ALARMS (R183). -/
def execQueryAlarms (tag : Nat) (s : State) : Host.Outcome State Fault Refusal :=
  .next (s.command tag 0x37 State.queryAlarms)

/-! ### ACK_ALARM (R187) -/

/-- The Shutdown Unit is told when the entry acknowledged is an UNSAFE_VANE entry gone CLEAR (R141,
R186). -/
def State.toldAcked (s : State) (i : AlarmId) : State :=
  match i with
  | .unsafeVane n => s.unsafeCleared n
  | _ => s

/-- The acknowledgement of an entry (R187). -/
def State.ackEntry (s : State) (i : AlarmId) : State × Code × Data :=
  let e := s.alarms.get i
  if e.state = .clear then (s, .noAlarm, .empty)
  else
    let f := e.acked i.kind.latchClass
    ((s.setEntry i f).toldAcked i, .ok, .entryState f.state)

/-- ACK_ALARM (R187). -/
def State.ackAlarm (s : State) (priority scope : Nat) : State × Code × Data :=
  match (AlarmKind.ofPriority? priority).bind fun k => k.entry? scope with
  | some i => s.ackEntry i
  | none => (s, .range, .empty)

/-- ACK_ALARM (R187). -/
def execAckAlarm (tag priority scope : Nat) (s : State) : Host.Outcome State Fault Refusal :=
  .next (s.command tag 0x38 fun s => s.ackAlarm priority scope)

end Sys2Proof.Machine
end

