-- ==== Sys2Proof/Machine/Reset.lean ====
section
/-! DEFINITION. The two resets: POWER_ON (R19) and RESTART (R184), each block by the rule of its own
chapter (R21, R23, R71, R89, R113, R129, R145, R153, R176, R191). -/

namespace Sys2Proof.Machine

/-- The zone table after a reset: a fresh record for each zone enabled in the live plan (R71). -/
def freshZones (p : PlanImage) : PerZone (Option ZoneDyn) :=
  .of fun z => if (p.zones.get z).enabled then some .fresh else none

/-- The plan load (R19): the stored image of a good store, the empty plan of a bad one. -/
def PlanUnit.load (p : PlanUnit) : PlanUnit :=
  let good := p.store.good
  let live := if good then p.store.content.image else emptyPlan
  { live, staged := live, revision := if good then p.store.content.revision else 0,
    pendingCommit := .absent, store := p.store, storeState := .idle, invalid := !good,
    commitFailed := false, storeFailed := false }

/-- Every block after a power-on whose load has ended, before any condition is told (R19). The store's
content, the level of the SSTOP pin, the commands waiting and the model's count of choices are what
they were. -/
def State.cold (s : State) : State :=
  { State.reset with
    plan := s.plan.load
    zones := freshZones s.plan.load.live
    alarms := .cleared
    attn := false
    tx := .const .idle
    sstopPin := s.sstopPin
    choices := s.choices
    pending := s.pending }

/-- The level of SSTOP is taken at the end of a reset (R129). -/
def State.takeLevel (s : State) : State :=
  if s.sstopPin then s.choose.2.takeSiteStop s.choose.1 else s

/-- POWER_ON (R19). -/
def State.powerOn (s : State) : State :=
  let t := s.cold.handOnSettings
  (if t.plan.invalid then t.alarmBegins .planInvalid else t).takeLevel

/-- POWER_ON (R19): power-on, or the assertion of RESET. -/
def execPowerOn (s : State) : Host.Outcome State Fault Refusal := .next s.powerOn

/-- The alarm table after a restart: all CLEAR but PLAN_INVALID and STORE_FAILED, which are kept
(R191). -/
def AlarmTable.restarted (t : AlarmTable) : AlarmTable :=
  { AlarmTable.cleared with planInvalid := t.planInvalid, storeFailed := t.storeFailed }

/-- The Plan Unit at a restart (R21). -/
def PlanUnit.restarted (p : PlanUnit) : PlanUnit :=
  { p with staged := p.live, pendingCommit := .absent, commitFailed := false }

/-- Every block at its restart values, before the level of SSTOP is taken (R184). -/
def State.warm (s : State) : State :=
  { s.cutCycle with
    plan := s.plan.restarted
    ctx := .const .reset
    arb := .const .reset
    zones := freshZones s.plan.live
    lim := .const .reset
    line := .poweredUp
    sensors := .const .blank
    wind := .const .reset
    siteStop := false
    vane := .const .reset
    clock := { s.clock with slip := false }
    bookings := []
    nextNumber := 1
    alarms := s.alarms.restarted
    attn := attnOf s.alarms.restarted }.handOnSettings

/-- RESTART (R184): the deferred ENROL_NEXT answer goes first, and the alerts follow the answer. -/
def State.restart (s : State) : State × Code × Data :=
  ((s.answerEnrol .noSensor).warm.takeLevel, .ok,
    .restarted s.plan.revision s.clock.time s.clock.timeSet)

/-- RESTART (R184). -/
def execRestart (tag : Nat) (s : State) : Host.Outcome State Fault Refusal :=
  .next (s.command tag 0x3F State.restart)

end Sys2Proof.Machine
end

