-- ==== Sys2Proof/Machine/Encode.lean ====
section
/-! DEFINITION. The bytes of the frames the part sends: the envelope (R192), the field encodings (R195),
the answers (R194, R197, section 11.8) and the unsolicited frames (R198). Where the manual names fields
without a layout they stand in the order of their rule, and what R195 leaves open is fixed by log entry
16. -/

namespace Sys2Proof.Machine

/-! ### Field encodings (R195) -/

/-- One byte. -/
def u8 (v : Nat) : List Byte := [BitVec.ofNat 8 v]

/-- Two bytes, most significant first. -/
def u16 (v : Nat) : List Byte := u8 (v / 256) ++ u8 v

/-- Four bytes, most significant first. -/
def u32 (v : Nat) : List Byte := u16 (v / 65536) ++ u16 v

/-- An extension amount, in two's complement. -/
def i16 (v : Int) : List Byte := u16 (BitVec.ofInt 16 v).toNat

/-- Yes or no, asserted or withdrawn. Other pairs of values are sent the same way, which is the model's
choice (log entry 16). -/
def flag (b : Bool) : List Byte := u8 b.toNat

/-- A set of zones: eight bytes, zone 0 in the least significant bit of the first. -/
def zoneSetBytes (zs : List Zone) : List Byte :=
  (List.range 8).map fun i =>
    BitVec.ofNat 8 ((zs.filter fun z => z.val / 8 == i).foldl (fun v z => v + 2 ^ (z.val % 8)) 0)

/-- A set of stations, coded as a set of addresses is: bit 0 for station 1. -/
def stationSetBytes (t : PerStation Bool) : List Byte :=
  u8 (Station.all.foldl (fun v n => v + if t.get n then 2 ^ (n.number - 1) else 0) 0)

/-- A set of anemometer addresses. -/
def addrSetBytes (t : PerAddr Bool) : List Byte :=
  u8 (Addr.all.foldl (fun v a => v + if t.get a then 2 ^ (a.number - 1) else 0) 0)

/-- A list: a count byte, then the entries. -/
def listBytes {α : Type} (f : α → List Byte) (xs : List α) : List Byte :=
  u8 xs.length ++ xs.flatMap f

/-- A value preceded by its presence byte; an absent value is `w` bytes of 0. -/
def present {α : Type} (w : Nat) (f : α → List Byte) : Option α → List Byte
  | some a => u8 1 ++ f a
  | none => u8 0 ++ List.replicate w 0

/-- A timer's count, 0 when it is not running. -/
def timerBytes (t : Timer) : List Byte := u16 t.left

/-! ### Enumerations -/

/-- Link state. -/
def LinkState.code : LinkState → Nat
  | .offline => 0 | .joining => 1 | .online => 2 | .stale => 3

/-- Vane state. -/
def Vane.code : Vane → Nat
  | .braked => 0 | .clearing => 1 | .clear => 2 | .vaning => 3

/-- Grant kind. -/
def GrantKind.code : GrantKind → Nat
  | .ordinary => 0 | .booked => 1

/-- Booking mode. -/
def BookingMode.code : BookingMode → Nat
  | .timed => 0 | .onLoad _ => 1 | .repeating _ _ _ => 2

/-- Booking state. -/
def BookingState.code : BookingState → Nat
  | .pending => 0 | .lead => 1 | .armed => 2 | .deferred _ => 3 | .blocked _ => 4 | .active _ => 5

/-- The outcome of an ending: DONE, CANCELLED, LAPSED, ABORTED. -/
def Ending.outcome : Ending → Nat
  | .done => 0
  | .cancelledRequest | .cancelledPlan | .cancelledNoSlot => 1
  | .lapsedNoLoad | .lapsedDeferred | .lapsedBlocked => 2
  | .abortedWind | .abortedClearance => 3

/-- The reason of an ending: none, NO_LOAD, DEFERRED, BLOCKED, WIND, CLEARANCE, REQUEST, PLAN,
NO_SLOT. -/
def Ending.reason : Ending → Nat
  | .done => 0 | .lapsedNoLoad => 1 | .lapsedDeferred => 2 | .lapsedBlocked => 3
  | .abortedWind => 4 | .abortedClearance => 5 | .cancelledRequest => 6 | .cancelledPlan => 7
  | .cancelledNoSlot => 8

/-- The series field and the new start. -/
def Series.bytes : Series → List Byte
  | .notRepeat => u8 0 ++ u32 0
  | .continues start => u8 1 ++ u32 start
  | .ended => u8 2 ++ u32 0

/-- Revoke reason. -/
def RevokeReason.code : RevokeReason → Nat
  | .entryTimeout => 0 | .forced => 1

/-- Sensor state. -/
def SensorState.code : SensorState → Nat
  | .absent => 0 | .assigned => 1 | .starting _ => 2 | .running => 3 | .fault => 4 | .failed => 5

/-- Start phase, in the order of the table of R90. -/
def StartPhase.code : StartPhase → Nat
  | .awaitingCommand => 0 | .identity => 1 | .checking => 2 | .firstSpeed => 3

/-- Line state, in the order of the table of R90. -/
def LineState.code : LineState → Nat
  | .off => 0 | .enrolling => 1 | .running => 2

/-- Alarm entry state. -/
def EntryState.code : EntryState → Nat
  | .clear => 0 | .active => 1 | .latched => 2

/-- Answer codes (section 11.8). -/
def Code.byte : Code → Nat
  | .ok => 0x00 | .granted => 0x01 | .held => 0x02 | .queued => 0x03 | .partialRecovery => 0x04
  | .badKind => 0x10 | .badLength => 0x11 | .range => 0x12 | .notJoined => 0x13 | .noPlan => 0x14
  | .disabled => 0x15 | .wrongCrane => 0x16 | .noZone => 0x17 | .notMember => 0x18 | .wind => 0x19
  | .latched => 0x1A | .swept => 0x1B | .reserved => 0x1C | .notHolder => 0x1D
  | .notQueued => 0x1E | .inside => 0x1F | .booked => 0x20 | .notHeld => 0x21
  | .notLatched => 0x22 | .busy => 0x23 | .invalid => 0x24 | .inUse => 0x25 | .notPending => 0x26
  | .timeUnset => 0x27 | .late => 0x28 | .full => 0x29 | .loadStart => 0x2A | .overlap => 0x2B
  | .noBooking => 0x2C | .notOwner => 0x2D | .locked => 0x2E | .notInWindow => 0x2F
  | .lineState => 0x30 | .closed => 0x31 | .noSensor => 0x32 | .noAlarm => 0x33

/-! ### Records -/

/-- A station or none. -/
def stationBytes (n : Option Station) : List Byte := u8 ((n.map Station.number).getD 0)

/-- The highest alarm: the priority of its kind, or 0. -/
def highestBytes (k : Option AlarmKind) : List Byte := u8 ((k.map AlarmKind.priority).getD 0)

/-- A profile (R199). -/
def profileBytes (p : Profile) : List Byte :=
  u16 p.decel ++ u16 p.slewMargin ++ u16 p.radialMargin ++ u16 p.speedCap ++ flag p.inUse

/-- Three thresholds. -/
def levelBytes (t : PerLevel) : List Byte := u16 t.caution ++ u16 t.hold ++ u16 t.shutdown

/-- A station record, as STAGE_STATION carries it (R199). -/
def stationRecBytes (r : StationRec) : List Byte :=
  flag r.enabled ++ u32 r.identity ++ u16 r.jibRadius ++ u16 r.vRated
    ++ (match r.source with
        | .crane => u8 0 ++ u8 0
        | .fixed i => u8 1 ++ u8 i.val)
    ++ r.profiles.toList.flatMap profileBytes ++ addrSetBytes r.anemometers
    ++ levelBytes r.gustAt ++ levelBytes r.meanAt ++ u16 r.hysteresis ++ u8 r.persistence
    ++ u16 r.dropDwell ++ u16 r.derateCaution ++ u16 r.derateHold
    ++ u8 (if r.mode = .acting then 0 else 1) ++ u8 r.rampDown ++ u8 r.rampUp
    ++ u16 r.reportTimeout ++ u16 r.offlineDwell ++ u16 r.entryTimeout ++ u16 r.releaseDwell
    ++ flag r.loadStart

/-- A member entry (R199). -/
def memberBytes (m : Member) : List Byte :=
  u8 m.station.number ++ u16 m.lo.toNat ++ u16 m.hi.toNat ++ u16 m.floor

/-- A zone record (R199). -/
def zoneRecBytes (r : ZoneRec) : List Byte := flag r.enabled ++ listBytes memberBytes r.members

/-- The plan-wide record. -/
def siteRecBytes (r : SiteRec) : List Byte :=
  u16 r.clearanceTimeout ++ u16 r.siteDerate ++ flag r.realign

/-- The fields of a mode: accept window, period, occurrences left and skip run; a field of another mode
is 0 (R182). -/
def modeBytes : BookingMode → List Byte
  | .timed => u16 0 ++ u32 0 ++ u8 0 ++ u8 0
  | .onLoad w => u16 w ++ u32 0 ++ u8 0 ++ u8 0
  | .repeating p left skip => u16 0 ++ u32 p ++ u8 (left.getD 0) ++ u8 skip

/-- The window end of a booking, 0 where its state has none. -/
def Booking.windowEnd (b : Booking) : Nat :=
  match b.state with
  | .deferred e => e
  | .blocked w | .active w => w.ends
  | .pending | .lead | .armed => 0

/-- A booking as QUERY_BOOKINGS gives it: every field of R154 in the order of its table (R182). -/
def bookingBytes (b : Booking) : List Byte :=
  u16 b.number ++ u8 b.station.number ++ listBytes (fun z : Zone => u8 z.val) b.zones
    ++ u8 b.mode.code ++ u32 b.start ++ u16 b.duration ++ u16 b.lead ++ modeBytes b.mode
    ++ flag b.locked ++ u8 b.state.code ++ u32 b.windowEnd
    ++ u16 ((b.window?.map (·.remaining)).getD 0)
    ++ present 2 i16 (b.window?.bind (·.extension))
    ++ zoneSetBytes ((b.window?.map (·.passed)).getD [])

/-- A booking as MY_BOOKINGS gives it, in the order of R36. -/
def myBookingBytes (b : Booking) : List Byte :=
  u16 b.number ++ u8 b.mode.code ++ u8 b.state.code ++ flag b.locked ++ u32 b.start
    ++ u16 b.duration ++ u16 b.lead ++ modeBytes b.mode
    ++ listBytes (fun z : Zone => u8 z.val) b.zones ++ u32 b.windowEnd
    ++ u16 ((b.window?.map (·.remaining)).getD 0)
    ++ present 2 i16 (b.window?.bind (·.extension))

/-- The last ended booking, 0 throughout when there is none. -/
def lastEndedBytes : Option LastEnded → List Byte
  | some e => u16 e.number ++ u8 e.ending.outcome ++ u8 e.ending.reason
  | none => u16 0 ++ u8 0 ++ u8 0

/-- A MY_ZONES entry (R35). -/
def myZoneBytes (e : MyZone) : List Byte :=
  u8 e.zone.val ++ u16 e.lo.toNat ++ u16 e.hi.toNat ++ u16 e.floor
    ++ listBytes (fun n : Station => u8 n.number) e.others

/-- Zones with a position in each wait list. -/
def queuedBytes (q : List (Zone × Nat)) : List Byte :=
  listBytes (fun e : Zone × Nat => u8 e.1.val ++ u8 e.2) q

/-- The data of the position answer (R197). -/
def positionBytes (a : PositionAnswer) : List Byte :=
  u8 a.link.code ++ u8 (a.mp.toNat + 2 * a.profileHeld.toNat) ++ u16 a.cw ++ u16 a.ccw
    ++ u16 a.radius ++ u8 a.stage.rank ++ u8 a.vane.code ++ zoneSetBytes a.zones.held
    ++ zoneSetBytes a.zones.granted ++ zoneSetBytes a.zones.clearing ++ u16 a.booking
    ++ u16 a.remaining ++ highestBytes a.highest ++ u16 a.revision ++ queuedBytes a.zones.queued

/-- A last position. -/
def positionRecBytes (p : Position) : List Byte :=
  u16 p.angle.toNat ++ u16 p.radius ++ flag p.loaded ++ flag p.released

/-- The four figures of a profile in effect. -/
def figuresBytes (f : Figures) : List Byte :=
  u16 f.decel ++ u16 f.slewMargin ++ u16 f.radialMargin ++ u16 f.speedCap

/-- A pair of figures, gust and mean. -/
def gustMeanBytes (f : Nat × Nat) : List Byte := u16 f.1 ++ u16 f.2

/-- The answer to QUERY_STATION, in the order of the table of R181, and whether the station is
enabled. The input state as 0 PRESENT and 1 LOST, a brake state as 0 APPLIED and 1 RELEASED, and one presence
byte for the two wind figures are the model's choices (log entry 16). Both gap speeds are sent, as R181 lists them, although R72 calls them internal: the
model's choice too (log entry 32). -/
def stationViewBytes (v : StationView) : List Byte :=
  u8 v.ctx.link.code ++ present 6 positionRecBytes v.ctx.position ++ present 1 flag v.ctx.rise
    ++ present 1 (fun i : ProfileIx => u8 i.val) v.ctx.profile ++ flag v.ctx.profileHeld
    ++ timerBytes v.ctx.reportTimer ++ timerBytes v.ctx.linkDwell ++ flag v.ctx.mp
    ++ lastEndedBytes v.ctx.lastEnded
    ++ flag v.arb.intrusion ++ flag v.arb.recovery ++ flag v.arb.conflict
    ++ zoneSetBytes v.zones.held ++ zoneSetBytes v.zones.granted ++ queuedBytes v.zones.queued
    ++ zoneSetBytes v.zones.clearing
    ++ u16 v.lim.vWind ++ present 8 figuresBytes v.lim.inEffect ++ u16 v.lim.gapCw
    ++ u16 v.lim.gapCcw ++ u16 v.lim.cw ++ u16 v.lim.ccw ++ u16 v.lim.radius
    ++ u8 v.wind.stage.rank ++ present 4 gustMeanBytes v.wind.figures ++ flag v.wind.lost
    ++ u8 v.wind.raise ++ present 4 u32 v.wind.dropStart
    ++ u8 v.vane.vane.code ++ timerBytes v.vane.timer ++ flag v.vane.vc
    ++ flag v.vane.unsafeLatched ++ flag v.vane.overdue ++ flag v.vane.lastReleased
    ++ u16 v.booking ++ u8 ((v.bookingState.map BookingState.code).getD 0)
    ++ highestBytes v.highest ++ flag v.enabled

/-- The answer to QUERY_ZONE, in the order of R182: grant kind and seen inside, which a FREE zone does not
have and whose ranges include 0, each with a presence byte; the swept set as a set, and the members the
zone is closed to as a list, which is the model's choice (log entry 16). -/
def zoneViewBytes (v : ZoneView) : List Byte :=
  stationBytes (v.dyn.hold.map (·.station))
    ++ present 1 (fun h : Holding => u8 h.kind.code) v.dyn.hold
    ++ present 1 (fun h : Holding => flag h.seen) v.dyn.hold
    ++ timerBytes v.dyn.entry ++ timerBytes v.dyn.dwell
    ++ listBytes (fun n : Station => u8 n.number) v.dyn.waiting
    ++ u16 (v.dyn.reservation.getD 0)
    ++ u8 ((v.reserving.map fun r => r.1.code).getD 0) ++ stationBytes (v.reserving.map (·.2))
    ++ stationSetBytes v.dyn.swept ++ listBytes (fun n : Station => u8 n.number) v.closedTo

/-- A command of the command list: its function and its address. -/
def lineCommandBytes : LineCommand → List Byte
  | .assign a => u8 1 ++ u8 a.number
  | .run => u8 2 ++ u8 0
  | .runTo a => u8 3 ++ u8 a.number

/-- The start phase of a sensor state. -/
def SensorState.phase? : SensorState → Option StartPhase
  | .starting p => some p
  | .absent | .assigned | .running | .fault | .failed => none

/-- The answer to QUERY_SENSOR: the line record in the order of R90 and then the sensor record in the
order of R183. The window as 0 closed and 1 open, an absent echo wait as two bytes of 0, two bytes for each
identity word, and one presence byte for gust and mean together are the model's choices (log entry 16). -/
def sensorViewBytes (v : SensorView) : List Byte :=
  u8 v.line.state.code ++ u8 v.line.windowCount ++ flag v.line.windowOpen
    ++ flag v.line.enrolHeld ++ u8 ((v.line.echoWait.map fun e => e.1.number).getD 0)
    ++ u8 ((v.line.echoWait.map fun e => e.2.left).getD 0)
    ++ listBytes lineCommandBytes v.line.commands ++ present 1 u8 v.line.runWatch
    ++ u8 v.sensor.state.code
    ++ present 1 (fun p : StartPhase => u8 p.code) v.sensor.state.phase?
    ++ listBytes (fun w : BitVec 10 => u16 w.toNat) v.sensor.identity ++ u8 v.sensor.attempts
    ++ u8 v.sensor.attemptCycles ++ u8 v.sensor.readyRun ++ u8 v.sensor.missRun
    ++ u8 v.sensor.goodRun ++ u8 v.samples ++ listBytes u16 v.sensor.history
    ++ present 4 gustMeanBytes v.sensor.figures

/-- The six fields of the Site Clock (R146). -/
def clockBytes (c : Clock) : List Byte :=
  u32 c.time ++ flag c.timeSet ++ u8 c.phase ++ flag c.realign ++ flag c.slip
    ++ present 5 (fun l : Nat × Nat => u8 l.1 ++ u32 l.2) c.lastSlip

/-- The pending-commit record: a presence byte, the mode and the target, 0 for AT_MARK, which has none. R195
gives no such layout; it is the model's choice (log entry 16). -/
def pendingCommitBytes : PendingCommit → List Byte
  | .absent => u8 0 ++ u8 0 ++ u32 0
  | .atMark => u8 1 ++ u8 1 ++ u32 0
  | .atTime t _ => u8 1 ++ u8 2 ++ u32 t

/-- The answer to QUERY_PLAN, in the order of R183. The store state as one byte, 0 IDLE and 1 WRITING, and
the differing stations as a list beside the differing zones as a set are the model's choices (log
entry 16). -/
def planViewBytes (v : PlanView) : List Byte :=
  u16 v.revision ++ flag v.valid ++ pendingCommitBytes v.pendingCommit ++ flag v.writing
    ++ flag v.marker ++ flag v.commitFailed ++ flag v.storeFailed
    ++ listBytes (fun n : Station => u8 n.number) v.stations ++ zoneSetBytes v.zones

/-- The answer to QUERY_ALARMS: the 49 entries by priority and then scope, each its state and its flag, with
no count before them, then ATTN and the highest alarms. The order of the entries and the want of a count are
the model's choices (log entry 16). -/
def alarmsBytes (t : AlarmTable) (attn : Bool) (h : PerStation (Option AlarmKind)) : List Byte :=
  AlarmId.all.flatMap (fun i => u8 (t.get i).state.code ++ flag (t.get i).ack) ++ flag attn
    ++ Station.all.flatMap fun n => highestBytes (h.get n)

/-- The data of an answer. -/
def Data.bytes : Data → List Byte
  | .empty => []
  | .joined n rev was => u8 n.number ++ u16 rev ++ u8 was.code
  | .position a => positionBytes a
  | .holdState seen => flag seen
  | .place p => u8 p
  | .zoneSet zs => zoneSetBytes zs
  | .zone z => u8 z.val
  | .reservedUntil number lifted => u16 number ++ u32 lifted
  | .record (.station n) => u8 0 ++ u8 n.number
  | .record (.zone z) => u8 1 ++ u8 z.val
  | .booking number => u16 number
  | .admitted number state holders => u16 number ++ u8 state.code ++ holders.flatMap stationBytes
  | .extended amount projected passed toCome =>
    i16 amount ++ u32 projected ++ zoneSetBytes passed ++ zoneSetBytes toCome
  | .bookingWas state => u8 state.code
  | .revision r => u16 r
  | .station n => u8 n.number
  | .times before after => u32 before ++ u32 after
  | .derate v => u16 v
  | .realign e => flag e
  | .restarted rev time timeSet => u16 rev ++ u32 time ++ flag timeSet
  | .entryState e => u8 e.code
  | .myZones entries rev next =>
    listBytes myZoneBytes entries ++ u16 rev ++ present 1 u8 next
  | .myBookings entries last next =>
    listBytes myBookingBytes entries ++ lastEndedBytes last ++ u16 next
  | .stationView v => stationViewBytes v
  | .zoneView v => zoneViewBytes v
  | .bookingsView entries nextNumber used next =>
    listBytes bookingBytes entries ++ u16 nextNumber ++ u8 used ++ u16 next
  | .sensorView v => sensorViewBytes v
  | .timeView c => clockBytes c
  | .planView v => planViewBytes v
  | .stationRec r => stationRecBytes r
  | .zoneRec r => zoneRecBytes r
  | .siteRec r => siteRecBytes r
  | .alarmsView t attn h => alarmsBytes t attn h

/-! ### Frames -/

/-- The four fields of a booking's end and the new start (R198). -/
def bookingEndedBytes (number : Nat) (e : Ending) (series : Series) : List Byte :=
  u16 number ++ u8 e.outcome ++ u8 e.reason ++ series.bytes

/-- The payload of a notice (R198). -/
def Notice.bytes : Notice → List Byte
  | .grant z kind => u8 1 ++ u8 z.val ++ u8 kind.code
  | .revoke z reason => u8 2 ++ u8 z.val ++ u8 reason.code
  | .clearRequest z n => u8 3 ++ u8 z.val ++ u8 n.number
  | .bookingEnded number e series => u8 4 ++ bookingEndedBytes number e series
  | .wind new previous => u8 5 ++ u8 new.rank ++ u8 previous.rank

/-- The kind and the payload of a frame (R194, R198). -/
def Frame.body : Frame → List Byte
  | .answer kind code data => u8 0x80 ++ [kind] ++ u8 code.byte ++ data.bytes
  | .answerSL tag command code data =>
    u8 0x80 ++ u8 tag ++ u8 command ++ u8 code.byte ++ data.bytes
  | .notice x => u8 0x81 ++ x.bytes
  | .alert a =>
    u8 0x82 ++ u8 a.entry.kind.priority ++ u8 a.entry.scope ++ u32 a.time ++ u8 a.phase
  | .report n number e series => u8 0x83 ++ u8 n.number ++ bookingEndedBytes number e series

/-- A body in the envelope: the start byte, the length, the body and the check over the length and the
body (R192). -/
def envelope (body : List Byte) : List Byte :=
  let covered := u8 body.length ++ body
  [0xA5#8] ++ covered ++ crcBytes covered

/-- The bytes of a frame the part sends (R192). -/
def Frame.bytes (f : Frame) : List Byte := envelope f.body

end Sys2Proof.Machine
end

