-- ==== Sys2Proof/Machine/Frames.lean ====
section
/-! DEFINITION. The links: frames that fail their check and the frames found inside them, frames that are
refused by kind or length, the end of a collection of length 0, and the sending of frames that wait
(R193, R194, R179, R192). -/

namespace Sys2Proof.Machine

/-! ### Frames refused (R194) -/

/-- A frame is answered with a code alone. On SL the tag and the command code are echoed when the frame
is long enough to hold them, and 0 stands for each otherwise (R194). -/
def refusalFrame (l : Link) (kind : Byte) (payload : List Byte) (code : Code) : Frame :=
  match l, payload with
  | .crane _, _ => .answer kind code .empty
  | .supervisor, tag :: cmd :: _ => .answerSL tag.toNat cmd.toNat code .empty
  | .supervisor, _ => .answerSL 0 0 code .empty

/-- BAD_KIND (R194). -/
def execBadKind (link : Link) (kind : Byte) (payload : List Byte) (s : State) :
    Host.Outcome State Fault Refusal :=
  .next (s.handle link fun s => (s, some (refusalFrame link kind payload .badKind)))

/-- BAD_LENGTH (R194). -/
def execBadLength (link : Link) (kind : Byte) (payload : List Byte) (s : State) :
    Host.Outcome State Fault Refusal :=
  .next (s.handle link fun s => (s, some (refusalFrame link kind payload .badLength)))

/-! ### A frame that fails its check (R193) -/

/-- The state after a meaning that answers a next state. -/
def afterMeaning (s : State) (o : Host.Outcome State Fault Refusal) : State :=
  match o with
  | .next t => t
  | .fault _ | .refused _ => s

/-- A frame taken on a link is handled as the request it stands for; the commands that no frame carries
do nothing here. -/
def State.takeFrame (s : State) (i : Instr) : State :=
  afterMeaning s <|
    match i with
    | .hello n identity => execHello n identity s
    | .position n angle radius profile loaded released =>
      execPosition n angle radius profile loaded released s
    | .hold n zone => execHold n zone s
    | .release n zone => execRelease n zone s
    | .withdraw n zone => execWithdraw n zone s
    | .book n fields => execBook n fields s
    | .cancel n number => execCancel n number s
    | .extend n number amount => execExtend n number amount s
    | .myZones n first => execMyZones n first s
    | .myBookings n first => execMyBookings n first s
    | .badKind link kind payload => execBadKind link kind payload s
    | .badLength link kind payload => execBadLength link kind payload s
    | .stageStation tag number fields => execStageStation tag number fields s
    | .stageZone tag number fields => execStageZone tag number fields s
    | .stageSite tag clearance derate realign => execStageSite tag clearance derate realign s
    | .restage tag => execRestage tag s
    | .commit tag mode target => execCommit tag mode target s
    | .cancelCommit tag => execCancelCommit tag s
    | .store tag => execStore tag s
    | .forceRelease tag zone => execForceRelease tag zone s
    | .recover tag station => execRecover tag station s
    | .enrolNext tag addr => execEnrolNext tag addr s
    | .runLine tag => execRunLine tag s
    | .stopLine tag => execStopLine tag s
    | .startLine tag => execStartLine tag s
    | .sensorRestart tag addr => execSensorRestart tag addr s
    | .setTime tag time => execSetTime tag time s
    | .setSiteDerate tag value => execSetSiteDerate tag value s
    | .setRealign tag value => execSetRealign tag value s
    | .supervisorBook tag station locked fields => execSupervisorBook tag station locked fields s
    | .supervisorCancel tag number => execSupervisorCancel tag number s
    | .supervisorExtend tag number amount => execSupervisorExtend tag number amount s
    | .lock tag number => execLock tag number s
    | .unlock tag number => execUnlock tag number s
    | .queryStation tag station => execQueryStation tag station s
    | .queryZone tag zone => execQueryZone tag zone s
    | .queryBookings tag first filter => execQueryBookings tag first filter s
    | .querySensor tag addr => execQuerySensor tag addr s
    | .queryTime tag => execQueryTime tag s
    | .queryPlan tag => execQueryPlan tag s
    | .readRecord tag image cls number => execReadRecord tag image cls number s
    | .queryAlarms tag => execQueryAlarms tag s
    | .ackAlarm tag priority scope => execAckAlarm tag priority scope s
    | .restart tag => execRestart tag s
    | .powerOn | .tick | .windowClose | .windCycleReadingEnd _ | .echoWaitExpiry | .runWatchEnd
    | .checkingTimeout _ | .sensorSilent _ | .dropDwellExpiry _ | .sstopAsserted
    | .sstopWithdrawn | .clearanceTimerExpiry _ | .badCheckFrame _ _ | .waitingFrameSent _
    | .reportTimerExpiry _ | .linkDwellExpiry _ | .entryTimerExpiry _ | .releaseDwellExpiry _
    | .bookingLead _ | .bookingStart _ | .bookingRemainingExpiry _ | .acceptWindowExpiry _
    | .deferredWindowExpiry _ | .timeMark _ | .atTimeCommitMoment | .storeWriteEnd _
    | .zeroLengthCollectionEnd _ => .next s

/-- The reception state a hunt ends in. -/
def Rx.ofHunt : Option (List Byte) → Rx
  | some bytes => .collecting bytes
  | none => .hunting

/-- A link's receiver goes back to hunting over bytes it has already received: the frames it takes
among them are handled in order (R193). -/
def State.rehunt (s : State) (l : Link) (bytes : List Byte) : State :=
  let r := huntAgain bytes
  ((r.1.map (classify l)).foldl State.takeFrame (s.setRx l .hunting)).setRx l (Rx.ofHunt r.2)

/-- BAD_CHECK_FRAME (R193): the frame is discarded, and the receiver hunts again from the byte after its
start byte. -/
def execBadCheckFrame (link : Link) (frame : List Byte) (s : State) :
    Host.Outcome State Fault Refusal :=
  .next (s.rehunt link frame.tail)

/-- ZERO_LENGTH_COLLECTION_END (R193): the collection ends, and the receiver hunts from the next
byte. -/
def execZeroLengthCollectionEnd (link : Link) (s : State) : Host.Outcome State Fault Refusal :=
  .next (s.setRx link .hunting)

/-! ### Sending (R179, R192) -/

/-- The frame being sent ends, and the first frame waiting is sent. -/
def Tx.sent (t : Tx) : Tx := { sending := t.waiting.head?, waiting := t.waiting.tail }

/-- WAITING_FRAME_SENT (R179). -/
def execWaitingFrameSent (link : Link) (s : State) : Host.Outcome State Fault Refusal :=
  .next (s.setTx link (s.tx.get link).sent)

end Sys2Proof.Machine
end

