-- ==== Sys2Proof/Machine/Dispatch.lean ====
section
/-! DEFINITION. One arm for each row of spec/opcode_table.json. -/

namespace Sys2Proof.Machine

/-- The effect of a command or event on everything but the queue. -/
def exec (i : Instr) (s : State) : Host.Outcome State Fault Refusal :=
  match i with
  | .powerOn => Sys2Proof.Machine.execPowerOn s
  | .restart tag => Sys2Proof.Machine.execRestart tag s
  | .tick => Sys2Proof.Machine.execTick s
  | .windowClose => Sys2Proof.Machine.execWindowClose s
  | .windCycleReadingEnd slots => Sys2Proof.Machine.execWindCycleReadingEnd slots s
  | .echoWaitExpiry => Sys2Proof.Machine.execEchoWaitExpiry s
  | .runWatchEnd => Sys2Proof.Machine.execRunWatchEnd s
  | .checkingTimeout a => Sys2Proof.Machine.execCheckingTimeout a s
  | .sensorSilent a => Sys2Proof.Machine.execSensorSilent a s
  | .dropDwellExpiry n => Sys2Proof.Machine.execDropDwellExpiry n s
  | .sstopAsserted => Sys2Proof.Machine.execSstopAsserted s
  | .sstopWithdrawn => Sys2Proof.Machine.execSstopWithdrawn s
  | .clearanceTimerExpiry n => Sys2Proof.Machine.execClearanceTimerExpiry n s
  | .hello n identity => Sys2Proof.Machine.execHello n identity s
  | .position n angle radius profile loaded released => Sys2Proof.Machine.execPosition n angle radius profile loaded released s
  | .hold n zone => Sys2Proof.Machine.execHold n zone s
  | .release n zone => Sys2Proof.Machine.execRelease n zone s
  | .withdraw n zone => Sys2Proof.Machine.execWithdraw n zone s
  | .book n fields => Sys2Proof.Machine.execBook n fields s
  | .cancel n number => Sys2Proof.Machine.execCancel n number s
  | .extend n number amount => Sys2Proof.Machine.execExtend n number amount s
  | .myZones n first => Sys2Proof.Machine.execMyZones n first s
  | .myBookings n first => Sys2Proof.Machine.execMyBookings n first s
  | .badCheckFrame link frame => Sys2Proof.Machine.execBadCheckFrame link frame s
  | .badKind link kind payload => Sys2Proof.Machine.execBadKind link kind payload s
  | .badLength link kind payload => Sys2Proof.Machine.execBadLength link kind payload s
  | .waitingFrameSent link => Sys2Proof.Machine.execWaitingFrameSent link s
  | .reportTimerExpiry n => Sys2Proof.Machine.execReportTimerExpiry n s
  | .linkDwellExpiry n => Sys2Proof.Machine.execLinkDwellExpiry n s
  | .entryTimerExpiry z => Sys2Proof.Machine.execEntryTimerExpiry z s
  | .releaseDwellExpiry z => Sys2Proof.Machine.execReleaseDwellExpiry z s
  | .bookingLead number => Sys2Proof.Machine.execBookingLead number s
  | .bookingStart number => Sys2Proof.Machine.execBookingStart number s
  | .bookingRemainingExpiry number => Sys2Proof.Machine.execBookingRemainingExpiry number s
  | .acceptWindowExpiry number => Sys2Proof.Machine.execAcceptWindowExpiry number s
  | .deferredWindowExpiry number => Sys2Proof.Machine.execDeferredWindowExpiry number s
  | .timeMark sinceTick => Sys2Proof.Machine.execTimeMark sinceTick s
  | .atTimeCommitMoment => Sys2Proof.Machine.execAtTimeCommitMoment s
  | .storeWriteEnd found => Sys2Proof.Machine.execStoreWriteEnd found s
  | .stageStation tag number fields => Sys2Proof.Machine.execStageStation tag number fields s
  | .stageZone tag number fields => Sys2Proof.Machine.execStageZone tag number fields s
  | .stageSite tag clearanceTimeout siteDerate realign => Sys2Proof.Machine.execStageSite tag clearanceTimeout siteDerate realign s
  | .restage tag => Sys2Proof.Machine.execRestage tag s
  | .commit tag mode target => Sys2Proof.Machine.execCommit tag mode target s
  | .cancelCommit tag => Sys2Proof.Machine.execCancelCommit tag s
  | .store tag => Sys2Proof.Machine.execStore tag s
  | .forceRelease tag zone => Sys2Proof.Machine.execForceRelease tag zone s
  | .recover tag station => Sys2Proof.Machine.execRecover tag station s
  | .enrolNext tag addr => Sys2Proof.Machine.execEnrolNext tag addr s
  | .runLine tag => Sys2Proof.Machine.execRunLine tag s
  | .stopLine tag => Sys2Proof.Machine.execStopLine tag s
  | .startLine tag => Sys2Proof.Machine.execStartLine tag s
  | .sensorRestart tag addr => Sys2Proof.Machine.execSensorRestart tag addr s
  | .setTime tag time => Sys2Proof.Machine.execSetTime tag time s
  | .setSiteDerate tag value => Sys2Proof.Machine.execSetSiteDerate tag value s
  | .setRealign tag value => Sys2Proof.Machine.execSetRealign tag value s
  | .supervisorBook tag station locked fields => Sys2Proof.Machine.execSupervisorBook tag station locked fields s
  | .supervisorCancel tag number => Sys2Proof.Machine.execSupervisorCancel tag number s
  | .supervisorExtend tag number amount => Sys2Proof.Machine.execSupervisorExtend tag number amount s
  | .lock tag number => Sys2Proof.Machine.execLock tag number s
  | .unlock tag number => Sys2Proof.Machine.execUnlock tag number s
  | .queryStation tag station => Sys2Proof.Machine.execQueryStation tag station s
  | .queryZone tag zone => Sys2Proof.Machine.execQueryZone tag zone s
  | .queryBookings tag first filter => Sys2Proof.Machine.execQueryBookings tag first filter s
  | .querySensor tag addr => Sys2Proof.Machine.execQuerySensor tag addr s
  | .queryTime tag => Sys2Proof.Machine.execQueryTime tag s
  | .queryPlan tag => Sys2Proof.Machine.execQueryPlan tag s
  | .readRecord tag image cls number => Sys2Proof.Machine.execReadRecord tag image cls number s
  | .queryAlarms tag => Sys2Proof.Machine.execQueryAlarms tag s
  | .ackAlarm tag priority scope => Sys2Proof.Machine.execAckAlarm tag priority scope s
  | .zeroLengthCollectionEnd link => Sys2Proof.Machine.execZeroLengthCollectionEnd link s

end Sys2Proof.Machine
end

