-- ==== Sys2Proof/Safety.lean ====
section
/-! DEFINITION. What a sound state of the part is, in the terms the statements use: the outputs follow
their conditions (R39, R84, R136, R190), the airspace of a swinging jib is closed (R46), and the tables
keep their form (R42, R44, R154); and the words the statements use of a step: how a request is
answered, and which fields a piece of work can write. -/

namespace Sys2Proof.Safety

open Sys2Proof.Machine

/-- ATTN is what R190 makes of the alarm table. -/
def attnFollows (s : State) : Bool := s.attn == attnOf s.alarms

/-- The motion permit of a station is what R39 makes of its inputs. -/
def permitFollows (s : State) (n : Station) : Bool := (s.ctx.get n).mp == s.permit n

/-- Both slew limits of a station are 0 while its motion permit is withdrawn (R84). -/
def limitsFollow (s : State) (n : Station) : Bool :=
  (s.ctx.get n).mp || ((s.lim.get n).cw == 0 && (s.lim.get n).ccw == 0)

/-- The vane-clear output of a station is asserted only while no zone of which it is a member is held by
another (R136). -/
def vaneClearSound (s : State) (n : Station) : Bool := !(s.vane.get n).vc || s.zonesClearFor n

/-- While a zone's swept set is non-empty, the zone has no holder or its holder is in the swept set,
unless a station in that swept set has unsafe vane latched (R46). -/
def sweptSound (s : State) (z : Zone) : Bool :=
  match s.zones.get z with
  | none => true
  | some d =>
    match d.hold with
    | none => true
    | some h =>
      !Station.all.any (fun m => d.swept.get m) || d.swept.get h.station
        || Station.all.any fun m => d.swept.get m && (s.vane.get m).unsafeLatched

/-- No request is being handled between steps. -/
def betweenSteps (s : State) : Bool := s.handling == none && s.held == []

/-- A sound state. -/
def sound (s : State) : Bool :=
  attnFollows s && betweenSteps s
    && Station.all.all (fun n => permitFollows s n && limitsFollow s n && vaneClearSound s n)
    && Zone.all.all (sweptSound s)

/-! ### Invariants -/

/-- The vane-clear line and the zones of a station (R134, R136): the line is asserted in CLEAR and
VANING alone, no member zone is held by another while the station is CLEAR, nor while it is VANING with
the line asserted. -/
def vaneClearKept (s : State) (n : Station) : Bool :=
  let v := s.vane.get n
  (!v.vc || v.vane == .clear || v.vane == .vaning)
    && (v.vane != .clear || s.zonesClearFor n)
    && (!(v.vane == .vaning && v.vc) || s.zonesClearFor n)

/-- The zone table holds a dynamic record for each zone enabled in the live plan and for no other
(R42). -/
def zoneTableFollows (s : State) (z : Zone) : Bool := (s.zones.get z).isSome == (s.zone z).enabled

/-- While a commit is pending, the staged plan passes the cross-record check (R7, R9). -/
def stagedChecked (s : State) : Bool := !s.commitPending || s.crossCheck.isNone

/-- Each station in a zone's swept set is a member of it and VANING, and unless it released its brake
unsafely and still swings, no other station holds the zone (R46, R65, R140). -/
def sweptKept (s : State) (z : Zone) : Bool :=
  match s.zones.get z with
  | none => true
  | some d =>
    Station.all.all fun m =>
      !d.swept.get m ||
        (s.isMember z m && (s.vane.get m).vane == .vaning &&
          ((s.vane.get m).unsafeLatched && (s.alarms.get (.unsafeVane m)).state == .active
            || match d.hold with
               | none => true
               | some h => h.station == m))

/-- The airspace of every swinging jib is closed. -/
def airspaceClosed (s : State) : Bool :=
  stagedChecked s && Station.all.all (vaneClearKept s)
    && Zone.all.all fun z => zoneTableFollows s z && sweptKept s z

/-- A wait list holds no station twice and not the zone's holder (R44, R48). -/
def waitListKept (s : State) (z : Zone) : Bool :=
  match s.zones.get z with
  | none => true
  | some d =>
    decide d.waiting.Nodup &&
      match d.hold with
      | none => true
      | some h => !d.waiting.contains h.station

/-- The booking table holds at most 48 bookings in ascending number, and numbers are 1 .. 65 535
(R154). -/
def bookingTableKept (s : State) : Bool :=
  decide (s.bookings.length ≤ 48)
    && decide ((s.bookings.map (·.number)).Pairwise (· < ·))
    && s.bookings.all (fun b => inRange 1 b.number 65535)
    && inRange 1 s.nextNumber 65535

/-- v_wind lies within V_rated, and is 0 for a disabled station (R82, R85). -/
def speedKept (s : State) (n : Station) : Bool :=
  let v := (s.lim.get n).vWind
  if (s.station n).enabled then decide (v ≤ (s.station n).vRated) else v == 0

/-- No zone record of a plan image has more than four members (R5). -/
def membersKept (p : PlanImage) : Bool :=
  Zone.all.all fun z => decide ((p.zones.get z).members.length ≤ 4)

/-- Every image that is live or can become live keeps to four members a zone: the two images, the snapshot
being written, and the content of a store whose marker is clear (R5, R12, R16, R19). -/
def imagesKept (s : State) : Bool :=
  membersKept s.plan.live && membersKept s.plan.staged
    && (match s.plan.storeState with
        | .idle => true
        | .writing image _ => membersKept image)
    && (s.plan.store.marker || membersKept s.plan.store.content.image)

/-- A holding and the timers of its zone: both are stopped while the zone is FREE or BOOKED, the entry timer
runs in GRANTED alone, and the release dwell in HELD alone (R43). -/
def timersKept (d : ZoneDyn) : Bool :=
  match d.hold with
  | none => d.entry == .stopped && d.dwell == .stopped
  | some h =>
    (h.kind == .ordinary || (d.entry == .stopped && d.dwell == .stopped))
      && (if h.seen then d.entry == .stopped else d.dwell == .stopped)

/-- The record of a zone has its form (R42 to R44): it stands exactly while the zone is enabled, its holder and
its at most three waiters are members, none twice and none the holder, and its timers run only where they
may. -/
def zoneFormKept (s : State) (z : Zone) : Bool :=
  match s.zones.get z with
  | none => !(s.zone z).enabled
  | some d =>
    (s.zone z).enabled && timersKept d
      && (match d.hold with
          | none => true
          | some h => s.isMember z h.station && !d.waiting.contains h.station)
      && decide (d.waiting.length ≤ 3) && decide d.waiting.Nodup && d.waiting.all (s.isMember z)

/-- The fields of a booking lie in their ranges, and its zones are one to four, distinct, enabled and shared by
its station (R154). -/
def bookingFieldsKept (s : State) (b : Booking) : Bool :=
  inRange 60 b.duration 43200 && inRange 0 b.lead 900 && decide (b.lead ≤ b.start)
    && (match b.mode with
        | .timed => true
        | .onLoad accept => decide (accept ≤ 3600)
        | .repeating period _ _ => inRange 300 period 86400)
    && inRange 1 b.zones.length 4 && decide b.zones.Nodup
    && b.zones.all fun z => (s.zone z).enabled && s.isMember z b.station

/-- A booking stands where the site time has brought it (R158 to R162, R165); the bounds leave room for the step
of the present boundary that has not been taken yet (log entry 1). -/
def bookingTimeKept (now : Nat) (b : Booking) : Bool :=
  match b.state with
  | .pending => decide (now ≤ b.spanBegin)
  | .lead => decide (b.spanBegin ≤ now) && decide (now ≤ b.start)
  | .armed => decide (b.start ≤ now) && decide (now ≤ b.start + acceptOf b.mode + 1)
  | .deferred e => decide (b.start ≤ now) && decide (now ≤ e) && e == b.start + b.duration
  | .blocked w | .active w =>
    if w.due then w.extension == none && decide (now ≤ w.ends) && decide (w.ends ≤ now + 1)
    else inRange 1 w.remaining 65535 && w.ends == now + w.remaining

/-- From LEAD on a booking's zones are reserved for it (R62, R159). In its window the zones passed stand in the
order of its list, no other station holds one of them, and it is ACTIVE exactly when they are the whole list
(R164; log entry 30). -/
def bookingZonesKept (s : State) (b : Booking) : Bool :=
  (b.state == .pending ||
    b.zones.all fun z => ((s.zones.get z).bind (·.reservation)) == some b.number)
    && (match b.window? with
        | none => true
        | some w =>
          (b.zones.filter (w.passed.contains ·)) == w.passed
            && (w.passed == b.zones) == (b.state == .active w)
            && w.passed.all fun z =>
                match s.holder z with
                | some n => n == b.station
                | none => true)

/-- Every zone that has passed to a booking in window is held BOOKED by its station (R164). The end of a
PENDING booking of the same station that names such a zone can end this (R64; log entry 30). -/
def passedHeld (s : State) : Prop :=
  ∀ b ∈ s.bookings, ∀ w, b.window? = some w → ∀ z ∈ w.passed,
    ∃ h, s.holding z = some h ∧ h.station = b.station ∧ h.kind = .booked

/-- A booking of the station in BLOCKED or ACTIVE names the zone (R51, R66). -/
abbrev namedInWindow (s : State) (n : Station) (z : Zone) : Prop :=
  ∃ b ∈ s.bookings, b.station = n ∧ b.inWindow = true ∧ z ∈ b.zones

/-- A wait list after a head placement of a station (R44): the station stands first, the others follow in
their order, and of four the last has left. -/
def placedFirst (waiting : List Station) (n : Station) : List Station :=
  (n :: waiting.filter (· ≠ n)).take 3

/-- Two bookings of the table do not conflict, and from LEAD on they share no zone and no station (R155). -/
def bookingsApart (now : Nat) (b c : Booking) : Prop :=
  b.conflictsWith c now = false ∧
    (b.state ≠ .pending → c.state ≠ .pending → b.sharesWith c = false)

/-- The zone table and the booking table have their form and agree with each other (R42 to R45, R154, R155,
R164). -/
def tablesKept (s : State) : Prop :=
  imagesKept s = true ∧ (∀ z, zoneFormKept s z = true) ∧ bookingTableKept s = true ∧
  (∀ b ∈ s.bookings, bookingFieldsKept s b = true ∧ bookingTimeKept s.clock.time b = true ∧
    bookingZonesKept s b = true) ∧
  s.bookings.Pairwise (bookingsApart s.clock.time) ∧
  ∀ z d k, s.zones.get z = some d → d.reservation = some k →
    ∃ b ∈ s.bookings, b.number = k ∧ b.state ≠ .pending ∧ z ∈ b.zones

/-! ### Answers -/

/-- A request of a link that is answered at once with a frame, over a state that has its effect: the
receiver hunts again, and the frame is sent or waits (R24, R177, R192, R193). -/
def replied (l : Link) (f : Frame) (s : State) : State :=
  { s.setRx l .hunting with handling := none, held := [] }.send l [f]

/-- From `s` to `t` a request of a link was answered with a frame, and what the request raised on that
link followed it (R34, R179). -/
def answered (l : Link) (f : Frame) (s t : State) : Prop :=
  t.handling = none ∧ t.held = [] ∧ t.rx = s.rx.set l .hunting ∧
    ∃ more, t.tx.get l = (f :: more).foldl Tx.push (s.tx.get l)

/-- The answer of an ENROL_NEXT still awaited that a STOP_LINE or a RESTART abandons (R178; also of one whose
ASSIGN has not been sent, log entry 12). -/
def abandonedEnrol (s : State) : List Frame :=
  match s.enrolTag with
  | some e => [.answerSL e 0x18 .noSensor .empty]
  | none => []

/-! ### Which fields a piece of work can write -/

/-- What follows a change of holders (R60, R65, R68): permits and limits, latches, vane states, alarms
and frames. Nothing else is written; of a station context only MP, and v_wind stays. -/
def holderWork (s t : State) : Prop :=
  t = { s with ctx := t.ctx, arb := t.arb, lim := t.lim, vane := t.vane, alarms := t.alarms,
               attn := t.attn, handling := t.handling, held := t.held, tx := t.tx, rx := t.rx } ∧
  ∀ m, t.ctx.get m = { s.ctx.get m with mp := (t.ctx.get m).mp } ∧
    (t.lim.get m).vWind = (s.lim.get m).vWind

/-- Work on the zones and the bookings: as `holderWork`, and the zone table, the booking table and the
last ended bookings. -/
def zoneWork (s t : State) : Prop :=
  t = { s with ctx := t.ctx, arb := t.arb, zones := t.zones, lim := t.lim, vane := t.vane,
               bookings := t.bookings, alarms := t.alarms, attn := t.attn,
               handling := t.handling, held := t.held, tx := t.tx, rx := t.rx } ∧
  ∀ m, t.ctx.get m = { s.ctx.get m with mp := (t.ctx.get m).mp,
                                        lastEnded := (t.ctx.get m).lastEnded } ∧
    (t.lim.get m).vWind = (s.lim.get m).vWind

/-! ### The checks of staging, COMMIT and BOOK -/

/-- A station record meets the checks of R3: the ranges of the table of section 1.2, thresholds that do not
decrease, H below both CAUTION thresholds, a profile in use, and a FIXED index that names one in use. -/
def stationStaged (w : WireStation) : Prop :=
  (w.enabled ≤ 1 ∧ w.identity ≤ 4294967295 ∧ 1 ≤ w.jibRadius ∧ w.jibRadius ≤ 1023 ∧
    1 ≤ w.vRated ∧ w.vRated ≤ 4095 ∧ w.source ≤ 1 ∧ w.anemometers ≤ 15 ∧ w.hysteresis ≤ 200 ∧
    (w.persistence = 1 ∨ w.persistence = 4 ∨ w.persistence = 8 ∨ w.persistence = 16) ∧
    60 ≤ w.dropDwell ∧ w.dropDwell ≤ 3600 ∧ w.derateCaution ≤ 1000 ∧ w.derateHold ≤ 1000 ∧
    w.mode ≤ 1 ∧ w.rampDown ≤ 7 ∧ w.rampUp ≤ 7 ∧ 6 ≤ w.reportTimeout ∧ w.reportTimeout ≤ 50 ∧
    5 ≤ w.offlineDwell ∧ w.offlineDwell ≤ 120 ∧ 5 ≤ w.entryTimeout ∧ w.entryTimeout ≤ 255 ∧
    w.releaseDwell ≤ 255 ∧ w.loadStart ≤ 1) ∧
  (∀ p ∈ w.profiles.toList, 1 ≤ p.decel ∧ p.decel ≤ 1023 ∧ p.slewMargin ≤ 4095 ∧
    p.radialMargin ≤ 255 ∧ p.speedCap ≤ 1000 ∧ p.inUse ≤ 1) ∧
  (∀ t, t = w.gustAt ∨ t = w.meanAt →
    t.caution ≤ t.hold ∧ t.hold ≤ t.shutdown ∧ t.shutdown ≤ 999 ∧ w.hysteresis < t.caution) ∧
  (∃ i : ProfileIx, w.profiles[i.val].inUse = 1) ∧
  (w.source = 1 → ∃ i : ProfileIx, i.val = w.fixedIndex ∧ w.profiles[i.val].inUse = 1)

/-- A zone record meets the checks of R5. -/
def zoneStaged (w : WireZone) : Prop :=
  w.enabled ≤ 1 ∧ w.members.length ≤ 4 ∧ (w.members.map (·.station)).Nodup ∧
  (∀ m ∈ w.members, 1 ≤ m.station ∧ m.station ≤ 6 ∧ m.floor ≤ 1023 ∧
    (m.hi - m.lo).toNat + 1 ≤ 32768) ∧
  (w.enabled = 1 → 2 ≤ w.members.length)

/-- A station record holds what STAGE_STATION carries, field by field, for fields in range (R3, R195, R199). -/
def stationCarried (w : WireStation) (r : StationRec) : Prop :=
  (r.enabled = true ↔ w.enabled = 1) ∧ r.identity = w.identity ∧ r.jibRadius = w.jibRadius ∧
  r.vRated = w.vRated ∧ (w.source = 0 → r.source = .crane) ∧
  (w.source = 1 → ∃ i : ProfileIx, i.val = w.fixedIndex ∧ r.source = .fixed i) ∧
  (∀ i : ProfileIx,
    let p := w.profiles[i.val]
    profileAt r i = { decel := p.decel, slewMargin := p.slewMargin, radialMargin := p.radialMargin,
                      speedCap := p.speedCap, inUse := decide (p.inUse = 1) }) ∧
  (∀ a : Addr, r.anemometers.get a = w.anemometers.testBit (a.number - 1)) ∧
  r.gustAt = w.gustAt ∧ r.meanAt = w.meanAt ∧ r.hysteresis = w.hysteresis ∧
  r.persistence = w.persistence ∧ r.dropDwell = w.dropDwell ∧ r.derateCaution = w.derateCaution ∧
  r.derateHold = w.derateHold ∧ (w.mode = 0 → r.mode = .acting) ∧ (w.mode = 1 → r.mode = .advisory) ∧
  r.rampDown = w.rampDown ∧ r.rampUp = w.rampUp ∧ r.reportTimeout = w.reportTimeout ∧
  r.offlineDwell = w.offlineDwell ∧ r.entryTimeout = w.entryTimeout ∧
  r.releaseDwell = w.releaseDwell ∧ (r.loadStart = true ↔ w.loadStart = 1)

/-- A zone record holds what STAGE_ZONE carries, the members in the order staged (R5). -/
def zoneCarried (w : WireZone) (r : ZoneRec) : Prop :=
  (r.enabled = true ↔ w.enabled = 1) ∧
  r.members.map (fun m => (m.station.number, m.lo, m.hi, m.floor)) =
    w.members.map fun m => (m.station, m.lo, m.hi, m.floor)

/-- The fields of a BOOK meet check 2 of R156. -/
def bookInRange (f : WireBook) : Prop :=
  let zones := [f.zone1, f.zone2, f.zone3, f.zone4].take f.count
  1 ≤ f.count ∧ f.count ≤ 4 ∧ (∀ z ∈ zones, z ≤ 63) ∧ zones.Nodup ∧
  60 ≤ f.duration ∧ f.duration ≤ 43200 ∧ f.lead ≤ 900 ∧ f.lead ≤ f.start ∧
  (f.mode = 0 ∨ (f.mode = 1 ∧ f.accept ≤ 3600) ∨
    (f.mode = 2 ∧ 300 ≤ f.period ∧ f.period ≤ 86400 ∧ f.occurrences ≤ 255)) ∧
  f.start + (if f.mode = 1 then f.accept else 0) + f.duration ≤ 4294967295

/-- The booking mode of a BOOK in range: TIMED, ON_LOAD with its accept window, or REPEAT with its period and
its occurrences left, 0 for unlimited (R154, R196). -/
def bookMode (f : WireBook) : BookingMode :=
  if f.mode = 0 then .timed
  else if f.mode = 1 then .onLoad f.accept
  else .repeating f.period (if f.occurrences = 0 then none else some f.occurrences) 0

/-- A check of a COMMIT passes when no record fails it, and otherwise names the lowest-numbered record that does,
first any station, then any zone (R8). -/
def namesLowest (check : Option RecordName) (station : Station → Prop) (zone : Zone → Prop) : Prop :=
  (check = none ↔ (∀ n, ¬ station n) ∧ ∀ z, ¬ zone z) ∧
  (∀ n, check = some (.station n) ↔ station n ∧ ∀ m, m.number < n.number → ¬ station m) ∧
  ∀ z, check = some (.zone z) ↔ (∀ n, ¬ station n) ∧ zone z ∧ ∀ y, y < z → ¬ zone y

/-! ### The timeline of the bookings -/

/-- The end of a booking's span at a site time (the table of R155; R166). -/
def spanEndIs (b : Booking) (now : Nat) : Nat :=
  match b.state with
  | .pending | .lead | .armed =>
    b.start + (match b.mode with
      | .onLoad accept => accept
      | .timed | .repeating _ _ _ => 0) + b.duration
  | .deferred e => e
  | .blocked w | .active w =>
    match w.extension with
    | none => w.ends
    | some n => max w.ends (now + 1 + (max 1 (min ((w.remaining : Int) + n) 65535)).toNat)

/-- A window after a second boundary that makes the site time `now` (R165): a pending extension replaces the
decrease; a remaining of 1 without one runs out, which is taken as a step of its own (log entry 1). -/
def countedWindow (now : Nat) (w : Window) : Window :=
  match w.extension with
  | some n =>
    let left := (max 1 (min ((w.remaining : Int) + n) 65535)).toNat
    { w with remaining := left, extension := none, ends := now + left }
  | none =>
    if w.remaining ≤ 1 then { w with due := true }
    else { w with remaining := w.remaining - 1, ends := now + (w.remaining - 1) }

/-- Step 3 of R158 is due for a booking. -/
def leadDue (s : State) (b : Booking) : Bool :=
  b.state == .pending && decide (b.spanBegin ≤ s.clock.time)

/-- Step 4 of R158 is due for a booking. -/
def startDue (s : State) (b : Booking) : Bool :=
  b.state == .lead && decide (b.start ≤ s.clock.time)

/-- Nothing of R158 is due: every event of the boundaries so far has been taken (log entry 1). -/
def nothingDue (s : State) : Bool :=
  s.bookings.all fun b =>
    (b.endDue s.clock.time).isNone && !leadDue s b && !startDue s b

/-- The checks 3 to 9 of a BOOK pass (R156). -/
def bookable (s : State) (n : Station) (bySupervisor : Bool) (r : BookRequest) : Prop :=
  (bySupervisor = true → (s.station n).enabled = true) ∧
  (∀ z ∈ r.zones, (s.zone z).enabled = true ∧ s.isMember z n = true) ∧
  s.bookings.length < 48 ∧
  s.clock.time ≤ r.start - r.lead ∧
  ((∃ w, r.mode = .onLoad w) → (s.station n).loadStart = true) ∧
  ∀ c ∈ s.bookings, (s.bookingFor n false r).conflictsWith c s.clock.time = false

/-- The checks 3 to 9 of a BOOK in their order, each with the refusal it gives when it is the first that applies
(R156). NOT_MEMBER names the first such zone in list order, and OVERLAP the lowest number. -/
def bookChecked (s : State) (n : Station) (bySupervisor : Bool) (r : BookRequest)
    (refused : Code → Data → Prop) : Prop :=
  let conflicts (c : Booking) : Prop :=
    (s.bookingFor n false r).conflictsWith c s.clock.time = true
  (bySupervisor = true → (s.station n).enabled = false → refused .disabled .empty) ∧
  ((bySupervisor = true → (s.station n).enabled = true) →
    ((∃ z ∈ r.zones, (s.zone z).enabled = false) → refused .noZone .empty) ∧
    ((∀ z ∈ r.zones, (s.zone z).enabled = true) →
      (∀ before z after, r.zones = before ++ z :: after →
        (∀ y ∈ before, s.isMember y n = true) → s.isMember z n = false →
        refused .notMember (.zone z)) ∧
      ((∀ z ∈ r.zones, s.isMember z n = true) →
        (48 ≤ s.bookings.length → refused .full .empty) ∧
        (s.bookings.length < 48 →
          (r.start - r.lead < s.clock.time → refused .late .empty) ∧
          (s.clock.time ≤ r.start - r.lead →
            ((∃ w, r.mode = .onLoad w) → (s.station n).loadStart = false →
              refused .loadStart .empty) ∧
            (((∃ w, r.mode = .onLoad w) → (s.station n).loadStart = true) →
              ∀ c ∈ s.bookings, conflicts c →
                (∀ d ∈ s.bookings, conflicts d → c.number ≤ d.number) →
                refused .overlap (.booking c.number)))))))

/-- A number that is in no record of the booking table is answered LATE when it is the last ended booking of one
of the stations asked about, and NO_BOOKING otherwise (R166, R169). -/
def notInTable (s : State) (number : Nat) (asked : Station → Prop) (answered : Code → Prop) : Prop :=
  ((∃ n e, asked n ∧ (s.ctx.get n).lastEnded = some e ∧ e.number = number) → answered .late) ∧
  ((∀ n e, asked n → (s.ctx.get n).lastEnded = some e → e.number ≠ number) → answered .noBooking)

/-- The outcome of a BOOK of station `n` that admits booking `b` (R157): before its lead the booking stands
PENDING; with its lead beginning now it stands LEAD with its zones reserved; with its start now it has
been started (R160, R161). The answer goes out on the link, as `say` makes it of its data. -/
def admission (s : State) (n : Station) (l : Link) (say : Data → Frame) (b : Booking)
    (o : Host.Outcome State Fault Refusal) : Prop :=
  let u := { s.setBookings (insertBooking b s.bookings) with
             nextNumber := nextBookingNumber b.number }
  let holders := b.zones.map s.holder
  (s.clock.time < b.spanBegin →
    o = .next (replied l (say (.admitted b.number .pending holders)) u)) ∧
  (b.spanBegin = s.clock.time → s.clock.time < b.start →
    o = .next (replied l (say (.admitted b.number .lead holders))
      ((u.putBooking { b with state := .lead }).reserve b.number b.zones))) ∧
  (b.start = s.clock.time →
    ∃ t c, o = .next t ∧ t.booking? b.number = some c ∧ c = { b with state := c.state } ∧
      answered l (say (.admitted b.number c.state (b.zones.map t.holder))) s t ∧
      (∀ w, b.mode = .onLoad w → c.state = .armed) ∧
      ((∀ w, b.mode ≠ .onLoad w) →
        ((s.wind.get n).stage = .hold ∨ (s.wind.get n).stage = .shutdown →
          c.state = .deferred (b.start + b.duration)) ∧
        ((s.wind.get n).stage = .normal ∨ (s.wind.get n).stage = .caution →
          c.state = openState b.zones
            { ends := b.start + b.duration, remaining := b.duration, extension := none,
              passed := b.zones.filter fun z => t.holds n z, due := false })) ∧
      zoneWork { s with nextNumber := t.nextNumber } t)

/-! ### Limits -/

/-- A member entry is the station's own entry of an obstacle: of an enabled zone it does not hold, or that another
station sweeps (R75). -/
def obstacleOf (s : State) (n : Station) (m : Member) : Prop :=
  ∃ z ∈ s.memberZones n, s.member z n = some m ∧
    ¬ (s.holder z = some n ∧
        ∀ d, s.zones.get z = some d → ∀ k, k ≠ n → d.swept.get k = false)

/-- The gap speed of a direction over its obstacles: 0 inside one, V_rated when the direction is open, and
otherwise by the least distance to a slew obstacle, capped at 32 768 (R76, R78). -/
def gapSpeedIs (r : StationRec) (f : Figures) (obstacle : Member → Prop) (p : Position)
    (distance : Position → Member → Nat) (v : Nat) : Prop :=
  let inside := ∃ m, obstacle m ∧ obstacleClass m p = .inside
  let slew (m : Member) : Prop := obstacle m ∧ obstacleClass m p = .slew
  (inside → v = 0) ∧ (¬ inside → (∀ m, ¬ slew m) → v = r.vRated) ∧
  (¬ inside → (∃ m, slew m) → ∃ g, g ≤ 32768 ∧ (∀ m, slew m → g ≤ distance p m) ∧
    (g = 32768 ∨ ∃ m, slew m ∧ distance p m = g) ∧
    (g ≤ f.slewMargin → v = 0) ∧
    (f.slewMargin < g → v ≤ r.vRated ∧ v * v ≤ 2 * f.decel * (g - f.slewMargin) ∧
      (v = r.vRated ∨ 2 * f.decel * (g - f.slewMargin) < (v + 1) * (v + 1))))

/-- The radius limit over the obstacles: the least radius bound, or 1023, within the jib radius (R77). -/
def radiusLimitIs (r : StationRec) (f : Figures) (obstacle : Member → Prop) (p : Position)
    (v : Nat) : Prop :=
  let bound (m : Member) : Nat := m.floor - f.radialMargin - 1
  let bounds (m : Member) : Prop := obstacle m ∧ obstacleClass m p = .radius
  v ≤ r.jibRadius ∧ v ≤ 1023 ∧ (∀ m, bounds m → v ≤ bound m) ∧
    (v = min r.jibRadius 1023 ∨ ∃ m, bounds m ∧ v = bound m)

/-! ### Reports -/

/-- A zone's record after a report of a station that completes no join has been judged: a zone it holds in GRANTED
and is inside is HELD with its entry timer stopped (R54); of one then HELD and ORDINARY the release dwell is
stopped inside, and outside started if it is stopped and the release dwell is not 0 (R56). -/
def judgedZone (s : State) (n : Station) (z : Zone) (d : ZoneDyn) : ZoneDyn :=
  match d.hold with
  | none => d
  | some h =>
    if h.station = n then
      let inside := s.inside z n
      let dwell := (s.station n).releaseDwell
      { d with
        hold := some { h with seen := h.seen || inside }
        entry := if h.seen = false ∧ inside = true then .stopped else d.entry
        dwell :=
          if (h.seen || inside) = true ∧ h.kind = .ordinary then
            if inside then .stopped
            else if d.dwell = .stopped ∧ dwell ≠ 0 then .running dwell
            else d.dwell
          else d.dwell }
    else d

/-! ### What the answers show -/

/-- The four zone sets of a station (R33): held, granted, under clearance request, and queued with the position
in the wait list, 1 for its head. -/
def zoneSetsViewed (s : State) (n : Station) (x : ZoneSets) : Prop :=
  (∀ z, z ∈ x.held ↔ ∃ h, s.holding z = some h ∧ h.station = n ∧ h.seen = true) ∧
  (∀ z, z ∈ x.granted ↔ ∃ h, s.holding z = some h ∧ h.station = n ∧ h.seen = false) ∧
  (∀ z, z ∈ x.clearing ↔
    s.holder z = some n ∧ ∃ m ∈ s.members z, m ≠ n ∧ (s.vane.get m).vane = .clearing) ∧
  ∀ z i, (z, i + 1) ∈ x.queued ↔
    ∃ d, s.zones.get z = some d ∧ d.waiting.idxOf? n = some i

/-- The position answer shows the station as it stands (R33). -/
def positionViewed (s : State) (n : Station) (a : PositionAnswer) : Prop :=
  let c := s.ctx.get n
  let l := s.lim.get n
  a.link = c.link ∧ a.mp = c.mp ∧ a.profileHeld = c.profileHeld ∧
  a.cw = l.cw ∧ a.ccw = l.ccw ∧ a.radius = l.radius ∧
  a.stage = (s.wind.get n).stage ∧ a.vane = (s.vane.get n).vane ∧ zoneSetsViewed s n a.zones ∧
  ((∀ b ∈ s.bookings, b.station = n → b.inWindow = false) → a.booking = 0 ∧ a.remaining = 0) ∧
  ((∃ b ∈ s.bookings, b.station = n ∧ b.inWindow = true) →
    ∃ b ∈ s.bookings, ∃ w, b.station = n ∧ b.window? = some w ∧
      a.booking = b.number ∧ a.remaining = w.remaining) ∧
  a.highest = s.highest n ∧ a.revision = s.plan.revision

/-- The answer to QUERY_STATION shows the station's context (R181). -/
def stationViewed (s : State) (n : Station) (v : StationView) : Prop :=
  v.enabled = (s.station n).enabled ∧ v.ctx = s.ctx.get n ∧ v.arb = s.arb.get n ∧
  zoneSetsViewed s n v.zones ∧ v.lim = s.lim.get n ∧ v.wind = s.wind.get n ∧
  v.vane = s.vane.get n ∧
  ((∀ b ∈ s.bookings, b.station = n → b.state = .pending) →
    v.booking = 0 ∧ v.bookingState = none) ∧
  ((∃ b ∈ s.bookings, b.station = n ∧ b.state ≠ .pending) →
    ∃ b ∈ s.bookings, b.station = n ∧ b.state ≠ .pending ∧
      v.booking = b.number ∧ v.bookingState = some b.state) ∧
  v.highest = s.highest n

/-- The answer to QUERY_ZONE shows the zone's dynamic record, the reserving booking and the members the zone is
closed to (R46, R182). -/
def zoneViewed (s : State) (z : Zone) (d : ZoneDyn) (v : ZoneView) : Prop :=
  v.dyn = d ∧
  (d.reservation = none → v.reserving = none) ∧
  (∀ k b, d.reservation = some k → s.booking? k = some b →
    v.reserving = some (b.state, b.station)) ∧
  ∀ n, n ∈ v.closedTo ↔ n ∈ s.members z ∧
    ((∃ m, m ≠ n ∧ d.swept.get m = true) ∨
      ∃ m ∈ s.members z, m ≠ n ∧
        ((s.vane.get m).vane = .clearing ∨ (s.vane.get m).vane = .clear))

/-! ### A commit -/

/-- From `s` to `t` a commit has taken effect: the plan (R2, R12), the settings handed on (R6), the records of
changed zones (R13, R69) and of unchanged ones, which keep holder, entry timer and swept set, and lose no more
than waiters; the disabled stations, whose fields and alarm entries are reset (R13, R41, R87, R127, R143,
R191); the speeds, which a lowered V_rated clamps (R82, R87); the PENDING bookings the new plan strands, which
end CANCELLED(PLAN) (R13, R174); the conditions that end (R12); and the permits. -/
def committed (s t : State) : Prop :=
  t.plan = { s.plan with live := s.plan.staged, revision := (s.plan.revision + 1) % 65536,
                         pendingCommit := .absent, invalid := false, commitFailed := false } ∧
  t.siteDerate = s.plan.staged.site.siteDerate ∧
  t.clock = { s.clock with realign := s.plan.staged.site.realign } ∧
  (∀ z, s.zoneChanged z = true →
    t.zones.get z = if (s.plan.staged.zones.get z).enabled then some .fresh else none) ∧
  (∀ n, (s.station n).enabled = true → (s.plan.staged.stations.get n).enabled = false →
    (t.ctx.get n).position = none ∧ (t.ctx.get n).rise = none ∧ (t.ctx.get n).profile = none ∧
      t.wind.get n = .reset ∧ t.vane.get n = .reset ∧ t.lim.get n = .reset ∧
      (∀ i ∈ [AlarmId.unsafeVane n, .intrusion n, .clearanceOverdue n, .windLost n, .linkStale n],
        t.alarms.get i = ⟨.clear, false⟩) ∧
      ((∀ z, t.holder z ≠ some n) → t.alarms.get (.conflict n) = ⟨.clear, false⟩)) ∧
  (∀ z, s.zoneChanged z = false →
    (s.zones.get z = none → t.zones.get z = none) ∧
    ∀ d, s.zones.get z = some d → ∃ e, t.zones.get z = some e ∧
      e.swept = d.swept ∧ (∀ n ∈ e.waiting, n ∈ d.waiting) ∧
      ∀ h, d.hold = some h → e.entry = d.entry ∧ ∃ kind, e.hold = some { h with kind := kind }) ∧
  (∀ n, (s.plan.staged.stations.get n).enabled = true →
    (t.lim.get n).vWind = min (s.lim.get n).vWind (s.plan.staged.stations.get n).vRated) ∧
  (∀ b, s.booking? b.number = some b → b.state = .pending →
    ((s.plan.staged.stations.get b.station).enabled = false ∨
      ∃ z ∈ b.zones, (s.plan.staged.zones.get z).enabled = false ∨
        memberOf (s.plan.staged.zones.get z) b.station = none) →
    t.booking? b.number = none ∧
    ((∀ c ∈ s.bookings, c ≠ b → c.station ≠ b.station) →
      (t.ctx.get b.station).lastEnded = some ⟨b.number, .cancelledPlan⟩)) ∧
  t.alarms.get .planInvalid = (s.alarms.get .planInvalid).ends .held ∧
  t.alarms.get .commitFailed = (s.alarms.get .commitFailed).ends .latching ∧
  (∀ n, permitFollows t n = true) ∧
  t.line = s.line ∧ t.sensors = s.sensors ∧ t.cycle = s.cycle ∧ t.siteStop = s.siteStop ∧
  t.sstopPin = s.sstopPin ∧ t.nextNumber = s.nextNumber ∧ t.enrolTag = s.enrolTag

end Sys2Proof.Safety
end

