-- ==== Sys2Proof/Certificates/Slice0/Obligations.lean ====
section
/-! DEFINITION. The statements about the part: the step, the invariants, the encodings, the shared
operations, and for every command where it completes, what it then changes and what it leaves. -/

open Sys2Proof Sys2Proof.Machine Sys2Proof.Safety

/-! ### The step and the queue -/

/-- A step takes the command at the front of the queue and answers what `exec` answers on the state with
the queue's rest; on an empty queue the block idles (log entry 6). -/
def Obligations.StepTakesTheFrontCommand : Prop :=
  ∀ s : State,
    (∀ c rest, s.pending = c :: rest → step s = exec c { s with pending := rest }) ∧
    (s.pending = [] → step s = .next s)

/-- Every command and event has an effect, and none of them touches the queue; when it has been taken, no
frame is held back any more: each has been sent or waits on its link (R34, R179). -/
def Obligations.EveryCommandGoesOnAndKeepsTheQueue : Prop :=
  ∀ (c : Instr) (s : State), ∃ t, exec c s = .next t ∧ t.pending = s.pending ∧
    (betweenSteps s = true → betweenSteps t = true)

/-! ### Reset -/

/-- The values every block takes at a power-on (R23, R71, R89, R95, R113, R129, R145, R153, R176, R191),
over a store that nothing has been written to, which is the model's choice (log entry 2). The first tick
comes one tick later (R147). -/
def Obligations.ResetTakesThePowerOnValues : Prop :=
  (∀ n, State.reset.ctx.get n =
      { link := .offline, position := none, rise := none, profile := none, profileHeld := false,
        reportTimer := .stopped, linkDwell := .stopped, mp := false, lastEnded := none } ∧
    State.reset.arb.get n = { intrusion := false, recovery := false, conflict := false } ∧
    State.reset.lim.get n =
      { vWind := 0, inEffect := none, gapCw := 0, gapCcw := 0, cw := 0, ccw := 0, radius := 0 } ∧
    State.reset.wind.get n =
      { stage := .normal, figures := none, lost := false, raise := 0, dropStart := none,
        dropDue := false } ∧
    State.reset.vane.get n =
      { vane := .braked, timer := .stopped, vc := false, unsafeLatched := false, overdue := false,
        lastReleased := false }) ∧
  (∀ z, State.reset.zones.get z = none) ∧
  State.reset.line =
    { state := .enrolling, windowCount := 0, windowOpen := true, enrolHeld := false,
      echoWait := none, commands := [], runWatch := none } ∧
  (∀ a, State.reset.sensors.get a =
    { state := .absent, identity := [], attempts := 0, attemptCycles := 0, readyRun := 0,
      missRun := 0, goodRun := 0, history := [], figures := none }) ∧
  State.reset.clock =
    { time := 0, timeSet := false, phase := 0, realign := true, slip := false, lastSlip := none } ∧
  State.reset.tickInterval = 50000 ∧
  State.reset.bookings = [] ∧ State.reset.nextNumber = 1 ∧
  (∀ i, i ≠ .planInvalid → State.reset.alarms.get i = ⟨.clear, false⟩) ∧
  State.reset.alarms.get .planInvalid = ⟨.active, false⟩ ∧
  State.reset.plan.live = emptyPlan ∧ State.reset.plan.revision = 0

/-- The state after reset meets every invariant stated below. -/
def Obligations.ResetMeetsTheInvariants : Prop :=
  sound State.reset = true ∧ airspaceClosed State.reset = true ∧
    (∀ n, speedKept State.reset n = true) ∧ (∀ z, waitListKept State.reset z = true) ∧
    bookingTableKept State.reset = true ∧ tablesKept State.reset

/-- The empty plan (R20): the values of its records, all disabled; every station record and the
plan-wide record passes the staging checks, a disabled zone record without members passes them too, and
committed unchanged it passes the commit checks. It is the live plan after a power-on over a bad
store. -/
def Obligations.EmptyPlanStandsAsTheManualGivesIt : Prop :=
  (∀ n, emptyPlan.stations.get n =
    { enabled := false, identity := 0, jibRadius := 500, vRated := 1000, source := .crane,
      profiles := Vector.ofFn fun i : Fin 8 =>
        { decel := 100, slewMargin := 0, radialMargin := 0, speedCap := 1000, inUse := i == 0 },
      anemometers := .const false, gustAt := ⟨150, 200, 250⟩, meanAt := ⟨100, 150, 200⟩,
      hysteresis := 20, persistence := 4, dropDwell := 600, derateCaution := 250,
      derateHold := 500, mode := .acting, rampDown := 3, rampUp := 5, reportTimeout := 20,
      offlineDwell := 30, entryTimeout := 30, releaseDwell := 10, loadStart := false }) ∧
  (∀ z, emptyPlan.zones.get z = { enabled := false, members := [] }) ∧
  emptyPlan.site = { clearanceTimeout := 120, siteDerate := 0, realign := true } ∧
  (∀ n, acceptStation (readWireStation (stationRecBytes (emptyPlan.stations.get n)))
    = some (emptyPlan.stations.get n)) ∧
  (∀ z, acceptZone (readWireZone (zoneRecBytes (emptyPlan.zones.get z)))
    = some (emptyPlan.zones.get z)) ∧
  acceptSite 120 0 1 = some emptyPlan.site ∧
  (∀ s : State, s.plan.live = emptyPlan → s.plan.staged = emptyPlan →
    s.crossCheck = none ∧ s.inUseCheck = none) ∧
  ∀ s : State, s.plan.store.good = false →
    ∃ t, exec .powerOn s = .next t ∧ t.plan.live = emptyPlan

/-! ### Invariants of every step -/

/-- ATTN is asserted while an entry is ACTIVE and not acknowledged or an entry is LATCHED, and is
withdrawn otherwise, after every step from a state in which it was so (R190). -/
def Obligations.AttnFollowsTheAlarmTable : Prop :=
  ∀ s t : State, attnFollows s = true → step s = .next t →
    (t.attn = true ↔
      ∃ i, ((t.alarms.get i).state = .active ∧ (t.alarms.get i).ack = false)
        ∨ (t.alarms.get i).state = .latched)

/-- The motion permit of every station is asserted while all the conditions of R39 hold and withdrawn
whenever one fails, after every step from a state in which it was so. -/
def Obligations.MotionPermitFollowsItsConditions : Prop :=
  ∀ s t : State, (∀ n, permitFollows s n = true) → step s = .next t → ∀ n,
    ((t.ctx.get n).mp = true ↔
      (t.ctx.get n).link = .online ∧ t.plan.invalid = false ∧ (t.station n).enabled = true ∧
      (t.arb.get n).intrusion = false ∧ (t.vane.get n).unsafeLatched = false ∧
      (t.arb.get n).conflict = false ∧ 0 < (t.lim.get n).vWind)

/-- Both slew limits of every station are 0 while its motion permit is withdrawn (R40, R84), after every
step from a state in which they were. The wind-limited speed of every enabled station never passes its
rated speed, and that of a disabled one is 0 (R82, R85), after every step from a state in which it was
so. -/
def Obligations.SlewLimitsAreZeroWithoutPermit : Prop :=
  (∀ s t : State, (∀ n, limitsFollow s n = true) → step s = .next t →
    ∀ n, (t.ctx.get n).mp = false → (t.lim.get n).cw = 0 ∧ (t.lim.get n).ccw = 0) ∧
  ∀ s t : State, (∀ n, speedKept s n = true) → step s = .next t → ∀ n,
    ((t.station n).enabled = true → (t.lim.get n).vWind ≤ (t.station n).vRated) ∧
    ((t.station n).enabled = false → (t.lim.get n).vWind = 0)

/-- The vane-clear line is asserted in CLEAR and VANING alone, and then no zone of which the station is a
member is held by another station; none is either while the station is CLEAR (R134, R136). -/
def Obligations.VaneClearMeansNoZoneHeldByAnother : Prop :=
  ∀ s t : State, (∀ n, vaneClearKept s n = true) → step s = .next t → ∀ n,
    vaneClearKept t n = true ∧
    ((t.vane.get n).vc = true →
      ((t.vane.get n).vane = .clear ∨ (t.vane.get n).vane = .vaning) ∧
      ∀ z ∈ t.memberZones n, ∀ h, t.holder z = some h → h = n)

/-- The airspace of a swinging jib stays closed: while a zone's swept set is non-empty, the zone has no
holder or its holder is in the swept set, unless a station in that set has unsafe vane latched (R46). -/
def Obligations.SweptAirspaceStaysClosed : Prop :=
  ∀ s t : State, airspaceClosed s = true → step s = .next t →
    airspaceClosed t = true ∧
    ∀ z d h, t.zones.get z = some d → d.hold = some h →
      (∃ m, d.swept.get m = true) →
      d.swept.get h.station = true ∨
        ∃ m, d.swept.get m = true ∧ (t.vane.get m).unsafeLatched = true

/-- A wait list holds no station twice, and never the zone's holder (R44, R48, R49). -/
def Obligations.WaitListsHoldEachStationOnce : Prop :=
  ∀ s t : State, (∀ z, waitListKept s z = true) → step s = .next t →
    ∀ z d, t.zones.get z = some d →
      d.waiting.Nodup ∧ ∀ h, d.hold = some h → h.station ∉ d.waiting

/-- The booking table never holds more than 48 bookings, and each number in it is unique and lies in 1 .. 65
535 (R154, R155, R157). The booking table and the zone table keep their form together: from a state in which
they have it, after every step no two bookings conflict, a station has at most one booking in its window,
bookings from LEAD on share no zone (R155), and no other station holds a zone of an ACTIVE booking. Every zone
passed is held BOOKED by its booking's station, so every zone of an ACTIVE booking is held by it (R164), and
stays so at every step that ends no PENDING booking; that the end of one can undo it is the model's choice
among R64, R43 and R164 (log entry 30). A zone record stands exactly for the enabled zones, its holder and its
at most three waiters are members, no station twice and not the holder, and both timers are stopped while it
is FREE or BOOKED (R42 to R44). -/
def Obligations.BookingTableKeepsItsForm : Prop :=
  (∀ s t : State, bookingTableKept s = true → step s = .next t →
    bookingTableKept t = true ∧ t.bookings.length ≤ 48 ∧ (t.bookings.map (·.number)).Nodup) ∧
  ∀ s t : State, tablesKept s → step s = .next t →
    tablesKept t ∧
    (∀ b ∈ t.bookings, ∀ c ∈ t.bookings, b ≠ c →
      b.conflictsWith c t.clock.time = false ∧
      ¬ (b.inWindow = true ∧ c.inWindow = true ∧ b.station = c.station) ∧
      (b.state ≠ .pending → c.state ≠ .pending → ∀ z ∈ b.zones, z ∉ c.zones)) ∧
    (∀ b ∈ t.bookings, ∀ w, b.state = .active w → ∀ z ∈ b.zones, ∀ n, t.holder z = some n →
      n = b.station) ∧
    (passedHeld s →
      (∀ b ∈ s.bookings, b.state = .pending → (t.booking? b.number).isSome = true) →
      passedHeld t ∧
      ∀ b ∈ t.bookings, ∀ w, b.state = .active w → ∀ z ∈ b.zones,
        t.holder z = some b.station) ∧
    (∀ z, t.zones.get z = none ↔ (t.zone z).enabled = false) ∧
    ∀ z d, t.zones.get z = some d →
      d.waiting.length ≤ 3 ∧ d.waiting.Nodup ∧ (∀ n ∈ d.waiting, t.isMember z n = true) ∧
      (d.hold = none → d.entry = .stopped ∧ d.dwell = .stopped) ∧
      ∀ h, d.hold = some h → t.isMember z h.station = true ∧ h.station ∉ d.waiting ∧
        (h.kind = .booked → d.entry = .stopped ∧ d.dwell = .stopped)

/-! ### Encodings and arithmetic -/

/-- A receiver that hunts over the frames of any payloads, one after the other, each in the envelope of
R192, takes exactly those frames (R193). -/
def Obligations.ReceiverTakesEveryFrameSent : Prop :=
  ∀ frames : List Taken, (∀ f ∈ frames, f.payload.length ≤ 254) →
    huntAgain (frames.flatMap fun f => envelope (f.kind :: f.payload)) = (frames, none)

/-- A plan record that a staging command has accepted, read back from the bytes READ_RECORD gives it,
is accepted again as the same record (R3, R5, R6, R183, R199; the order of the fields is that of log
entry 16). -/
def Obligations.PlanRecordsReadBackAsStaged : Prop :=
  (∀ w r, acceptStation w = some r → acceptStation (readWireStation (stationRecBytes r)) = some r) ∧
  (∀ w r, acceptZone w = some r → acceptZone (readWireZone (zoneRecBytes r)) = some r) ∧
  ∀ c d e r, acceptSite c d e = some r →
    acceptSite (field (siteRecBytes r) 0 2) (field (siteRecBytes r) 2 2)
      (field (siteRecBytes r) 4 1) = some r

/-- The words of the line: the check of a value (R92), the bits of a command (R94, R200), and the reading
of a slot by its check and its value. -/
def Obligations.LineWordsCarryTheirCheck : Prop :=
  check3 (bitsOf 10 250) = [true, true, true] ∧ check3 (bitsOf 10 0) = [true, false, false] ∧
  (LineCommand.assign .a3).word =
    [false, true, true, false, true, true, false, true, true, true, true] ∧
  ∀ v, v < 1024 → ∀ c, c.length = 3 →
    readSlot (bitsOf 10 v ++ c) = if c = check3 (bitsOf 10 v) then .value v else .badCheck

/-- The integer square root is the greatest integer whose square does not exceed its argument
(00_scope.md, "Rounding"). The derate follows the table of R79, and the target is the floor of
V_rated · (1000 − D) / 1000 (R80; its last clause is followed as the formula gives it, log entry 27). A
step of the ramp goes to the target at once for code 0, and otherwise by the ceiling of V_rated divided by the
ticks of the code, 20 for code 1 and twice as many for each code above, never past the target; the ramp reaches
it within those ticks (R81). -/
def Obligations.LimitArithmeticIsExact : Prop :=
  (∀ n, isqrt n * isqrt n ≤ n ∧ n < (isqrt n + 1) * (isqrt n + 1)) ∧
  (∀ (s : State) (n : Station),
    let r := s.station n
    let stage := (s.wind.get n).stage
    let d := derateOf s.siteStop r stage s.siteDerate
    (s.siteStop = true → d = 1000) ∧
    (s.siteStop = false →
      (r.mode = .advisory → d = min 1000 s.siteDerate) ∧
      (r.mode = .acting →
        (stage = .normal → d = min 1000 s.siteDerate) ∧
        (stage = .caution → d = min 1000 (r.derateCaution + s.siteDerate)) ∧
        (stage = .hold → d = min 1000 (r.derateHold + s.siteDerate)) ∧
        (stage = .shutdown → d = 1000))) ∧
    s.target n * 1000 ≤ r.vRated * (1000 - d) ∧
    r.vRated * (1000 - d) < (s.target n + 1) * 1000 ∧ s.target n ≤ r.vRated) ∧
  (∀ (r : StationRec) (v target : Nat), v ≤ r.vRated → target ≤ r.vRated →
    (target ≤ v → target ≤ rampStep r v target ∧ rampStep r v target ≤ v ∧
      (fun x => rampStep r x target)^[max 1 (rampTicks r.rampDown)] v = target) ∧
    (v ≤ target → v ≤ rampStep r v target ∧ rampStep r v target ≤ target ∧
      (fun x => rampStep r x target)^[max 1 (rampTicks r.rampUp)] v = target)) ∧
  ∀ (r : StationRec) (v target ticks step : Nat),
    let moves (code : Nat) : Prop :=
      (code, ticks) ∈ [(1, 20), (2, 40), (3, 80), (4, 160), (5, 320), (6, 640), (7, 1280)] ∧
      r.vRated ≤ step * ticks ∧ ∀ m, r.vRated ≤ m * ticks → step ≤ m
    (target < v →
      (r.rampDown = 0 → rampStep r v target = target) ∧
      (moves r.rampDown → rampStep r v target = max target (v - step))) ∧
    (v < target →
      (r.rampUp = 0 → rampStep r v target = target) ∧
      (moves r.rampUp → rampStep r v target = min target (v + step))) ∧
    (v = target → rampStep r v target = v)

/-! ### Limits -/

/-- A crane within its published limits stops in time (R75 to R78, R84): after a computation, both slew limits
are 0 inside an obstacle, the square of a slew limit is at most 2a times the distance to a slew obstacle less
the margin, and the radius limit lies below the floor of a radius obstacle. The figures are exact: the gap is
the least distance, capped at 32 768, the gap speed is V_rated or the root, a slew limit is the least of gap
speed, v_wind and the cap, the radius limit is the least bound within the jib radius (R75 to R78, R84), over
the classes and distances of the positions; a profile out of use leaves the one in effect (R74); a station
disabled, VANING, without a position or without a profile has zeros (R85). Nothing else changes. -/
def Obligations.LimitsKeepTheStoppingDistance : Prop :=
  (∀ (s : State) (n : Station) (z : Zone) (m : Member) (p : Position),
    z ∈ s.memberZones n → s.countsHeld z n = false → s.member z n = some m →
    (s.ctx.get n).position = some p →
    let l := (s.recompute n).lim.get n
    (obstacleClass m p = .inside → l.cw = 0 ∧ l.ccw = 0) ∧
    (obstacleClass m p = .slew → ∀ f, l.inEffect = some f →
      l.cw * l.cw ≤ 2 * f.decel * (clockwiseTo p m - f.slewMargin) ∧
      l.ccw * l.ccw ≤ 2 * f.decel * (counterClockwiseTo p m - f.slewMargin)) ∧
    (obstacleClass m p = .radius → l.radius < m.floor)) ∧
  (∀ (m : Member) (p : Position),
    let within := if m.lo ≤ m.hi then m.lo ≤ p.angle ∧ p.angle ≤ m.hi
      else m.lo ≤ p.angle ∨ p.angle ≤ m.hi
    (obstacleClass m p = .inside ↔ within ∧ m.floor ≤ p.radius) ∧
    (obstacleClass m p = .slew ↔ ¬ within ∧ m.floor ≤ p.radius) ∧
    (obstacleClass m p = .radius ↔ within ∧ p.radius < m.floor) ∧
    clockwiseTo p m = (m.lo - p.angle).toNat ∧ counterClockwiseTo p m = (p.angle - m.hi).toNat) ∧
  ∀ (s : State) (n : Station),
    let r := s.station n
    let old := s.lim.get n
    let l := (s.recompute n).lim.get n
    let mp := (s.ctx.get n).mp
    s.recompute n = s.setLim n l ∧ l.vWind = old.vWind ∧
    (r.enabled = true →
      (∀ i, (s.ctx.get n).profile = some i → (profileAt r i).inUse = true →
        l.inEffect = some (figuresOf (profileAt r i))) ∧
      (∀ i, (s.ctx.get n).profile = some i → (profileAt r i).inUse = false →
        l.inEffect = old.inEffect) ∧
      ((s.ctx.get n).profile = none → l.inEffect = old.inEffect)) ∧
    (r.enabled = false ∨ (s.vane.get n).vane = .vaning ∨ (s.ctx.get n).position = none ∨
        l.inEffect = none →
      l.gapCw = 0 ∧ l.gapCcw = 0 ∧ l.cw = 0 ∧ l.ccw = 0 ∧ l.radius = 0) ∧
    ∀ p f, r.enabled = true → (s.vane.get n).vane ≠ .vaning →
      (s.ctx.get n).position = some p → l.inEffect = some f →
      gapSpeedIs r f (obstacleOf s n) p clockwiseTo l.gapCw ∧
      gapSpeedIs r f (obstacleOf s n) p counterClockwiseTo l.gapCcw ∧
      l.cw = (if mp then min l.gapCw (min l.vWind (r.vRated * f.speedCap / 1000)) else 0) ∧
      l.ccw = (if mp then min l.gapCcw (min l.vWind (r.vRated * f.speedCap / 1000)) else 0) ∧
      radiusLimitIs r f (obstacleOf s n) p l.radius

/-! ### Alarm entries, zones and bookings: the shared operations -/

/-- How an entry moves when its condition begins and ends (R186), with an alert on each move from CLEAR
to ACTIVE (R188); no other entry moves. The highest alarm of a station is the kind of lowest priority number
among the entries in ACTIVE or LATCHED that concern it, and none when there is no such entry (R189). -/
def Obligations.AlarmEntriesMoveWithTheirConditions : Prop :=
  (∀ (s : State) (i : AlarmId), s.handling = none →
    let e := s.alarms.get i
    let a : Frame := .alert { entry := i, time := s.clock.time, phase := s.clock.phase }
    (∀ j, j ≠ i → (s.alarmBegins i).alarms.get j = s.alarms.get j ∧
      (s.alarmEnds i).alarms.get j = s.alarms.get j) ∧
    (e.state = .clear → (s.alarmBegins i).alarms.get i = ⟨.active, false⟩ ∧
      (s.alarmBegins i).tx.get .supervisor = (s.tx.get .supervisor).push a) ∧
    (e.state = .latched → (s.alarmBegins i).alarms.get i = ⟨.active, false⟩ ∧
      (s.alarmBegins i).tx = s.tx) ∧
    (e.state = .active → (s.alarmBegins i).alarms.get i = e ∧ (s.alarmBegins i).tx = s.tx ∧
      (s.alarmEnds i).alarms.get i =
        match i.kind.latchClass with
        | .temporary | .held => ⟨.clear, false⟩
        | .latching => if e.ack then ⟨.clear, false⟩ else ⟨.latched, false⟩
        | .sensorLatching => ⟨.latched, e.ack⟩) ∧
    (s.alarmEnds i).tx = s.tx) ∧
  ∀ (s : State) (n : Station),
    let concerns (i : AlarmId) : Prop :=
      match i with
      | .planInvalid | .siteStop | .timeSlip | .storeFailed | .commitFailed => True
      | .unsafeVane m | .intrusion m | .conflict m | .clearanceOverdue m | .windLost m
      | .linkStale m => m = n
      | .sensorFailed a | .sensorFault a => (s.station n).anemometers.get a = true
    (s.highest n = none ↔ ∀ i, concerns i → (s.alarms.get i).state = .clear) ∧
    ∀ k, s.highest n = some k ↔
      (∃ i, concerns i ∧ (s.alarms.get i).state ≠ .clear ∧ i.kind = k) ∧
      ∀ i, concerns i → (s.alarms.get i).state ≠ .clear → k.priority ≤ i.kind.priority

/-- Serving a zone (R52): a zone with a holder stays as it is; one reserved for a booking in window not
closed to its station goes to that station BOOKED; another reserved zone stays FREE; an unreserved zone
goes to the head of its wait list, unless it is closed to it. No other zone changes. A zone is closed to a
station when its swept set holds another, or when another member is CLEARING or CLEAR (R46). -/
def Obligations.ServingFollowsTheClaims : Prop :=
  ∀ (s : State) (z : Zone) (d : ZoneDyn), s.zones.get z = some d →
    (∀ n, s.closedTo z n = true ↔
      (∃ m, m ≠ n ∧ d.swept.get m = true) ∨
      ∃ m ∈ s.members z, m ≠ n ∧ ((s.vane.get m).vane = .clearing ∨ (s.vane.get m).vane = .clear)) ∧
    (∀ y, y ≠ z → (s.serve z).zones.get y = s.zones.get y) ∧
    (∀ h, d.hold = some h → s.serve z = s) ∧
    (d.hold = none → ∀ k, d.reservation = some k →
      (∀ b, s.booking? k = some b → b.inWindow = true → s.closedTo z b.station = false →
        (s.serve z).zones.get z =
          some { d with hold := some ⟨b.station, .booked, false⟩, entry := .stopped,
                        dwell := .stopped, waiting := d.waiting.erase b.station }) ∧
      ((∀ b, s.booking? k = some b → b.inWindow = true → s.closedTo z b.station = true) →
        s.serve z = s)) ∧
    (d.hold = none → d.reservation = none →
      (d.waiting = [] → s.serve z = s) ∧
      ∀ h rest, d.waiting = h :: rest →
        (s.closedTo z h = true → s.serve z = s) ∧
        (s.closedTo z h = false →
          (s.serve z).zones.get z =
            some { d with hold := some ⟨h, .ordinary, false⟩,
                          entry := .running (s.station h).entryTimeout, dwell := .stopped,
                          waiting := rest }))

/-- Opening a booking (R63, R163): its zones already held by its station become BOOKED, the free ones not
closed to it are granted BOOKED, and at each other one it is placed at the head; the zones it then holds
are the zones passed, and it is ACTIVE when they are the whole list and BLOCKED otherwise. A head placement
puts the station first, once, with the others in their order behind it, and the last of four leaves (R44). -/
def Obligations.OpeningABookingTakesItsZones : Prop :=
  (∀ (waiting : List Station) (n : Station), waiting.Nodup →
    headPlace waiting n = placedFirst waiting n) ∧
  ∀ (s : State) (b : Booking) (remaining ends : Nat),
    (∃ c, s.booking? b.number = some c) → b.zones.Nodup →
    let t := s.openBooking b remaining ends
    let passed := b.zones.filter fun z => t.holds b.station z
    let w : Window := { ends, remaining, extension := none, passed, due := false }
    t.booking? b.number =
      some { b with state := if passed = b.zones then .active w else .blocked w } ∧
    (∀ z ∈ b.zones, ∀ d, s.zones.get z = some d →
      t.zones.get z = some
        (match d.hold with
         | some h =>
           if h.station = b.station then
             { d with hold := some { h with kind := .booked }, entry := .stopped, dwell := .stopped }
           else { d with waiting := headPlace d.waiting b.station }
         | none =>
           if s.closedTo z b.station then { d with waiting := headPlace d.waiting b.station }
           else { d with hold := some ⟨b.station, .booked, false⟩, entry := .stopped,
                         dwell := .stopped, waiting := d.waiting.erase b.station })) ∧
    ∀ z, z ∉ b.zones → t.zones.get z = s.zones.get z

/-- The end of a booking (R38, R64, R171 to R173): none of its zones stays reserved or held by its station
BOOKED, its station leaves their wait lists, its record is freed and its outcome written, unless it is a
REPEAT booking whose outcome re-arms the series. Then the first candidate is the least whole number of periods
on, at least one, whose lead begins after the present time; of the eight from it on, the first that ends
within the site time and conflicts with no other booking is the new start, PENDING, with the candidates
skipped as its skip run; and when there is none, the series ends CANCELLED(NO_SLOT). A zone it holds BOOKED
becomes ORDINARY, with the release dwell started where it is HELD and the station stands outside, also at the
end of a PENDING booking where another one of the station in window names the zone, which is the model's
choice (log entry 30). -/
def Obligations.EndOfABookingFreesOrRearmsIt : Prop :=
  ∀ (s : State) (b : Booking) (e : Ending), s.booking? b.number = some b →
    let t := s.endBooking b e
    (b.state ≠ .pending → ∀ z ∈ b.zones, ∀ d, t.zones.get z = some d → d.reservation = none) ∧
    (∀ z ∈ b.zones, ∀ h, t.holding z = some h → h.station = b.station → h.kind = .ordinary) ∧
    (∀ z ∈ b.zones, waitListKept s z = true → ∀ d, t.zones.get z = some d →
      b.station ∉ d.waiting) ∧
    (b.zones.Nodup → ∀ z ∈ b.zones, ∀ d h, s.zones.get z = some d → d.hold = some h →
      let converts := h.station = b.station ∧ h.kind = .booked
      let starts := converts ∧ h.seen = true ∧ (s.station b.station).releaseDwell ≠ 0 ∧
        s.inside z b.station = false
      t.zones.get z = some { d with
        hold := some (if converts then { h with kind := .ordinary } else h),
        dwell := if starts then .running (s.station b.station).releaseDwell else d.dwell,
        waiting := d.waiting.erase b.station,
        reservation := if b.state = .pending then d.reservation else none }) ∧
    ((∀ p l k, b.mode = .repeating p l k → e.rearms = false ∨ l = some 1) →
      t.booking? b.number = none ∧
      (t.ctx.get b.station).lastEnded = some ⟨b.number, e⟩) ∧
    ∀ p l k, 0 < p → b.mode = .repeating p l k → e.rearms = true → l ≠ some 1 →
      let candidate (j : Nat) : Booking := { b with state := .pending, start := b.start + p * j }
      let late (j : Nat) : Prop := s.clock.time < (candidate j).start - b.lead
      let free (j : Nat) : Prop :=
        ∀ o ∈ t.bookings, o.number ≠ b.number →
          (candidate j).conflictsWith o s.clock.time = false
      let fits (j : Nat) : Prop := (candidate j).intervalEnd ≤ maxTime ∧ free j
      (∃ first, 1 ≤ first ∧ late first) ∧
      ∀ first, 1 ≤ first → late first → (∀ i, 1 ≤ i → i < first → ¬ late i) →
        (∀ j, first ≤ j → j < first + 8 → fits j → (∀ i, first ≤ i → i < j → ¬ fits i) →
          t.booking? b.number =
            some { candidate j with mode := .repeating p (l.map (· - 1)) (j - first) } ∧
          (t.ctx.get b.station).lastEnded = some ⟨b.number, e⟩) ∧
        ((∀ j, first ≤ j → j < first + 8 → ¬ fits j) →
          t.booking? b.number = none ∧
          (t.ctx.get b.station).lastEnded = some ⟨b.number, .cancelledNoSlot⟩)

/-- The start of a wind cycle (R91, R94, R96): the open window counts it up to 8, and that a window closed early
by a RUN counts no more is the model's choice (log entry 38); an OFF line is
unpowered; with an empty command list a sync pulse is sent; otherwise the oldest command is sent, its word
after a start pattern of 24 consecutive pulses, and leaves the list, and the line, the echo wait and the
records take its effect (R98, R100, R103). A record that enters STARTING at RUN has its SENSOR_FAILED entry at
CLEAR (R112). That a RUN-TO sent for a record that is not in AWAITING_COMMAND leaves the record as it is, where
R103 speaks only of one that is, is the model's choice (log entry 28). -/
def Obligations.CycleStartSendsTheOldestCommand : Prop :=
  ∀ s : State,
    let t := s.startCycle
    t.line.windowCount =
      (if s.line.windowOpen then min 8 (s.line.windowCount + 1) else s.line.windowCount) ∧
    (s.line.state = .off → t.cycle = some { kind := .unpowered, age := 0 }) ∧
    (s.line.state ≠ .off → s.line.commands = [] →
      t.cycle = some { kind := .ordinary, age := 0 } ∧ t.sensors = s.sensors) ∧
    (s.line.state ≠ .off → ∀ c cs, s.line.commands = c :: cs →
      t.cycle = some { kind := .command 24 c.word, age := 0 } ∧ t.line.commands = cs ∧
      (∀ a, c = .assign a → t.line.echoWait = some (a, .running 4) ∧ t.sensors = s.sensors) ∧
      (c = .run → t.line.state = .running ∧ t.line.windowOpen = false ∧
        t.line.runWatch = some 0 ∧
        (∀ a, (s.sensors.get a).state = .assigned →
          (t.alarms.get (.sensorFailed a)).state = .clear) ∧
        ∀ a, t.sensors.get a =
          if (s.sensors.get a).state = .assigned then
            { s.sensors.get a with state := .starting .identity, attempts := 1,
                                   attemptCycles := 0, readyRun := 0, identity := [] }
          else s.sensors.get a) ∧
      (∀ a, c = .runTo a → t.sensors.get a =
        if (s.sensors.get a).state = .starting .awaitingCommand then
          { s.sensors.get a with state := .starting .identity,
                                 attempts := (s.sensors.get a).attempts + 1,
                                 attemptCycles := 0, readyRun := 0, identity := [] }
        else s.sensors.get a))

/-! ### The plan commands -/

/-- STAGE_STATION, STAGE_ZONE, STAGE_SITE and RESTAGE complete while no commit is pending: the staged
record, or the whole staged plan, is replaced, and nothing else changes but for the answer OK; what the
staging checks refuse is answered RANGE (R3, R5, R6, R7). The checks accept a station record and a zone record
exactly when R3 and R5 do, each field as the request carries it and the members in the order staged, and a
plan-wide record with its clearance timeout in range, its site derate clamped (R6). -/
def Obligations.StagingReplacesTheStagedRecord : Prop :=
  (∀ w, ((acceptStation w).isSome = true ↔ stationStaged w) ∧
    ∀ r, acceptStation w = some r → stationCarried w r) ∧
  (∀ w, ((acceptZone w).isSome = true ↔ zoneStaged w) ∧
    ∀ r, acceptZone w = some r → zoneCarried w r) ∧
  (∀ c d e, acceptSite c d e =
    if 10 ≤ c ∧ c ≤ 600 ∧ e ≤ 1 then
      some { clearanceTimeout := c, siteDerate := min d 1000, realign := decide (e = 1) }
    else none) ∧
  ∀ (s : State) (tag : Nat), s.plan.pendingCommit = .absent →
    let p := s.plan.staged
    let put (q : PlanImage) : State := s.setPlan { s.plan with staged := q }
    let ok (cmd : Nat) : Frame := .answerSL tag cmd .ok .empty
    (∀ number f n r, Station.ofNumber? number = some n → acceptStation f = some r →
      exec (.stageStation tag number f) s =
        .next (replied .supervisor (ok 0x01) (put { p with stations := p.stations.set n r }))) ∧
    (∀ number f z r, Zone.ofNumber? number = some z → acceptZone f = some r →
      exec (.stageZone tag number f) s =
        .next (replied .supervisor (ok 0x02) (put { p with zones := p.zones.set z r }))) ∧
    (∀ c d e r, acceptSite c d e = some r →
      exec (.stageSite tag c d e) s =
        .next (replied .supervisor (ok 0x03) (put { p with site := r }))) ∧
    exec (.restage tag) s = .next (replied .supervisor (ok 0x04) (put s.plan.live)) ∧
    (∀ number f, Station.ofNumber? number = none ∨ acceptStation f = none →
      exec (.stageStation tag number f) s =
        .next (replied .supervisor (.answerSL tag 0x01 .range .empty) s)) ∧
    (∀ number f, Zone.ofNumber? number = none ∨ acceptZone f = none →
      exec (.stageZone tag number f) s =
        .next (replied .supervisor (.answerSL tag 0x02 .range .empty) s)) ∧
    ∀ c d e, acceptSite c d e = none →
      exec (.stageSite tag c d e) s =
        .next (replied .supervisor (.answerSL tag 0x03 .range .empty) s)

/-- While a commit is pending the staged plan is frozen: staging, RESTAGE and COMMIT are refused BUSY and
change nothing (R3, R5, R6, R7, R8). That a STAGE_SITE with a field out of range is then answered BUSY and not
RANGE, where R6 gives no order, is the model's choice (log entry 36). A COMMIT of any mode that a later check
refuses names the failing record and leaves both images, the pending-commit record and everything else as they
were (R8, R9, R10). The cross-record check fails on an enabled station without an anemometer and on an enabled
zone with a member that is not enabled (R9; which of the two records it names is log entry 18's). The in-use
check fails on a station that would be disabled and is not OFFLINE, and on a changed live zone that is not
FREE and clear (R10). Both name the lowest-numbered record that fails, stations first (R8). -/
def Obligations.RefusedPlanCommandsChangeNothing : Prop :=
  (∀ s : State,
    let p := s.plan.staged
    let bare (n : Station) : Prop :=
      (p.stations.get n).enabled = true ∧ ∀ a, (p.stations.get n).anemometers.get a = false
    let stray (z : Zone) : Prop :=
      (p.zones.get z).enabled = true ∧
        ∃ m ∈ (p.zones.get z).members, (p.stations.get m.station).enabled = false
    let present (n : Station) : Prop :=
      (s.station n).enabled = true ∧ (p.stations.get n).enabled = false ∧
        (s.ctx.get n).link ≠ .offline
    let busy (z : Zone) : Prop :=
      p.zones.get z ≠ s.plan.live.zones.get z ∧ (s.zone z).enabled = true ∧
        ∃ d, s.zones.get z = some d ∧ ¬ (d.hold = none ∧ d.waiting = [] ∧
          d.reservation = none ∧ ∀ m, d.swept.get m = false)
    namesLowest s.crossCheck bare stray ∧ namesLowest s.inUseCheck present busy) ∧
  (∀ (s : State) (tag : Nat), s.plan.pendingCommit ≠ .absent →
     let busy (cmd : Nat) : State := replied .supervisor (.answerSL tag cmd .busy .empty) s
     (∀ number f, exec (.stageStation tag number f) s = .next (busy 0x01)) ∧
     (∀ number f, exec (.stageZone tag number f) s = .next (busy 0x02)) ∧
     (∀ c d e, exec (.stageSite tag c d e) s = .next (busy 0x03)) ∧
     exec (.restage tag) s = .next (busy 0x04) ∧
     ∀ mode target, exec (.commit tag mode target) s = .next (busy 0x05)) ∧
  ∀ (s : State) (tag mode target : Nat), s.plan.pendingCommit = .absent →
    mode < 2 ∨ (mode = 2 ∧ s.clock.timeSet = true ∧ s.clock.time < target ∧ target ≤ maxTime) →
    (∀ r, s.crossCheck = some r →
      exec (.commit tag mode target) s =
        .next (replied .supervisor (.answerSL tag 0x05 .invalid (.record r)) s)) ∧
    (∀ r, s.crossCheck = none → s.inUseCheck = some r →
      exec (.commit tag mode target) s =
        .next (replied .supervisor (.answerSL tag 0x05 .inUse (.record r)) s)) ∧
    ∀ late, late ≤ maxTime →
      (s.clock.timeSet = false →
        exec (.commit tag 2 late) s =
          .next (replied .supervisor (.answerSL tag 0x05 .timeUnset .empty) s)) ∧
      (late ≤ s.clock.time → s.clock.timeSet = true →
        exec (.commit tag 2 late) s =
          .next (replied .supervisor (.answerSL tag 0x05 .late .empty) s))

/-- COMMIT whose checks pass: NOW takes effect at once and is answered with the new revision; AT_MARK and
AT_TIME are recorded, answered with the present revision, and change nothing else (R8, R12). The booking table
of a commit that takes effect is in its form, which every step keeps (R154). -/
def Obligations.CommitTakesEffectOrWaits : Prop :=
  ∀ (s : State) (tag target : Nat), s.plan.pendingCommit = .absent →
    s.crossCheck = none → s.inUseCheck = none →
    let pend (p : PendingCommit) : State :=
      replied .supervisor (.answerSL tag 0x05 .ok (.revision s.plan.revision))
        (s.setPlan { s.plan with pendingCommit := p })
    (bookingTableKept s = true →
      ∃ t, exec (.commit tag 0 target) s = .next t ∧ committed s t ∧ answered .supervisor
        (.answerSL tag 0x05 .ok (.revision ((s.plan.revision + 1) % 65536))) s t) ∧
    exec (.commit tag 1 target) s = .next (pend .atMark) ∧
    (s.clock.timeSet = true → s.clock.time < target → target ≤ maxTime →
      exec (.commit tag 2 target) s = .next (pend (.atTime target false)))

/-- At its moment a pending AT_TIME commit takes effect when the in-use check passes; otherwise it is
abandoned, both images and the revision stay, and COMMIT_FAILED begins unless it was present (R11). The booking
table of a commit that takes effect is in its form, which every step keeps (R154). -/
def Obligations.AtTimeCommitTakesEffectOrIsAbandoned : Prop :=
  ∀ (s : State) (target : Nat), s.plan.pendingCommit = .atTime target true →
    (s.inUseCheck = none → bookingTableKept s = true →
      ∃ t, exec .atTimeCommitMoment s = .next t ∧ committed s t ∧ t.handling = s.handling ∧
        t.rx = s.rx) ∧
    (s.inUseCheck ≠ none →
      let u := s.setPlan { s.plan with pendingCommit := .absent, commitFailed := true }
      exec .atTimeCommitMoment s =
        .next (if s.plan.commitFailed then u else u.alarmBegins .commitFailed))

/-- CANCEL_COMMIT takes away a pending commit and nothing else: the staged plan is no longer frozen, and
the commit never reaches its moment, by the time or by a mark. Without a commit pending, so also after
the moment of the commit has been taken, it is refused NOT_PENDING (R14). -/
def Obligations.CancelCommitTakesThePendingCommitAway : Prop :=
  ∀ (s : State) (tag : Nat),
    let notPending (t : State) : State :=
      replied .supervisor (.answerSL tag 0x06 .notPending .empty) t
    (s.plan.pendingCommit ≠ .absent →
      let t := replied .supervisor (.answerSL tag 0x06 .ok .empty)
        (s.setPlan { s.plan with pendingCommit := .absent })
      exec (.cancelCommit tag) s = .next t ∧
        exec (.restage tag) t = .next (replied .supervisor (.answerSL tag 0x04 .ok .empty)
          (t.setPlan { t.plan with staged := t.plan.live })) ∧
        exec .atTimeCommitMoment t = .next t ∧
        ∀ sinceTick u, exec (.timeMark sinceTick) t = .next u → u.plan = t.plan) ∧
    (s.plan.pendingCommit = .absent → exec (.cancelCommit tag) s = .next (notPending s)) ∧
    (∀ target t, s.plan.pendingCommit = .atTime target true →
      exec .atTimeCommitMoment s = .next t →
      exec (.cancelCommit tag) t = .next (notPending t)) ∧
    ∀ sinceTick t, s.plan.pendingCommit = .atMark →
      exec (.timeMark sinceTick) s = .next t →
      exec (.cancelCommit tag) t = .next (notPending t)

/-- STORE in IDLE takes a snapshot and sets the marker, and in WRITING is refused BUSY (R16). When the
write ends, agreement clears the marker and ends STORE_FAILED; a difference leaves the marker set and
begins it, unless it was present (R17). -/
def Obligations.StoreIsWrittenAndReadBack : Prop :=
  ∀ (s : State) (tag : Nat),
    (s.plan.storeState = .idle →
      exec (.store tag) s =
        .next (replied .supervisor (.answerSL tag 0x07 .ok .empty)
          (s.setPlan { s.plan with
            store := { s.plan.store with marker := true },
            storeState := .writing s.plan.live s.plan.revision }))) ∧
    ∀ image revision, s.plan.storeState = .writing image revision →
      exec (.store tag) s = .next (replied .supervisor (.answerSL tag 0x07 .busy .empty) s) ∧
      ∀ found : StoreContent,
        (found.image = image → found.revision = revision →
          found.check = Config.storeCheck image revision →
          exec (.storeWriteEnd found) s =
            .next ((s.setPlan { s.plan with
              store := { content := found, marker := false },
              storeState := .idle, storeFailed := false }).alarmEnds .storeFailed)) ∧
        (¬ (found.image = image ∧ found.revision = revision ∧
            found.check = Config.storeCheck image revision) →
          let u := s.setPlan { s.plan with
            store := { content := found, marker := true },
            storeState := .idle, storeFailed := true }
          exec (.storeWriteEnd found) s =
            .next (if s.plan.storeFailed then u else u.alarmBegins .storeFailed))

/-! ### The queries -/

/-- The supervisor's queries complete and change nothing but for the answer, which carries the state as it
stands (R181 to R183). QUERY_BOOKINGS lists the bookings from the first number on that pass the filter, at most
5 of them, and the number of the next one left out, 0 when none is (R182); that the continuation is that number
is the model's choice (log entry 14), and so is that QUERY_STATION gives the gap speeds (log entry 32). Each is
refused without a change: RANGE for a number, filter, address, image or record class out of range, NO_ZONE for a
zone the live plan does not enable, which has no dynamic record. -/
def Obligations.SupervisorQueriesAnswerTheStateAsItStands : Prop :=
  ∀ (s : State) (tag : Nat),
    let answer (cmd : Nat) (d : Data) : State :=
      replied .supervisor (.answerSL tag cmd .ok d) s
    let refused (cmd : Nat) (code : Code) : State :=
      replied .supervisor (.answerSL tag cmd code .empty) s
    (∀ k, Station.ofNumber? k = none → exec (.queryStation tag k) s = .next (refused 0x30 .range)) ∧
    (∀ k, Zone.ofNumber? k = none → exec (.queryZone tag k) s = .next (refused 0x31 .range)) ∧
    (∀ k z, Zone.ofNumber? k = some z → s.zones.get z = none →
      exec (.queryZone tag k) s = .next (refused 0x31 .noZone)) ∧
    (∀ first filter, 6 < filter →
      exec (.queryBookings tag first filter) s = .next (refused 0x32 .range)) ∧
    (∀ k, Addr.ofNumber? k = none → exec (.querySensor tag k) s = .next (refused 0x33 .range)) ∧
    (∀ image cls k, 1 < image ∨ 2 < cls ∨ (cls = 0 ∧ Station.ofNumber? k = none) ∨
        (cls = 1 ∧ Zone.ofNumber? k = none) →
      exec (.readRecord tag image cls k) s = .next (refused 0x36 .range)) ∧
    (∀ k n, Station.ofNumber? k = some n → ∃ v,
      exec (.queryStation tag k) s = .next (answer 0x30 (.stationView v)) ∧
      stationViewed s n v) ∧
    (∀ k z d, Zone.ofNumber? k = some z → s.zones.get z = some d → ∃ v,
      exec (.queryZone tag k) s = .next (answer 0x31 (.zoneView v)) ∧
      zoneViewed s z d v) ∧
    (∀ first filter, filter ≤ 6 →
      let bs := s.bookings.filter fun b =>
        decide (first ≤ b.number) && (filter == 0 || b.station.number == filter)
      exec (.queryBookings tag first filter) s =
        .next (answer 0x32 (.bookingsView (bs.take 5) s.nextNumber s.bookings.length
          (((bs.drop 5).head?.map (·.number)).getD 0)))) ∧
    (∀ k a, Addr.ofNumber? k = some a →
      let r := s.sensors.get a
      exec (.querySensor tag k) s = .next (answer 0x33 (.sensorView
        { line := s.line, sensor := { r with history := r.history.take 12 },
          samples := r.history.length }))) ∧
    exec (.queryTime tag) s = .next (answer 0x34 (.timeView s.clock)) ∧
    (∃ stations zones,
      exec (.queryPlan tag) s = .next (answer 0x35 (.planView
        { revision := s.plan.revision, valid := !s.plan.invalid,
          pendingCommit := s.plan.pendingCommit,
          writing := !decide (s.plan.storeState = .idle), marker := s.plan.store.marker,
          commitFailed := s.plan.commitFailed, storeFailed := s.plan.storeFailed,
          stations := stations, zones := zones })) ∧
      (∀ n, n ∈ stations ↔ s.plan.staged.stations.get n ≠ s.plan.live.stations.get n) ∧
      ∀ z, z ∈ zones ↔ s.plan.staged.zones.get z ≠ s.plan.live.zones.get z) ∧
    (∀ image p, (image = 0 ∧ p = s.plan.live) ∨ (image = 1 ∧ p = s.plan.staged) →
      (∀ k n, Station.ofNumber? k = some n →
        exec (.readRecord tag image 0 k) s =
          .next (answer 0x36 (.stationRec (p.stations.get n)))) ∧
      (∀ k z, Zone.ofNumber? k = some z →
        exec (.readRecord tag image 1 k) s = .next (answer 0x36 (.zoneRec (p.zones.get z)))) ∧
      ∀ k, exec (.readRecord tag image 2 k) s = .next (answer 0x36 (.siteRec p.site))) ∧
    exec (.queryAlarms tag) s =
      .next (answer 0x37 (.alarmsView s.alarms s.attn (.of fun n => s.highest n)))

/-- The queries of an ONLINE crane complete and change nothing but for the answer: MY_ZONES lists its
enabled member zones from the first zone on, at most 16 of them, and MY_BOOKINGS its bookings from the
first number on, at most 6, with its last ended booking (R35, R36, R37). That the continuation field holds the
number of the first entry left out is the model's choice (log entry 14). MY_ZONES above zone 63 is refused
RANGE, and both queries of a station that is not ONLINE NOT_JOINED (R24), with nothing changed. -/
def Obligations.CraneQueriesChangeNothing : Prop :=
  (∀ (s : State) (n : Station) (first : Nat), (s.ctx.get n).link ≠ .online →
    exec (.myZones n first) s =
      .next (replied (.crane n) (.answer 0x09 .notJoined .empty) s) ∧
    exec (.myBookings n first) s =
      .next (replied (.crane n) (.answer 0x0A .notJoined .empty) s)) ∧
  ∀ (s : State) (n : Station) (first : Nat), (s.ctx.get n).link = .online →
    (63 < first →
      exec (.myZones n first) s = .next (replied (.crane n) (.answer 0x09 .range .empty) s)) ∧
    (first ≤ 63 →
      let zs := (s.memberZones n).filter fun z => decide (first ≤ z.val)
      ∃ entries, exec (.myZones n first) s =
          .next (replied (.crane n) (.answer 0x09 .ok
            (.myZones entries s.plan.revision ((zs.drop 16).head?.map (·.val)))) s) ∧
        entries.map (·.zone) = zs.take 16 ∧
        ∀ e ∈ entries, ∃ m, s.member e.zone n = some m ∧ e.lo = m.lo ∧ e.hi = m.hi ∧
          e.floor = m.floor ∧ ∀ k, k ∈ e.others ↔ k ∈ s.members e.zone ∧ k ≠ n) ∧
    let bs := s.bookings.filter fun b => b.station == n && decide (first ≤ b.number)
    exec (.myBookings n first) s =
        .next (replied (.crane n) (.answer 0x0A .ok
          (.myBookings (bs.take 6) (s.ctx.get n).lastEnded
            (((bs.drop 6).head?.map (·.number)).getD 0))) s)

/-! ### Joining, reports and loss -/

/-- HELLO: the refusals in their order, which change nothing; accepted, the station is JOINING with its
offline dwell started, its permit withdrawn and its v_wind 0, and the answer carries the state the join
started from (R25, R26, R82). No other station and no zone or booking changes. -/
def Obligations.HelloJoinsTheStation : Prop :=
  ∀ (s : State) (n : Station) (identity : Nat),
    let refused (code : Code) : State := replied (.crane n) (.answer 0x01 code .empty) s
    (s.plan.invalid = true → exec (.hello n identity) s = .next (refused .noPlan)) ∧
    (s.plan.invalid = false → (s.station n).enabled = false →
      exec (.hello n identity) s = .next (refused .disabled)) ∧
    (s.plan.invalid = false → (s.station n).enabled = true → identity ≠ (s.station n).identity →
      exec (.hello n identity) s = .next (refused .wrongCrane)) ∧
    (s.plan.invalid = false → (s.station n).enabled = true → identity = (s.station n).identity →
      ∃ t, exec (.hello n identity) s = .next t ∧
        t.ctx.get n =
          { s.ctx.get n with
            link := .joining, linkDwell := .running (s.station n).offlineDwell,
            reportTimer := .stopped, rise := none, profileHeld := false, mp := false } ∧
        (t.lim.get n).vWind = 0 ∧
        t.alarms.get (.linkStale n) =
          (if (s.ctx.get n).link = .stale then
            (s.alarms.get (.linkStale n)).ends .temporary else s.alarms.get (.linkStale n)) ∧
        answered (.crane n)
          (.answer 0x01 .ok (.joined n s.plan.revision (s.ctx.get n).link)) s t ∧
        (∀ m, m ≠ n → t.ctx.get m = s.ctx.get m ∧ t.lim.get m = s.lim.get m ∧
          t.vane.get m = s.vane.get m) ∧
        t = { s with ctx := t.ctx, lim := t.lim, vane := t.vane, alarms := t.alarms,
                     attn := t.attn, tx := t.tx, rx := t.rx, handling := none, held := [] })

/-- POSITION from an OFFLINE station is answered NOT_JOINED and changes nothing (R24). From another the
report's fields are taken, with the radius clamped and the profile selected by R28; the station is ONLINE with
its report timer restarted; the permit and the limits are as the handling has left the part; and the answer
carries all of it (R28, R29, R33). A load rise first opens the station's ARMED booking at NORMAL or CAUTION
and is passed over at HOLD or SHUTDOWN (R161); what is due of the booking timeline is taken before it (log
entry 1). Then the report is judged, inside a zone being R75's: by adoption when it completes a join (R58,
R61), entry (R54), intrusion, unless it completes a join or the station is VANING (R59), release dwell (R56)
and conflict (R60), and the recovery test (R68). -/
def Obligations.PositionReportIsTaken : Prop :=
  (∀ (r : StationRec) (present : Option ProfileIx) (i : ProfileIx),
    (∀ j, r.source = .fixed j → selectProfile r present i.val = (some j, false)) ∧
    (r.source = .crane →
      ((profileAt r i).inUse = true → selectProfile r present i.val = (some i, false)) ∧
      ((profileAt r i).inUse = false →
        (∀ j, present = some j → selectProfile r present i.val = (some j, true)) ∧
        ∀ j, present = none → (profileAt r j).inUse = true →
          (∀ k, k < j → (profileAt r k).inUse = false) →
          selectProfile r present i.val = (some j, true)))) ∧
  (∀ (s : State) (n : Station) (z : Zone), s.inside z n = true ↔
    ∃ m p, s.member z n = some m ∧ (s.ctx.get n).position = some p ∧
      obstacleClass m p = .inside) ∧
  (∀ (s : State) (n : Station) (angle : Angle) (radius profile : Nat) (loaded released : Bool),
    (s.ctx.get n).link = .offline →
    exec (.position n angle radius profile loaded released) s =
      .next (replied (.crane n) (.answer 0x02 .notJoined .empty) s)) ∧
  (∀ (s : State) (n : Station) (angle : Angle) (radius profile : Nat) (loaded released : Bool),
    (s.ctx.get n).link ≠ .offline →
    let r := s.station n
    let c := s.ctx.get n
    let p := selectProfile r c.profile profile
    ∃ t, exec (.position n angle radius profile loaded released) s = .next t ∧
      t.ctx.get n =
        { c with link := .online, rise := some loaded, profile := p.1, profileHeld := p.2,
                 position := some { angle, radius := min radius r.jibRadius, loaded, released },
                 reportTimer := .running r.reportTimeout, linkDwell := .stopped,
                 mp := t.permit n, lastEnded := (t.ctx.get n).lastEnded } ∧
      (t.vane.get n).lastReleased = released ∧
      t.recompute n = t ∧
      (∃ a, positionViewed t n a ∧
        answered (.crane n) (.answer 0x02 .ok (.position a)) (s.beforeReport n loaded) t) ∧
      ((released = true ↔ (s.vane.get n).vane = .vaning) →
        let taken := (s.beforeReport n loaded).setCtx n (t.ctx.get n)
        let risen := if c.rise = some false ∧ loaded = true then taken.loadRise n else taken
        let u := risen.judgeReport n (c.link == .joining)
        t.zones = u.zones ∧ t.arb = u.arb ∧ t.bookings = u.bookings) ∧
      (∀ m, m ≠ n → t.ctx.get m = { s.ctx.get m with mp := (t.ctx.get m).mp,
                                                     lastEnded := (t.ctx.get m).lastEnded }) ∧
      t = { s with ctx := t.ctx, arb := t.arb, zones := t.zones, lim := t.lim, vane := t.vane,
                   bookings := t.bookings, alarms := t.alarms, attn := t.attn, tx := t.tx,
                   rx := t.rx, handling := none, held := [] }) ∧
  (∀ (s : State) (n : Station),
    let t := s.judgeReport n false
    (∀ z, t.zones.get z = (s.zones.get z).map (judgedZone s n z)) ∧
    (t.arb.get n).intrusion =
      (if s.standsUnheld n = [] then (s.arb.get n).intrusion && !(s.arb.get n).recovery
       else (s.arb.get n).intrusion || (s.vane.get n).vane != .vaning) ∧
    (t.arb.get n).recovery = ((s.arb.get n).recovery && s.standsUnheld n != []) ∧
    ((s.arb.get n).intrusion = false → (t.arb.get n).intrusion = true →
      t.alarms.get (.intrusion n) = (s.alarms.get (.intrusion n)).begins) ∧
    ∀ m, m = n ∨ (∃ z ∈ s.memberZones n, s.holder z = some m) →
      ((t.arb.get m).conflict = true ↔
        ∃ z, s.holder z = some m ∧ ∃ k ∈ s.members z, k ≠ m ∧ s.inside z k = true)) ∧
  (∀ (s : State) (n : Station),
    let a := s.adopt n
    let t := s.judgeReport n true
    let stays := a.standsUnheld n ≠ [] ∨ (a.arb.get n).recovery = false
    (∀ z, t.zones.get z = (a.zones.get z).map (judgedZone a n z)) ∧
    t.bookings = a.bookings ∧
    ((t.arb.get n).intrusion = true ↔ (a.arb.get n).intrusion = true ∧ stays) ∧
    ((t.arb.get n).recovery = true ↔ (a.arb.get n).recovery = true ∧ stays)) ∧
  (∀ (s : State) (n : Station) (z : Zone) (d : ZoneDyn),
    z ∈ s.memberZones n → s.inside z n = true → s.holds n z = false → s.zones.get z = some d →
    let t := s.adopt n
    (s.openTo z n = true → ∃ kind,
      t.zones.get z = some { d with hold := some ⟨n, kind, true⟩, entry := .stopped,
                                    dwell := .stopped, waiting := d.waiting.erase n } ∧
      (kind = .booked ↔ ∃ b, s.reserving z = some b ∧ b.inWindow = true)) ∧
    (s.openTo z n = false →
      t.zones.get z = some d ∧ (t.arb.get n).intrusion = true)) ∧
  ∀ (s : State) (n : Station),
    (∀ b, (s.bookings.find? fun b => b.station == n && b.state == .armed) = some b →
      ((s.wind.get n).stage = .normal ∨ (s.wind.get n).stage = .caution →
        s.loadRise n = s.openBooking b b.duration (s.clock.time + b.duration)) ∧
      ((s.wind.get n).stage = .hold ∨ (s.wind.get n).stage = .shutdown → s.loadRise n = s)) ∧
    ((∀ b ∈ s.bookings, b.station = n → b.state ≠ .armed) → s.loadRise n = s)

/-- A RELEASED report in BRAKED or CLEARING, as the part stands when it is taken (log entry 1), is an unsafe
release: the station is VANING with unsafe vane latched, its permit and its lines withdrawn, UNSAFE_VANE ACTIVE,
and it stands in the swept set of every enabled zone of which it is a member (R140). -/
def Obligations.UnsafeReleaseClosesTheAirspace : Prop :=
  ∀ (s : State) (n : Station) (angle : Angle) (radius profile : Nat) (loaded : Bool),
    (s.ctx.get n).link ≠ .offline →
    let u := s.beforeReport n loaded
    (u.vane.get n).vane = .braked ∨ (u.vane.get n).vane = .clearing →
    ∃ t, exec (.position n angle radius profile loaded true) s = .next t ∧
      (t.vane.get n).vane = .vaning ∧ (t.vane.get n).unsafeLatched = true ∧
      (t.vane.get n).vc = false ∧ (t.vane.get n).timer = .stopped ∧
      (t.ctx.get n).mp = false ∧
      (t.lim.get n).cw = 0 ∧ (t.lim.get n).ccw = 0 ∧ (t.lim.get n).radius = 0 ∧
      (t.alarms.get (.unsafeVane n)).state = .active ∧
      ∀ z ∈ s.memberZones n, ∀ d, t.zones.get z = some d → d.swept.get n = true

/-- The swing follows the brake: a RELEASED report in CLEAR makes the station VANING and sweeps its
zones; an APPLIED report in VANING makes it CLEAR or CLEARING while the sequence is in force, BRAKED
otherwise, takes it out of every swept set and ends the UNSAFE_VANE condition (R137, R138, R141), as the part
stands when the report is taken (log entry 1). CLEARING comes with a fresh clearance timer. The sequence is in
force as R131 says, and the clear condition is that of R134. -/
def Obligations.SwingFollowsTheBrake : Prop :=
  (∀ (s : State) (n : Station),
    (s.inForce n = true ↔
      (s.station n).enabled = true ∧ (s.wind.get n).stage = .shutdown ∧
        ((s.station n).mode = .acting ∨ s.siteStop = true)) ∧
    (s.clearCondition n = true ↔
      (s.lim.get n).vWind = 0 ∧ ∀ z ∈ s.memberZones n, ∀ h, s.holder z = some h → h = n)) ∧
  ∀ (s : State) (n : Station) (angle : Angle) (radius profile : Nat) (loaded : Bool),
    (s.ctx.get n).link ≠ .offline →
    let u := s.beforeReport n loaded
    ((u.vane.get n).vane = .clear →
      ∃ t, exec (.position n angle radius profile loaded true) s = .next t ∧
        (t.vane.get n).vane = .vaning ∧
        ∀ z ∈ s.memberZones n, ∀ d, t.zones.get z = some d → d.swept.get n = true) ∧
    ((u.vane.get n).vane = .vaning →
      ∃ t, exec (.position n angle radius profile loaded false) s = .next t ∧
        (u.inForce n = true → u.clearCondition n = true →
          (t.vane.get n).vane = .clear ∧ (t.vane.get n).vc = true) ∧
        (u.inForce n = true → u.clearCondition n = false →
          (t.vane.get n).vane = .clearing ∧ (t.vane.get n).vc = false ∧
          (t.vane.get n).timer = .running s.plan.live.site.clearanceTimeout ∧
          (t.vane.get n).overdue = false) ∧
        (u.inForce n = false → (t.vane.get n).vane = .braked ∧ (t.vane.get n).vc = false) ∧
        t.alarms.get (.unsafeVane n) = (s.alarms.get (.unsafeVane n)).ends .latching ∧
        ((t.alarms.get (.unsafeVane n)).state = .clear →
          (t.vane.get n).unsafeLatched = false) ∧
        ∀ z d, t.zones.get z = some d → d.swept.get n = false)

/-- The report timer's expiry makes the station STALE with its link dwell started, its permit withdrawn and
LINK_STALE begun (R30; what is due is log entry 1's); the link dwell's expiry loses the station: OFFLINE,
v_wind 0, permit withdrawn, out of every wait list, with its zones kept (R32, R70). -/
def Obligations.SilentCraneGoesStaleAndIsLost : Prop :=
  ∀ (s : State) (n : Station), s.handling = none →
    ((s.ctx.get n).reportTimer = .due →
      ∃ t, exec (.reportTimerExpiry n) s = .next t ∧
        t.ctx.get n = { s.ctx.get n with
          link := .stale, reportTimer := .stopped,
          linkDwell := .running (s.station n).offlineDwell, mp := false } ∧
        t.alarms.get (.linkStale n) = (s.alarms.get (.linkStale n)).begins ∧
        (∀ m, m ≠ n → t.ctx.get m = s.ctx.get m ∧ t.lim.get m = s.lim.get m) ∧
        t = { s with ctx := t.ctx, lim := t.lim, alarms := t.alarms, attn := t.attn,
                     tx := t.tx }) ∧
    ((s.ctx.get n).linkDwell = .due → (∀ z, waitListKept s z = true) →
      ∃ t, exec (.linkDwellExpiry n) s = .next t ∧
        (t.ctx.get n) = { s.ctx.get n with
          link := .offline, reportTimer := .stopped, linkDwell := .stopped, mp := false } ∧
        (t.lim.get n).vWind = 0 ∧
        (∀ z d, t.zones.get z = some d → n ∉ d.waiting) ∧
        (∀ z h, s.holding z = some h → t.holding z = some h) ∧
        (∀ m, m ≠ n → (t.lim.get m).vWind = (s.lim.get m).vWind ∧
          t.ctx.get m = { s.ctx.get m with mp := (t.ctx.get m).mp }) ∧
        t = { s with ctx := t.ctx, arb := t.arb, zones := t.zones, lim := t.lim, vane := t.vane,
                     bookings := t.bookings, alarms := t.alarms, attn := t.attn, tx := t.tx })

/-! ### Zones -/

/-- HOLD of a FREE zone that passes every case before it is granted: the station is the holder, ORDINARY
and not yet seen inside, with the entry timer started; the answer GRANTED goes first and the GRANT notice
after it; no other zone changes (R48, R49). -/
def Obligations.HoldGrantsAFreeZone : Prop :=
  ∀ (s : State) (n : Station) (zone : Nat) (z : Zone) (d : ZoneDyn),
    (s.ctx.get n).link = .online → Zone.ofNumber? zone = some z → s.zones.get z = some d →
    s.isMember z n = true → (s.wind.get n).stage ≠ .shutdown →
    (s.arb.get n).intrusion = false → (s.vane.get n).unsafeLatched = false →
    d.hold = none → n ∉ d.waiting → s.closedTo z n = false → s.reservedAgainst z n = false →
    ∃ t, exec (.hold n zone) s = .next t ∧
      t.zones = s.zones.set z (some { d with
        hold := some ⟨n, .ordinary, false⟩, entry := .running (s.station n).entryTimeout,
        dwell := .stopped }) ∧
      t.tx.get (.crane n) =
        ((s.tx.get (.crane n)).push (.answer 0x03 .granted .empty)).push
          (.notice (.grant z .ordinary)) ∧
      answered (.crane n) (.answer 0x03 .granted .empty) s t ∧
      holderWork { s with zones := t.zones } t

/-- The other cases of HOLD, each answered without a change of the zone but for the place in its wait list
(R24, R48): the tail of the list of a held zone, the place already taken, a zone already held, and the
refusals in their order. -/
def Obligations.HoldQueuesOrRefuses : Prop :=
  ∀ (s : State) (n : Station) (zone : Nat),
    let say (code : Code) (x : Data) (t : State) : State :=
      replied (.crane n) (.answer 0x03 code x) t
    ((s.ctx.get n).link ≠ .online → exec (.hold n zone) s = .next (say .notJoined .empty s)) ∧
    ((s.ctx.get n).link = .online →
      (s.zone? zone = none → exec (.hold n zone) s = .next (say .noZone .empty s)) ∧
      ∀ z d, Zone.ofNumber? zone = some z → s.zones.get z = some d →
        (s.isMember z n = false → exec (.hold n zone) s = .next (say .notMember (.zone z) s)) ∧
        (s.isMember z n = true →
          ((s.wind.get n).stage = .shutdown →
            exec (.hold n zone) s = .next (say .wind .empty s)) ∧
          ((s.wind.get n).stage ≠ .shutdown →
            ((s.arb.get n).intrusion = true ∨ (s.vane.get n).unsafeLatched = true →
              exec (.hold n zone) s = .next (say .latched .empty s)) ∧
            ((s.arb.get n).intrusion = false → (s.vane.get n).unsafeLatched = false →
              (∀ h, d.hold = some h → h.station = n →
                exec (.hold n zone) s = .next (say .held (.holdState h.seen) s)) ∧
              ((∀ h, d.hold = some h → h.station ≠ n) →
                (∀ i, d.waiting.idxOf? n = some i →
                  exec (.hold n zone) s = .next (say .queued (.place (i + 1)) s)) ∧
                (n ∉ d.waiting →
                  (s.closedTo z n = true →
                    exec (.hold n zone) s = .next (say .swept .empty s)) ∧
                  (s.closedTo z n = false →
                    (∀ b, s.reserving z = some b → b.station ≠ n →
                      exec (.hold n zone) s =
                        .next (say .reserved (.reservedUntil b.number b.liftsAt) s)) ∧
                    (s.reservedAgainst z n = false → d.hold ≠ none →
                      exec (.hold n zone) s =
                        .next (say .queued (.place (d.waiting.length + 1))
                          (s.setZone z (some { d with waiting := d.waiting ++ [n] })))))))))))

/-- The refusals of RELEASE and WITHDRAW, each the first that applies and without a change: NOT_JOINED unless
the station is ONLINE (R24); NO_ZONE, NOT_HOLDER, INSIDE and BOOKED of RELEASE (R51); NO_ZONE and NOT_QUEUED
of WITHDRAW (R50). RELEASE by the holder from outside the zone and outside its bookings: the zone is freed and
served, and answered OK (R51, R52). WITHDRAW of a waiting station: it leaves the list, and a zone without a
holder is served (R50). So are the other zones without a holder of the station (R53). Nothing else changes but
what follows a change of holders. -/
def Obligations.ReleaseAndWithdrawServeTheZone : Prop :=
  (∀ (s : State) (n : Station) (zone : Nat),
    let release (code : Code) : Prop :=
      exec (.release n zone) s = .next (replied (.crane n) (.answer 0x04 code .empty) s)
    let withdraw (code : Code) : Prop :=
      exec (.withdraw n zone) s = .next (replied (.crane n) (.answer 0x05 code .empty) s)
    ((s.ctx.get n).link ≠ .online → release .notJoined ∧ withdraw .notJoined) ∧
    ((s.ctx.get n).link = .online →
      ((∀ z, Zone.ofNumber? zone = some z → s.zones.get z = none) →
        release .noZone ∧ withdraw .noZone) ∧
      ∀ z d, Zone.ofNumber? zone = some z → s.zones.get z = some d →
        (s.holder z ≠ some n → release .notHolder) ∧
        (s.holder z = some n → s.inside z n = true → release .inside) ∧
        (s.holder z = some n → s.inside z n = false → namedInWindow s n z → release .booked) ∧
        (n ∉ d.waiting → withdraw .notQueued))) ∧
  ∀ (s : State) (n : Station) (zone : Nat) (z : Zone) (d : ZoneDyn),
    (s.ctx.get n).link = .online → Zone.ofNumber? zone = some z → s.zones.get z = some d →
    (s.holder z = some n → s.inside z n = false → ¬ namedInWindow s n z →
      ∃ t, exec (.release n zone) s = .next t ∧
        t.zones = (((s.setZone z (some { d with
          hold := none, entry := .stopped, dwell := .stopped })).serveAt z n).zones) ∧
        answered (.crane n) (.answer 0x04 .ok .empty) s t ∧ zoneWork s t) ∧
    (n ∈ d.waiting →
      ∃ t, exec (.withdraw n zone) s = .next t ∧
        t.zones =
          ((s.setZone z (some { d with waiting := d.waiting.erase n })).serveAt z n).zones ∧
        answered (.crane n) (.answer 0x05 .ok .empty) s t ∧ zoneWork s t)

/-- The refusals of FORCE_RELEASE, each the first that applies and without a change: NO_ZONE, NOT_HELD and
BOOKED (R66). FORCE_RELEASE of a held zone outside its holder's bookings: the holder is removed and, unless it
is OFFLINE, told REVOKE with reason FORCED; the zone is served; and the answer names the holder (R66). -/
def Obligations.ForceReleaseTakesTheZone : Prop :=
  (∀ (s : State) (tag zone : Nat),
    let refused (code : Code) : Prop :=
      exec (.forceRelease tag zone) s =
        .next (replied .supervisor (.answerSL tag 0x10 code .empty) s)
    ((∀ z, Zone.ofNumber? zone = some z → s.zones.get z = none) → refused .noZone) ∧
    ∀ z d, Zone.ofNumber? zone = some z → s.zones.get z = some d →
      (d.hold = none → refused .notHeld) ∧
      ∀ h, d.hold = some h → namedInWindow s h.station z → refused .booked) ∧
  ∀ (s : State) (tag zone : Nat) (z : Zone) (d : ZoneDyn) (h : Holding),
    Zone.ofNumber? zone = some z → s.zones.get z = some d → d.hold = some h →
    ¬ namedInWindow s h.station z →
    ∃ t, exec (.forceRelease tag zone) s = .next t ∧
      t.zones = (((s.setZone z (some { d with
        hold := none, entry := .stopped, dwell := .stopped })).serveAt z h.station).zones) ∧
      ((s.ctx.get h.station).link ≠ .offline →
        ∃ more, t.tx.get (.crane h.station) =
          (.notice (.revoke z .forced) :: more).foldl Tx.push (s.tx.get (.crane h.station))) ∧
      answered .supervisor (.answerSL tag 0x10 .ok (.station h.station)) s t ∧ zoneWork s t

/-- RECOVER of a station with intrusion latched: recovery is requested, and the answer is PARTIAL with the
zones it still stands in without holding them; when there is none, the answer is OK, the latch and the
request clear, and the INTRUSION entry is CLEAR (R67, R68). A zone open to it becomes its own, seen inside; for
another it is placed first in the wait list, once, with the others in their order behind it and the last of four
leaving (R44). A number that is no station's is refused RANGE, a station without intrusion latched NOT_LATCHED,
and nothing changes. -/
def Obligations.RecoverGivesBackOrPlacesFirst : Prop :=
  (∀ (s : State) (tag k : Nat),
    let refused (code : Code) : Prop :=
      exec (.recover tag k) s = .next (replied .supervisor (.answerSL tag 0x11 code .empty) s)
    (Station.ofNumber? k = none → refused .range) ∧
    ∀ n, Station.ofNumber? k = some n → (s.arb.get n).intrusion = false → refused .notLatched) ∧
  ∀ (s : State) (tag k : Nat) (n : Station),
    Station.ofNumber? k = some n → (s.arb.get n).intrusion = true →
    (s.alarms.get (.intrusion n)).state = .active →
    ∃ t, exec (.recover tag k) s = .next t ∧
      (t.standsUnheld n = [] →
        (t.arb.get n).intrusion = false ∧ (t.arb.get n).recovery = false ∧
        (t.alarms.get (.intrusion n)).state = .clear ∧
        answered .supervisor (.answerSL tag 0x11 .ok .empty) s t) ∧
      (t.standsUnheld n ≠ [] →
        (t.arb.get n).intrusion = true ∧ (t.arb.get n).recovery = true ∧
        answered .supervisor
          (.answerSL tag 0x11 .partialRecovery (.zoneSet (t.standsUnheld n))) s t) ∧
      (∀ z ∈ s.standsUnheld n, s.openTo z n = true →
        ∃ h, t.holding z = some h ∧ h.station = n ∧ h.seen = true) ∧
      (∀ z ∈ s.standsUnheld n, s.openTo z n = false →
        ∀ d, s.zones.get z = some d →
          t.zones.get z = some { d with waiting := headPlace d.waiting n } ∧
          (d.waiting.Nodup → headPlace d.waiting n = placedFirst d.waiting n)) ∧
      zoneWork s t

/-- The entry timer's expiry revokes the grant: the holder is removed and told REVOKE with reason
ENTRY_TIMEOUT, unless it is OFFLINE, and the zone is served (R55). The release dwell's expiry releases
the zone on the holder's behalf and serves it (R57; what is due is log entry 1's). -/
def Obligations.ZoneTimersTakeTheZoneBack : Prop :=
  ∀ (s : State) (z : Zone) (d : ZoneDyn) (h : Holding), s.handling = none →
    s.zones.get z = some d → d.hold = some h →
    let freed := s.setZone z (some { d with hold := none, entry := .stopped, dwell := .stopped })
    (d.entry = .due →
      ∃ t, exec (.entryTimerExpiry z) s = .next t ∧ t.zones = (freed.serveAt z h.station).zones ∧
        ((s.ctx.get h.station).link ≠ .offline →
          ∃ more, t.tx.get (.crane h.station) =
            (.notice (.revoke z .entryTimeout) :: more).foldl Tx.push
              (s.tx.get (.crane h.station))) ∧
        t.rx = s.rx ∧ t.handling = none ∧ t.held = s.held ∧ zoneWork s t) ∧
    (d.dwell = .due →
      ∃ t, exec (.releaseDwellExpiry z) s = .next t ∧ t.zones = (freed.serveAt z h.station).zones ∧
        t.rx = s.rx ∧ t.handling = none ∧ t.held = s.held ∧ zoneWork s t)

/-! ### Bookings -/

/-- The refusals of BOOK in the order of R156, each with nothing changed: NOT_JOINED for a crane that is not
ONLINE (R24), TIME_UNSET, RANGE, for the supervisor of its station number and its locked flag too, DISABLED
for the supervisor, NO_ZONE, NOT_MEMBER with the first such zone, FULL, LATE, LOAD_START, and OVERLAP with the
lowest number. BOOK that passes its checks is admitted under the next free number: PENDING before its lead,
LEAD with its zones reserved when its lead begins now, and started when it starts now, as ARMED, DEFERRED or
open; the answer carries the number, the state and the present holders (R156, R157, R160, R161), when nothing
of the booking timeline is left due (log entry 1). Its fields are accepted exactly when they are in range
(R156), and two bookings conflict when their spans intersect and they share a zone or the station (R155). -/
def Obligations.BookIsAdmitted : Prop :=
  (∀ f, ((acceptBook f).isSome = true ↔ bookInRange f) ∧
    ∀ r, acceptBook f = some r →
      r.zones.map (·.val) = [f.zone1, f.zone2, f.zone3, f.zone4].take f.count ∧
      r.start = f.start ∧ r.duration = f.duration ∧ r.lead = f.lead ∧ r.mode = bookMode f) ∧
  (∀ (b c : Booking) (now : Nat), b.conflictsWith c now = true ↔
    b.start - b.lead < spanEndIs c now ∧ c.start - c.lead < spanEndIs b now ∧
      (b.station = c.station ∨ ∃ z ∈ b.zones, z ∈ c.zones)) ∧
  (∀ (s : State) (n : Station) (f : WireBook),
    let refused (code : Code) (x : Data) : Prop :=
      exec (.book n f) s = .next (replied (.crane n) (.answer 0x06 code x) s)
    ((s.ctx.get n).link ≠ .online → refused .notJoined .empty) ∧
    (nothingDue s = true → bookingTableKept s = true → (s.ctx.get n).link = .online →
      (s.clock.timeSet = false → refused .timeUnset .empty) ∧
      (s.clock.timeSet = true →
        (acceptBook f = none → refused .range .empty) ∧
        ∀ r, acceptBook f = some r → bookChecked s n false r refused))) ∧
  (∀ (s : State) (tag k locked : Nat) (f : WireBook),
    let refused (code : Code) (x : Data) : Prop :=
      exec (.supervisorBook tag k locked f) s =
        .next (replied .supervisor (.answerSL tag 0x28 code x) s)
    nothingDue s = true → bookingTableKept s = true →
      (s.clock.timeSet = false → refused .timeUnset .empty) ∧
      (s.clock.timeSet = true →
        (Station.ofNumber? k = none ∨ 1 < locked ∨ acceptBook f = none → refused .range .empty) ∧
        ∀ n r, Station.ofNumber? k = some n → locked ≤ 1 → acceptBook f = some r →
          bookChecked s n true r refused)) ∧
  ∀ (s : State) (n : Station) (f : WireBook) (r : BookRequest),
    nothingDue s = true → s.clock.timeSet = true → acceptBook f = some r →
    ((s.ctx.get n).link = .online → bookable s n false r →
      admission s n (.crane n) (.answer 0x06 .ok ·) (s.bookingFor n false r)
        (exec (.book n f) s)) ∧
    ∀ (tag k : Nat) (locked : Bool), Station.ofNumber? k = some n → bookable s n true r →
      admission s n .supervisor (.answerSL tag 0x28 .ok ·) (s.bookingFor n locked r)
        (exec (.supervisorBook tag k (if locked then 1 else 0) f) s)

/-- CANCEL by the booking's own crane while it is not locked, or by the supervisor: the booking ends
CANCELLED(REQUEST) from any state, a series whole; its record is freed, its zones are no longer reserved,
its outcome is written, and the answer carries the state it was in (R38, R64, R169, R171), when nothing
of the booking timeline is left due (log entry 1). -/
def Obligations.CancelEndsTheBooking : Prop :=
  ∀ (s : State) (number : Nat) (b : Booking),
    nothingDue s = true → number ≠ 0 → s.booking? number = some b →
    let ended (l : Link) (f : Frame) (t : State) : Prop :=
      t.booking? number = none ∧
      (t.ctx.get b.station).lastEnded = some ⟨number, .cancelledRequest⟩ ∧
      (b.state ≠ .pending → ∀ z ∈ b.zones, ∀ d, t.zones.get z = some d → d.reservation = none) ∧
      answered l f s t ∧ zoneWork s t
    ((s.ctx.get b.station).link = .online → b.locked = false →
      ∃ t, exec (.cancel b.station number) s = .next t ∧
        ended (.crane b.station) (.answer 0x07 .ok (.bookingWas b.state)) t) ∧
    ∀ tag, ∃ t, exec (.supervisorCancel tag number) s = .next t ∧
      ended .supervisor (.answerSL tag 0x29 .ok (.bookingWas b.state)) t

/-- EXTEND of a booking in its window, by its own crane while it is not locked or by the supervisor, whose
projected end overlaps no other booking: only the pending extension changes (R166), when nothing of
the booking timeline is left due (log entry 1). That a projected end above the greatest site time is no ground
for a refusal is the model's choice (log entry 33). -/
def Obligations.ExtendSetsThePendingAmount : Prop :=
  ∀ (s : State) (number : Nat) (amount : Int) (b : Booking) (w : Window),
    nothingDue s = true → number ≠ 0 → -3600 ≤ amount → amount ≤ 3600 →
    s.booking? number = some b → b.state = .blocked w ∨ b.state = .active w →
    let pendingAmount := max (-3600) (min 3600 (w.extension.getD 0 + amount))
    let projected :=
      s.clock.time + 1 + (max 1 (min 65535 ((w.remaining : Int) + pendingAmount))).toNat
    (∀ c ∈ s.bookings, c.number ≠ number → b.sharesWith c = true → projected ≤ c.spanBegin) →
    let v : Window := { w with extension := some pendingAmount }
    let t := s.putBooking
      { b with state := if b.state = .active w then .active v else .blocked v }
    let data : Data := .extended pendingAmount projected w.passed
      (b.zones.filter fun z => !w.passed.contains z)
    ((s.ctx.get b.station).link = .online → b.locked = false →
      exec (.extend b.station number amount) s =
        .next (replied (.crane b.station) (.answer 0x08 .ok data) t)) ∧
    ∀ tag, exec (.supervisorExtend tag number amount) s =
      .next (replied .supervisor (.answerSL tag 0x2A .ok data) t)

/-- The refusals of CANCEL and EXTEND, of a crane and of the supervisor, each the first that applies and with
nothing changed (R166, R169): NOT_JOINED for a crane that is not ONLINE (R24); RANGE for the number 0 and for
an amount out of range; for a number not in the table LATE when it is the last ended booking of the crane's
station, or of any for the supervisor, and NO_BOOKING otherwise; for a crane NOT_OWNER of another station's
booking and LOCKED of its own locked one; and for EXTEND NOT_IN_WINDOW, and OVERLAP with the lowest number.
LOCK and UNLOCK of a booking in the table set its locked flag, in any state of the booking, and change nothing
else; another number is answered NO_BOOKING (R170). Nothing of the booking timeline is left due (log entry 1).
-/
def Obligations.LockedAndForeignBookingsAreRefused : Prop :=
  (∀ (s : State) (n : Station) (tag number : Nat) (amount : Int),
    let cancel (code : Code) : Prop :=
      exec (.cancel n number) s = .next (replied (.crane n) (.answer 0x07 code .empty) s)
    let extend (code : Code) (x : Data) : Prop :=
      exec (.extend n number amount) s = .next (replied (.crane n) (.answer 0x08 code x) s)
    let cancelSL (code : Code) : Prop :=
      exec (.supervisorCancel tag number) s =
        .next (replied .supervisor (.answerSL tag 0x29 code .empty) s)
    let extendSL (code : Code) (x : Data) : Prop :=
      exec (.supervisorExtend tag number amount) s =
        .next (replied .supervisor (.answerSL tag 0x2A code x) s)
    let inRange : Prop := number ≠ 0 ∧ -3600 ≤ amount ∧ amount ≤ 3600
    ((s.ctx.get n).link ≠ .online → cancel .notJoined ∧ extend .notJoined .empty) ∧
    (nothingDue s = true → bookingTableKept s = true →
      (number = 0 → cancelSL .range) ∧ (¬ inRange → extendSL .range .empty) ∧
      (s.booking? number = none →
        (number ≠ 0 → notInTable s number (fun _ => True) cancelSL) ∧
        (inRange → notInTable s number (fun _ => True) (extendSL · .empty))) ∧
      ((s.ctx.get n).link = .online →
        (number = 0 → cancel .range) ∧ (¬ inRange → extend .range .empty) ∧
        (s.booking? number = none →
          (number ≠ 0 → notInTable s number (· = n) cancel) ∧
          (inRange → notInTable s number (· = n) (extend · .empty)))) ∧
      ∀ b, s.booking? number = some b →
        let mine : Prop := (s.ctx.get n).link = .online ∧ b.station = n ∧ b.locked = false
        ((s.ctx.get n).link = .online →
          (b.station ≠ n →
            (number ≠ 0 → cancel .notOwner) ∧ (inRange → extend .notOwner .empty)) ∧
          (b.station = n → b.locked = true →
            (number ≠ 0 → cancel .locked) ∧ (inRange → extend .locked .empty))) ∧
        (inRange → b.window? = none →
          (mine → extend .notInWindow .empty) ∧ extendSL .notInWindow .empty) ∧
        (inRange → ∀ w, b.window? = some w →
          let pendingAmount := max (-3600) (min 3600 (w.extension.getD 0 + amount))
          let projected :=
            s.clock.time + 1 + (max 1 (min 65535 ((w.remaining : Int) + pendingAmount))).toNat
          let overlaps (c : Booking) : Prop :=
            c.number ≠ number ∧ b.sharesWith c = true ∧ c.start - c.lead < projected
          ∀ c ∈ s.bookings, overlaps c → (∀ d ∈ s.bookings, overlaps d → c.number ≤ d.number) →
            (mine → extend .overlap (.booking c.number)) ∧
            extendSL .overlap (.booking c.number)))) ∧
  ∀ (s : State) (tag number : Nat), nothingDue s = true →
    (∀ b, s.booking? number = some b →
      exec (.lock tag number) s =
        .next (replied .supervisor (.answerSL tag 0x2B .ok .empty)
          (s.putBooking { b with locked := true })) ∧
      exec (.unlock tag number) s =
        .next (replied .supervisor (.answerSL tag 0x2C .ok .empty)
          (s.putBooking { b with locked := false }))) ∧
    (s.booking? number = none →
      exec (.lock tag number) s =
        .next (replied .supervisor (.answerSL tag 0x2B .noBooking .empty) s) ∧
      exec (.unlock tag number) s =
        .next (replied .supervisor (.answerSL tag 0x2C .noBooking .empty) s))

/-- The steps of a second boundary that put a booking forward, when no earlier step of R158 is due: a
PENDING booking enters LEAD with its zones reserved (R159); a LEAD booking starts: ON_LOAD as ARMED,
another DEFERRED at HOLD or SHUTDOWN, and opening at NORMAL or CAUTION (R160, R161). -/
def Obligations.BookingLeadsAndStarts : Prop :=
  ∀ (s : State) (number : Nat) (b : Booking), s.booking? number = some b →
    (∀ c ∈ s.bookings, c.endDue s.clock.time = none) →
    (leadDue s b = true → (∀ c ∈ s.bookings, c.number < number → leadDue s c = false) →
      exec (.bookingLead number) s =
        .next ((s.putBooking { b with state := .lead }).reserve number b.zones)) ∧
    (startDue s b = true → (∀ c ∈ s.bookings, leadDue s c = false) →
      (∀ c ∈ s.bookings, c.number < number → startDue s c = false) →
      (∀ w, b.mode = .onLoad w →
        exec (.bookingStart number) s = .next (s.putBooking { b with state := .armed })) ∧
      ((∀ w, b.mode ≠ .onLoad w) →
        ((s.wind.get b.station).stage = .hold ∨ (s.wind.get b.station).stage = .shutdown →
          exec (.bookingStart number) s =
            .next (s.putBooking { b with state := .deferred (b.start + b.duration) })) ∧
        ((s.wind.get b.station).stage = .normal ∨ (s.wind.get b.station).stage = .caution →
          exec (.bookingStart number) s =
            .next (s.openBooking b b.duration (b.start + b.duration)))))

/-- The steps of a second boundary that end a booking, when no earlier step of R158 is due: a window that
has run out ends DONE from ACTIVE and LAPSED(BLOCKED) from BLOCKED (R165); an ARMED booking whose accept
window has run out ends LAPSED(NO_LOAD) (R161), and a DEFERRED one at its window end LAPSED(DEFERRED)
(R162). No end is due in any other state or before its time. -/
def Obligations.BookingWindowsRunOut : Prop :=
  (∀ (b : Booking) (now : Nat), b.endDue now = none ↔
    (∀ w, b.state = .active w ∨ b.state = .blocked w → w.due = false) ∧
    (b.state = .armed → now ≤ b.start + acceptOf b.mode) ∧
    ∀ e, b.state = .deferred e → now < e) ∧
  ∀ (s : State) (number : Nat) (b : Booking), s.booking? number = some b →
    (∀ c ∈ s.bookings, c.number < number → c.endDue s.clock.time = none) →
    (∀ w, w.due = true → b.state = .active w →
      exec (.bookingRemainingExpiry number) s = .next (s.endBooking b .done)) ∧
    (∀ w, w.due = true → b.state = .blocked w →
      exec (.bookingRemainingExpiry number) s = .next (s.endBooking b .lapsedBlocked)) ∧
    ((∀ c ∈ s.bookings, c.inWindow = true → c.endDue s.clock.time = none) →
      (b.state = .armed → b.start + acceptOf b.mode < s.clock.time →
        exec (.acceptWindowExpiry number) s = .next (s.endBooking b .lapsedNoLoad)) ∧
      ∀ ends, b.state = .deferred ends → ends ≤ s.clock.time →
        exec (.deferredWindowExpiry number) s = .next (s.endBooking b .lapsedDeferred))

/-! ### The clock -/

/-- A tick with nothing left due (log entry 1): the phase goes on by one; at phase 0 a second boundary
advances the site time and counts the zones, the windows (R165), the link dwells and the clearance timers
(R135), makes a fall due whose drop dwell has run (R120), and brings an AT_TIME commit whose target is reached
to its moment (R11); every enabled station ONLINE or STALE takes one ramp step, by which a CLEARING one may
become CLEAR (R134), and has its limits computed (R73); the report timers count; and the wind cycle goes on
(R30, R55, R81, R147). That the ramp steps and the release dwells count before what falls due at that tick is
taken is the model's choice (log entry 26). -/
def Obligations.TickCountsAndRamps : Prop :=
  (Timer.count .stopped = .stopped ∧ Timer.count .due = .due ∧
    ∀ k, Timer.count (.running k) = if k ≤ 1 then .due else .running (k - 1)) ∧
  ∀ s : State, s.takeDue = s →
    let phase := (s.clock.phase + 1) % 20
    let time := if phase = 0 then (if s.clock.time < maxTime then s.clock.time + 1
      else s.clock.time) else s.clock.time
    ∃ t, exec .tick s = .next t ∧
      t.clock = { s.clock with phase := phase, time := time } ∧ t.tickInterval = 50000 ∧
      (∀ n, t.ctx.get n = { s.ctx.get n with
        reportTimer := (s.ctx.get n).reportTimer.count,
        linkDwell := if phase = 0 then (s.ctx.get n).linkDwell.count else (s.ctx.get n).linkDwell,
        mp := (t.ctx.get n).mp }) ∧
      (∀ n, (t.lim.get n).vWind =
        if ((s.ctx.get n).link = .online ∨ (s.ctx.get n).link = .stale) ∧
            (s.station n).enabled = true then
          rampStep (s.station n) (s.lim.get n).vWind (s.target n)
        else (s.lim.get n).vWind) ∧
      (∀ n, (s.ctx.get n).link = .online ∨ (s.ctx.get n).link = .stale →
        (s.station n).enabled = true → t.recompute n = t) ∧
      (∀ n,
        let v := s.vane.get n
        let timer := if phase = 0 then v.timer.count else v.timer
        t.vane.get n =
          if v.vane = .clearing ∧ (s.lim.get n).vWind ≠ 0 ∧ (t.lim.get n).vWind = 0 ∧
              s.zonesClearFor n = true then
            { v with vane := .clear, timer := .stopped, vc := true, overdue := false }
          else { v with timer }) ∧
      (∀ n, t.wind.get n = { s.wind.get n with
        dropDue := (s.wind.get n).dropDue || (decide (phase = 0) && (s.station n).enabled &&
          (s.wind.get n).dropStart.any fun start =>
            decide ((s.station n).dropDwell ≤ time - start)) }) ∧
      (phase ≠ 0 → t.zones = s.zones ∧ t.bookings = s.bookings ∧ t.plan = s.plan) ∧
      (phase = 0 →
        (∀ z, t.zones.get z = (s.zones.get z).map fun d =>
          { d with entry := d.entry.count,
                   dwell := if d.hold.any fun h => (s.ctx.get h.station).link == .online
                     then d.dwell.count else d.dwell }) ∧
        t.bookings = (s.bookings.map fun b => { b with state :=
          match b.state with
          | .blocked w => .blocked (countedWindow time w)
          | .active w => .active (countedWindow time w)
          | state => state }) ∧
        t.plan = { s.plan with pendingCommit :=
          match s.plan.pendingCommit with
          | .atTime target due => .atTime target (due || decide (target ≤ time))
          | pending => pending }) ∧
      (phase % 5 ≠ 0 → t.line = s.line ∧ t.sensors = s.sensors ∧
        t.cycle = s.cycle.map fun c => { c with age := c.age + 1 }) ∧
      (phase % 5 = 0 → s.cycle = none → ∃ c, t.cycle = some c ∧ c.age = 0) ∧
      t.siteStop = s.siteStop ∧ t.siteDerate = s.siteDerate ∧ t.nextNumber = s.nextNumber ∧
      t.rx = s.rx

/-- A time mark is judged by the phase of the nearest tick, the earlier one at the midpoint of the interval in
force. In step, the slip ends, and with realign in force the clock is brought to phase 0: the tick is taken at
the mark, with its boundary, or the interval restarts from the mark when that tick has been taken. Slipped,
the slip begins with its phase and time recorded, and with realign in force the clock re-phases, with a
boundary for phases 10 to 19 (R150, R151). The clock takes a mark so with an AT_MARK commit pending too, and
the commit has its moment before or after: it takes effect, or is abandoned with both images and the revision
kept and COMMIT_FAILED begun (R11, R152). That the command carries the time since the last tick taken, and
that before the first tick after a power-on the end of the load stands for a tick of phase 0, are the model's
choices (log entry 8). -/
def Obligations.TimeMarkIsJudgedByItsPhase : Prop :=
  ∀ (s : State) (sinceTick : Nat), s.clock.phase < 20 →
    let c := s.clock
    let phase := if 2 * sinceTick ≤ s.tickInterval then c.phase else (c.phase + 1) % 20
    let later := if c.time < maxTime then c.time + 1 else c.time
    let judged (t : State) : Prop :=
      (phase = 0 → t.clock.slip = false ∧ t.clock.lastSlip = c.lastSlip) ∧
      (phase ≠ 0 → t.clock.slip = true ∧ t.clock.lastSlip = some (phase, c.time) ∧
        (c.slip = false → (t.alarms.get .timeSlip).state = .active)) ∧
      t.clock.timeSet = c.timeSet
    let realigned (t : State) : Prop :=
      t.clock.phase = 0 ∧
      (phase = 0 → t.clock.time = if c.phase = 0 then c.time else later) ∧
      (phase ≠ 0 → t.clock.time = if 10 ≤ phase then later else c.time) ∧
      t.tickInterval = if phase = 0 ∧ c.phase = 0 then sinceTick + 50000 else 50000
    let counted (t : State) : Prop :=
      t.clock.phase = c.phase ∧ t.clock.time = c.time ∧ t.tickInterval = s.tickInterval
    (s.plan.pendingCommit ≠ .atMark →
      ∃ t, exec (.timeMark sinceTick) s = .next t ∧ judged t ∧
        (c.realign = true → realigned t) ∧
        (c.realign = false → counted t ∧ t.clock.realign = false)) ∧
    (s.plan.pendingCommit = .atMark →
      ∃ t, exec (.timeMark sinceTick) s = .next t ∧ judged t ∧
        (c.realign = true → s.plan.staged.site.realign = true → realigned t) ∧
        (c.realign = false → s.plan.staged.site.realign = false ∨ s.inUseCheck ≠ none →
          counted t ∧ t.clock.realign = false) ∧
        (t.plan = { s.plan with live := s.plan.staged,
                                revision := (s.plan.revision + 1) % 65536,
                                pendingCommit := .absent, invalid := false,
                                commitFailed := false } ∨
          t.plan = { s.plan with pendingCommit := .absent, commitFailed := true }) ∧
        (c.realign = false →
          (s.inUseCheck = none → t.plan.live = s.plan.staged) ∧
          (s.inUseCheck ≠ none → t.plan.live = s.plan.live ∧ t.plan.commitFailed = true ∧
            (s.plan.commitFailed = false →
              t.alarms.get .commitFailed = (s.alarms.get .commitFailed).begins))))

/-- SET_TIME over an empty booking table: the time moves, the drop timing of every station moves with it, a
start that would fall below 0 becoming 0 (R121), the clock re-phases without a boundary, and the answer
carries the time before and after; over a booking it is refused BUSY (R148, R149). What is due is taken before
it (log entry 1). SET_SITE_DERATE and SET_REALIGN set the value in force and nothing else, a commit pending or
not (R180). A value out of range, of any of the three, is refused RANGE and changes nothing. -/
def Obligations.SupervisorSetsTimeAndSettings : Prop :=
  (∀ (s : State) (tag time : Nat), time ≤ maxTime →
     (s.bookings = [] →
       ∃ t, exec (.setTime tag time) s = .next t ∧
         t.clock.time = time ∧ t.clock.timeSet = true ∧ t.clock.phase = 0 ∧
         t.clock.slip = s.clock.slip ∧ t.clock.lastSlip = s.clock.lastSlip ∧ t.bookings = [] ∧
         t.tickInterval = 50000 ∧
         answered .supervisor (.answerSL tag 0x20 .ok (.times s.clock.time time)) s.takeDue t ∧
         ∀ n, t.wind.get n = { s.takeDue.wind.get n with
           dropStart := (s.takeDue.wind.get n).dropStart.map fun start =>
             ((start : Int) + time - s.clock.time).toNat }) ∧
     (s.bookings ≠ [] →
       exec (.setTime tag time) s =
         .next (replied .supervisor (.answerSL tag 0x20 .busy .empty) s))) ∧
  ∀ (s : State) (tag : Nat),
    (∀ v, v ≤ 65535 →
      exec (.setSiteDerate tag v) s =
        .next (replied .supervisor (.answerSL tag 0x21 .ok (.derate (min v 1000)))
          { s with siteDerate := min v 1000 })) ∧
    (∀ v, maxTime < v →
      exec (.setTime tag v) s =
        .next (replied .supervisor (.answerSL tag 0x20 .range .empty) s)) ∧
    (∀ v, 65535 < v →
      exec (.setSiteDerate tag v) s =
        .next (replied .supervisor (.answerSL tag 0x21 .range .empty) s)) ∧
    (∀ v, 1 < v →
      exec (.setRealign tag v) s =
        .next (replied .supervisor (.answerSL tag 0x22 .range .empty) s)) ∧
    ∀ e : Bool,
      exec (.setRealign tag (if e then 1 else 0)) s =
        .next (replied .supervisor (.answerSL tag 0x22 .ok (.realign e))
          { s with clock := { s.clock with realign := e } })

/-! ### The wind line -/

/-- The closing of the enrolment window, when it is due (R96); the end of an echo wait, answered
NO_SENSOR (R98); the stop of the run watch at 8 (R100). A record in CHECKING that has reached 40 attempt
cycles fails its attempt: below the third its RUN-TO is listed, and at the third it is FAILED and
SENSOR_FAILED begins (R102, R103). A record in IDENTITY silent for 8 attempt cycles becomes ABSENT
(R104). -/
def Obligations.LineAndSensorTimersRunOut : Prop :=
  ((∀ s : State, s.line.closeDue = true →
     ∃ t, exec .windowClose s = .next t ∧ t.line.windowOpen = false ∧
       (s.line.enrolHeld = true ∨ s.line.commands.contains .run = true →
         t = s.setLine { s.line with windowOpen := false }) ∧
       (s.line.enrolHeld = false → s.line.commands = [] →
         t.cycle = some { kind := .command 24 LineCommand.run.word, age := 0 } ∧
         t.line.state = .running ∧ t.line.runWatch = some 0 ∧ t.line.commands = []) ∧
       (s.line.enrolHeld = false → s.line.commands.contains .run = false →
         s.line.commands ≠ [] →
         t = s.setLine { s.line with windowOpen := false,
                                     commands := s.line.commands ++ [.run] })) ∧
   (∀ (s : State) (a : Addr), s.line.echoWait = some (a, .due) →
     (∀ tag, s.enrolTag = some tag →
       exec .echoWaitExpiry s =
         .next ({ s.setLine { s.line with echoWait := none } with enrolTag := none }.send .supervisor
           [.answerSL tag 0x18 .noSensor .empty])) ∧
     (s.enrolTag = none →
       exec .echoWaitExpiry s = .next (s.setLine { s.line with echoWait := none }))) ∧
   ∀ s : State, s.line.runWatch = some 8 →
     exec .runWatchEnd s = .next (s.setLine { s.line with runWatch := none })) ∧
  ∀ (s : State) (a : Addr),
    let r := s.sensors.get a
    (r.checkingDue = true →
      (∀ b : Addr, b.number < a.number → (s.sensors.get b).checkingDue = false) →
      ∃ t, exec (.checkingTimeout a) s = .next t ∧
        (∀ b, b ≠ a → t.sensors.get b = s.sensors.get b) ∧
        (r.attempts < 3 →
          t.sensors.get a = { r with state := .starting .awaitingCommand } ∧
          t.line = { s.line with commands :=
            if s.line.commands.contains (.runTo a) then s.line.commands
            else s.line.commands ++ [.runTo a] } ∧ t.alarms = s.alarms) ∧
        (3 ≤ r.attempts →
          t.sensors.get a = { r with state := .failed, history := [], figures := none } ∧
          t.line = s.line ∧
          t.alarms.get (.sensorFailed a) = (s.alarms.get (.sensorFailed a)).begins)) ∧
    (r.silentDue = true →
      exec (.sensorSilent a) s = .next (s.setSensor a
        { state := .absent, identity := [], attempts := 0, attemptCycles := 0, readyRun := 0,
          missRun := 0, goodRun := 0, history := [], figures := none }))

/-- The supervisor's commands of the line. Their refusals, each the first that applies and with nothing changed:
RANGE, CLOSED, BUSY and IN_USE of ENROL_NEXT (R97), LINE_STATE and BUSY of RUN_LINE (R99; BUSY with a RUN listed
too is log entry 35's choice), LINE_STATE of START_LINE (R95), and RANGE, LINE_STATE and BUSY of SENSOR_RESTART
(R110). Each where it is accepted: ENROL_NEXT lists ASSIGN and is answered
later (R97, R178), RUN_LINE lists RUN (R99), START_LINE powers the line up (R95), STOP_LINE removes power and
empties the records (R111), with the NO_SENSOR answer of an ENROL_NEXT still awaited before its own (R178; log
entry 12), and SENSOR_RESTART starts a record again and lists its RUN-TO (R110). That it does so for an
ASSIGNED record on a RUNNING line too is the model's choice (log entry 29). -/
def Obligations.LineCommandsAreTaken : Prop :=
  ∀ (s : State) (tag : Nat),
    let ok (cmd : Nat) : Frame := .answerSL tag cmd .ok .empty
    let no (cmd : Nat) (code : Code) : State :=
      replied .supervisor (.answerSL tag cmd code .empty) s
    let awaits : Prop := s.line.echoWait ≠ none ∨ ∃ a, LineCommand.assign a ∈ s.line.commands
    (∀ k, (Addr.ofNumber? k = none →
        exec (.enrolNext tag k) s = .next (no 0x18 .range) ∧
        exec (.sensorRestart tag k) s = .next (no 0x1C .range)) ∧
      ∀ a, Addr.ofNumber? k = some a →
        (s.line.windowOpen = false → exec (.enrolNext tag k) s = .next (no 0x18 .closed)) ∧
        (s.line.windowOpen = true → awaits → exec (.enrolNext tag k) s = .next (no 0x18 .busy)) ∧
        (s.line.windowOpen = true → ¬ awaits → (s.sensors.get a).state ≠ .absent →
          exec (.enrolNext tag k) s = .next (no 0x18 .inUse)) ∧
        (s.line.state ≠ .running → exec (.sensorRestart tag k) s = .next (no 0x1C .lineState)) ∧
        (s.line.state = .running → (∃ p, (s.sensors.get a).state = .starting p) →
          exec (.sensorRestart tag k) s = .next (no 0x1C .busy))) ∧
    (s.line.state ≠ .enrolling → exec (.runLine tag) s = .next (no 0x19 .lineState)) ∧
    (s.line.state = .enrolling → awaits → exec (.runLine tag) s = .next (no 0x19 .busy)) ∧
    (s.line.state ≠ .off → exec (.startLine tag) s = .next (no 0x1B .lineState)) ∧
    (∀ k a, Addr.ofNumber? k = some a → s.line.windowOpen = true → ¬ awaits → (s.sensors.get a).state = .absent →
      exec (.enrolNext tag k) s = .next
        { (s.setRx .supervisor .hunting).setLine
            { s.line with enrolHeld := true, commands := s.line.commands ++ [.assign a] } with
          enrolTag := some tag, handling := none, held := [] }) ∧
    (s.line.state = .enrolling → ¬ awaits →
      exec (.runLine tag) s = .next (replied .supervisor (ok 0x19)
        (if s.line.commands.contains .run then s
         else s.setLine { s.line with commands := s.line.commands ++ [.run] }))) ∧
    (s.line.state = .off →
      exec (.stopLine tag) s = .next (replied .supervisor (ok 0x1A) s) ∧
      ∃ t, exec (.startLine tag) s = .next t ∧ t.line = .poweredUp ∧
        (∀ a, t.sensors.get a = .blank) ∧ answered .supervisor (ok 0x1B) s t ∧
        t = { s with line := t.line, sensors := t.sensors, cycle := t.cycle, alarms := t.alarms,
                     attn := t.attn, tx := t.tx, rx := t.rx, handling := none, held := [] }) ∧
    (s.line.state ≠ .off →
      ∃ t, exec (.stopLine tag) s = .next t ∧
        t.line = { state := .off, windowCount := 0, windowOpen := false, enrolHeld := false,
                   echoWait := none, commands := [], runWatch := none } ∧
        (∀ a, t.sensors.get a = .blank) ∧ t.enrolTag = none ∧
        t.tx.get .supervisor =
          (abandonedEnrol s ++ [ok 0x1A]).foldl Tx.push (s.tx.get .supervisor) ∧
        (∀ n, t.tx.get (.crane n) = s.tx.get (.crane n)) ∧
        t.rx = s.rx.set .supervisor .hunting ∧
        t = { s with line := t.line, sensors := t.sensors, cycle := t.cycle, alarms := t.alarms,
                     attn := t.attn, enrolTag := t.enrolTag, tx := t.tx, rx := t.rx,
                     handling := none, held := [] }) ∧
    (∀ k a, Addr.ofNumber? k = some a → s.line.state = .running →
      (∀ p, (s.sensors.get a).state ≠ .starting p) →
      ∃ t, exec (.sensorRestart tag k) s = .next t ∧
        t.sensors = s.sensors.set a { s.sensors.get a with
          state := .starting .awaitingCommand, attempts := 0, history := [], figures := none,
          missRun := 0, goodRun := 0, attemptCycles := 0, readyRun := 0 } ∧
        t.line.commands = (if s.line.commands.contains (.runTo a) then s.line.commands
          else s.line.commands ++ [.runTo a]) ∧
        (t.alarms.get (.sensorFailed a)).state = .clear ∧
        answered .supervisor (ok 0x1C) s t ∧
        t = { s with line := { s.line with commands := t.line.commands }, sensors := t.sensors,
                     alarms := t.alarms, attn := t.attn, tx := t.tx, rx := t.rx,
                     handling := none, held := [] })

/-- The slots of an ordinary cycle move the records. In ENROLLING the echo makes the enrolled record ASSIGNED
and answers ENROL_NEXT OK, and any other slot counts one cycle of the echo wait (R98). In RUNNING: a word in
the slot of a watched ABSENT record starts it (R100); IDENTITY takes its eight words (R101); CHECKING counts
READY replies, two of which bring FIRST_SPEED, in the fortieth cycle too, where anything else ends the
attempt, and then a speed brings RUNNING (R102); anything else that fails an attempt lists a RUN-TO below the
third and declares the sensor FAILED at the third (R103), the cycle counted (log entry 15). A running sensor
adds a speed and ends its misses, the third miss in a row is a FAULT, and a SENSOR_FAULT reply fails the
record; in FAULT the eighth good reply in a row returns it to RUNNING (R105 to R108). -/
def Obligations.RunningSensorsFollowTheirReplies : Prop :=
  (∀ (s : State) (slots : PerAddr Slot) (a : Addr) (k : Timer),
    s.line.state = .enrolling → s.line.echoWait = some (a, k) →
    (readSlot (slots.get a) = .value a.number → (s.sensors.get a).state = .absent →
      let u := { (s.setLine { s.line with echoWait := none }).setSensor a
        { s.sensors.get a with state := .assigned } with enrolTag := none }
      (∀ tag, s.enrolTag = some tag → s.readSlots .ordinary slots =
        u.send .supervisor [.answerSL tag 0x18 .ok .empty]) ∧
      (s.enrolTag = none → s.readSlots .ordinary slots = u)) ∧
    (readSlot (slots.get a) ≠ .value a.number →
      s.readSlots .ordinary slots = s.setLine { s.line with echoWait := some (a, k.count) })) ∧
  ∀ (s : State) (slots : PerAddr Slot) (a : Addr),
    s.line.state = .running → s.line.echoWait = none →
    let r := s.sensors.get a
    let t := s.readSlots .ordinary slots
    let u := t.sensors.get a
    let reply := readSlot (slots.get a)
    let x := reply.cls
    let cycles := min 40 (r.attemptCycles + 1)
    let added (v : Nat) : SensorRec :=
      let h := (v :: r.history).take 240
      { r with history := h,
               figures := some ((h.take 12).sum / (h.take 12).length, h.sum / h.length) }
    let fails : Prop :=
      (r.attempts < 3 →
        u = { r with state := .starting .awaitingCommand, attemptCycles := cycles } ∧
        (.runTo a) ∈ t.line.commands) ∧
      (3 ≤ r.attempts →
        u = { r with state := .failed, attemptCycles := cycles, history := [],
                     figures := none } ∧
        t.alarms.get (.sensorFailed a) = (s.alarms.get (.sensorFailed a)).begins)
    (∀ w, s.line.runWatch = some w → t.line.runWatch = some (min 8 (w + 1)) ∧
      (r.state = .absent → w < 8 →
        let first : SensorRec := { r with state := .starting .identity, attempts := 1,
                                          attemptCycles := w + 1, readyRun := 0, identity := [] }
        (reply = .missing → u = r) ∧
        (∀ v, reply = .value v → u = { first with identity := [BitVec.ofNat 10 v] }) ∧
        (reply = .badCheck → u = { first with state := .starting .awaitingCommand } ∧
          (.runTo a) ∈ t.line.commands))) ∧
    (r.state = .starting .identity →
      (∀ v, reply = .value v →
        (r.identity.length < 7 →
          u = { r with identity := r.identity ++ [BitVec.ofNat 10 v],
                       attemptCycles := cycles }) ∧
        (r.identity.length = 7 → r.attemptCycles < 39 →
          u = { r with state := .starting .checking, readyRun := 0, attemptCycles := cycles,
                       identity := r.identity ++ [BitVec.ofNat 10 v] })) ∧
      (reply = .missing → r.identity = [] → u = { r with attemptCycles := cycles }) ∧
      (reply = .missing ∧ r.identity ≠ [] ∨ reply = .badCheck → fails)) ∧
    (r.state = .starting .checking → r.attemptCycles ≤ 39 →
      (x = .ready → 1 ≤ r.readyRun →
        u = { r with readyRun := 2, attemptCycles := cycles, state := .starting .firstSpeed }) ∧
      (x = .sensorFault → fails) ∧
      (r.attemptCycles < 39 →
        (x = .ready → r.readyRun = 0 → u = { r with readyRun := 1, attemptCycles := cycles }) ∧
        (x ≠ .ready → x ≠ .sensorFault →
          u = { r with readyRun := 0, attemptCycles := cycles })) ∧
      (r.attemptCycles = 39 → ¬ (x = .ready ∧ 1 ≤ r.readyRun) →
        u.checkingDue = true ∨ u.state = .starting .awaitingCommand ∨ u.state = .failed)) ∧
    (r.state = .starting .firstSpeed →
      (∀ v, x = .speed v → u = { added v with state := .running, missRun := 0, goodRun := 0,
                                              attemptCycles := cycles }) ∧
      ((∀ v, x ≠ .speed v) → fails)) ∧
    (r.state = .running →
      (∀ v, x = .speed v → u = { added v with missRun := 0 }) ∧
      (x = .sensorFault → u.state = .failed ∧ u.history = [] ∧ u.figures = none) ∧
      ((∀ v, x ≠ .speed v) → x ≠ .sensorFault →
        (r.missRun < 2 → u = { r with missRun := r.missRun + 1 }) ∧
        (2 ≤ r.missRun → u = { r with missRun := 3, state := .fault, goodRun := 0 } ∧
          t.alarms.get (.sensorFault a) = (s.alarms.get (.sensorFault a)).begins))) ∧
    (r.state = .fault →
      (∀ v, x = .speed v →
        (r.goodRun < 7 → u = { added v with goodRun := r.goodRun + 1 }) ∧
        (7 ≤ r.goodRun → u = { added v with state := .running, missRun := 0, goodRun := 0 } ∧
          t.alarms.get (.sensorFault a) = (s.alarms.get (.sensorFault a)).ends .temporary)) ∧
      (x = .sensorFault → u.state = .failed ∧ u.history = [] ∧ u.figures = none) ∧
      ((∀ v, x ≠ .speed v) → x ≠ .sensorFault → u = { r with goodRun := 0 }))

/-! ### The wind stages -/

/-- The end of a reading, once its fourth tick has come: the slots are handled and every enabled station is
evaluated with the records as they then stand: its figures, the greatest of its assigned RUNNING sensors
(R116), the site stop (R123), the floor of lost input (R117), the raise to the highest level whose gust or
mean threshold is reached (R118) and the drop condition (R119). A disabled one keeps its fields. A cycle whose
start waited for the hand-over begins (log entry 5). A change of stage, of the hand-over too, is handed on: a
WIND notice goes to the station first, unless it is OFFLINE (R124); at SHUTDOWN none of its bookings stays in
window, and the only one that was ends ABORTED(WIND) (R167); at NORMAL or CAUTION its DEFERRED booking opens
with the time left, or lapses when none is left (R162, R167). -/
def Obligations.HandOverEvaluatesEveryStation : Prop :=
  (∀ (s : State) (slots : PerAddr Slot) (c : WindCycle), s.cycle = some c → 4 ≤ c.age →
    let u := s.readSlots c.kind slots
    ∃ t, exec (.windCycleReadingEnd slots) s = .next t ∧
      (c.age = 4 → t.cycle = none ∧ t.sensors = u.sensors ∧ t.line = u.line) ∧
      (5 ≤ c.age → ∃ e, t.cycle = some e ∧ e.age = 0) ∧
      t.clock = s.clock ∧ t.siteStop = s.siteStop ∧
      (∀ n, (s.station n).enabled = false → t.wind.get n = s.wind.get n) ∧
      ∀ n, (s.station n).enabled = true →
        let r := s.station n
        let w := s.wind.get n
        let v := t.wind.get n
        (s.handling = none → bookingTableKept s = true →
          (∃ more : List Frame, t.tx.get (.crane n) = more.foldl Tx.push (s.tx.get (.crane n)) ∧
            ∀ x y, Frame.notice (.wind x y) ∈ more ↔
              v.stage ≠ w.stage ∧ (s.ctx.get n).link ≠ .offline ∧ x = v.stage ∧ y = w.stage) ∧
          (v.stage ≠ w.stage → v.stage = .shutdown →
            ∀ b ∈ t.bookings, b.station = n → b.inWindow = false)) ∧
        let reads (a : Addr) (x : Nat × Nat) : Prop :=
          r.anemometers.get a = true ∧ (u.sensors.get a).state = .running ∧
            (u.sensors.get a).figures = some x
        let level (p : PerLevel) : Nat :=
          match w.stage with
          | .shutdown => p.shutdown
          | .hold => p.hold
          | .caution | .normal => p.caution
        (v.figures = none ↔ ∀ a x, ¬ reads a x) ∧
        (∀ g, v.figures = some g →
          (∃ a x, reads a x ∧ x.1 = g.1) ∧ (∃ a x, reads a x ∧ x.2 = g.2) ∧
          ∀ a x, reads a x → x.1 ≤ g.1 ∧ x.2 ≤ g.2) ∧
        v.lost = v.figures.isNone ∧
        (s.siteStop = true → v.stage = .shutdown ∧ v.raise = 0 ∧ v.dropStart = none) ∧
        (s.siteStop = false →
          (v.figures = none → v.raise = 0 ∧ v.dropStart = none ∧
            v.stage = if w.stage = .shutdown then .shutdown else .hold) ∧
          ∀ g, v.figures = some g →
            let q : Stage :=
              if r.gustAt.shutdown ≤ g.1 ∨ r.meanAt.shutdown ≤ g.2 then .shutdown
              else if r.gustAt.hold ≤ g.1 ∨ r.meanAt.hold ≤ g.2 then .hold
              else if r.gustAt.caution ≤ g.1 ∨ r.meanAt.caution ≤ g.2 then .caution
              else .normal
            (w.stage.rank < q.rank → r.persistence ≤ w.raise + 1 →
              v.stage = q ∧ v.raise = 0 ∧ v.dropStart = none) ∧
            (w.stage.rank < q.rank → w.raise + 1 < r.persistence →
              v.stage = w.stage ∧ v.raise = w.raise + 1) ∧
            (q.rank ≤ w.stage.rank → v.stage = w.stage ∧ v.raise = 0) ∧
            (q.rank ≤ w.stage.rank ∨ w.raise + 1 < r.persistence →
              v.dropStart =
                if w.stage ≠ .normal ∧ g.1 + r.hysteresis < level r.gustAt ∧
                    g.2 + r.hysteresis < level r.meanAt then
                  some (w.dropStart.getD s.clock.time)
                else none))) ∧
  ∀ (s : State) (n : Station) (stage : Stage) (first : Bool),
    s.handling = none → bookingTableKept s = true → (s.wind.get n).stage ≠ stage →
    let t := s.changeStage n stage first
    let old := (s.wind.get n).stage
    t.wind = s.wind.set n { s.wind.get n with stage := stage } ∧
    ((s.ctx.get n).link ≠ .offline → ∃ more, t.tx.get (.crane n) =
      (.notice (.wind stage old) :: more).foldl Tx.push (s.tx.get (.crane n))) ∧
    (stage = .shutdown →
      (∀ b ∈ t.bookings, b.station = n → b.inWindow = false) ∧
      ∀ b ∈ s.bookings, b.station = n → b.inWindow = true →
        (∀ c ∈ s.bookings, c.station = n → c.inWindow = true → c = b) →
        (∀ p l k, b.mode ≠ .repeating p l k) →
        t.booking? b.number = none ∧
          (t.ctx.get n).lastEnded = some ⟨b.number, .abortedWind⟩) ∧
    (stage = .normal ∨ stage = .caution → ∀ b ∈ s.bookings, b.station = n →
      (∀ c ∈ s.bookings, c.station = n → c.state ≠ .pending → c = b) →
      ∀ e, b.state = .deferred e →
        (s.clock.time < e → ∃ c w, t.booking? b.number = some c ∧ c.window? = some w ∧
          w.ends = e ∧ w.remaining = e - s.clock.time ∧ w.extension = none ∧ w.due = false) ∧
        (e ≤ s.clock.time → (∀ p l k, b.mode ≠ .repeating p l k) →
          t.booking? b.number = none ∧
            (t.ctx.get n).lastEnded = some ⟨b.number, .lapsedDeferred⟩))

/-- A fall that is due lowers the stage by one level, restarts the drop timing above NORMAL and stops it
at NORMAL, and leaves the raise counter; no other station's wind fields change (R120). The clearance
timer's expiry makes clearance overdue present and begins CLEARANCE_OVERDUE, and the station stays as it
stands (R135). The sequence that comes into force for a BRAKED station makes it CLEAR at once when the clear
condition holds, and otherwise CLEARING with the clearance timer started (R132, R134). Each station that holds
one of its zones is sent a CLEAR_REQUEST, unless it is OFFLINE, after its booking in window that names the zone
has ended ABORTED(CLEARANCE) with its notice (R133, R168); the booking table is in its form, which every step
keeps (R154). A CLEARING station passes to CLEAR when it is told of
a change of holder, or of its v_wind at 0, with the clear condition met (R134). -/
def Obligations.DropDwellAndClearanceTimerRunOut : Prop :=
  (∀ (s : State) (n : Station), (s.wind.get n).dropDue = true →
     ∃ t, exec (.dropDwellExpiry n) s = .next t ∧
       t.wind = s.wind.set n { s.wind.get n with
         stage := (match (s.wind.get n).stage with
           | .shutdown => .hold
           | .hold => .caution
           | .caution | .normal => .normal),
         dropStart := (match (s.wind.get n).stage with
           | .shutdown | .hold => some s.clock.time
           | .caution | .normal => none),
         dropDue := false } ∧
       t.rx = s.rx ∧
       zoneWork { s with wind := t.wind, choices := t.choices } t) ∧
  (∀ (s : State) (n : Station), (s.vane.get n).timer = .due →
    ∃ t, exec (.clearanceTimerExpiry n) s = .next t ∧
      t.vane = s.vane.set n { s.vane.get n with timer := .stopped, overdue := true } ∧
      ((s.vane.get n).overdue = false →
        t.alarms.get (.clearanceOverdue n) = (s.alarms.get (.clearanceOverdue n)).begins) ∧
      (∀ i, i ≠ .clearanceOverdue n → t.alarms.get i = s.alarms.get i) ∧
      t = { s with vane := t.vane, alarms := t.alarms, attn := t.attn, tx := t.tx,
                   held := t.held }) ∧
  (∀ (s : State) (v : Station), s.handling = none → bookingTableKept s = true →
    (s.vane.get v).vane = .braked → s.inForce v = true →
    let t := s.judgeSequence v
    t.vane.get v =
      (if s.clearCondition v then
        { s.vane.get v with vane := .clear, timer := .stopped, vc := true, overdue := false }
       else
        { s.vane.get v with vane := .clearing, vc := false, overdue := false,
                            timer := .running s.plan.live.site.clearanceTimeout }) ∧
    ∀ z ∈ s.memberZones v, ∀ h, s.holder z = some h → h ≠ v →
      ((s.ctx.get h).link ≠ .offline → ∃ before more, t.tx.get (.crane h) =
        (before ++ .notice (.clearRequest z v) :: more).foldl Tx.push (s.tx.get (.crane h)) ∧
        ∀ b ∈ s.bookings, b.station = h → b.inWindow = true → z ∈ b.zones →
          (∀ c ∈ s.bookings, c.station = h → c.inWindow = true → c = b) →
          ∃ series, .notice (.bookingEnded b.number .abortedClearance series) ∈ before) ∧
      ∀ b ∈ s.bookings, b.station = h → b.inWindow = true → z ∈ b.zones →
        (∀ c ∈ s.bookings, c.station = h → c.inWindow = true → c = b) →
        t.booking? b.number = none ∧
          (t.ctx.get h).lastEnded = some ⟨b.number, .abortedClearance⟩) ∧
  ∀ (s : State) (v : Station), (s.vane.get v).vane = .clearing → s.zonesClearFor v = true →
    ((s.lim.get v).vWind = 0 → ∀ z, v ∈ s.members z →
      ((s.holderTold z).vane.get v).vane = .clear ∧ ((s.holderTold z).vane.get v).vc = true) ∧
    ((s.lim.get v).vWind ≠ 0 →
      ((s.setVWind v 0).vane.get v).vane = .clear ∧ ((s.setVWind v 0).vane.get v).vc = true)

/-- The assertion of SSTOP puts every enabled station at SHUTDOWN with its raise and drop timing stopped
and leaves none of them BRAKED (R122, R131, R132); its withdrawal changes no stage, ends the SITE_STOP
condition, and returns ADVISORY stations that are CLEARING or CLEAR to BRAKED (R123, R131, R139). -/
def Obligations.SiteStopHoldsEveryStation : Prop :=
  ∀ s : State,
    (∃ t, exec .sstopAsserted s = .next t ∧ t.siteStop = true ∧ t.sstopPin = true ∧
      (t.alarms.get .siteStop).state = .active ∧
      (∀ n, (s.station n).enabled = true →
        (t.wind.get n).stage = .shutdown ∧ (t.wind.get n).raise = 0 ∧
        (t.wind.get n).dropStart = none ∧ (t.vane.get n).vane ≠ .braked ∧
        derateOf t.siteStop (t.station n) (t.wind.get n).stage t.siteDerate = 1000) ∧
      (∀ n, (s.station n).enabled = false → t.wind.get n = s.wind.get n) ∧ t.rx = s.rx ∧
      zoneWork { s with wind := t.wind, siteStop := true, sstopPin := true,
                        choices := t.choices } t) ∧
    ∃ t, exec .sstopWithdrawn s = .next t ∧ t.siteStop = false ∧ t.sstopPin = false ∧
      t.alarms.get .siteStop = (s.alarms.get .siteStop).ends .temporary ∧ t.rx = s.rx ∧
      (∀ n, (s.station n).enabled = true → (s.station n).mode = .advisory →
        (s.vane.get n).vane = .clearing ∨ (s.vane.get n).vane = .clear →
        (t.vane.get n).vane = .braked ∧ (t.vane.get n).vc = false) ∧
      zoneWork { s with siteStop := false, sstopPin := false, choices := t.choices } t

/-! ### Alarms, resets and links -/

/-- ACK_ALARM of an entry that is not CLEAR: an ACTIVE entry is marked acknowledged; a LATCHED one of a
latching kind returns to CLEAR, and of SENSOR_FAILED is marked; no other entry moves; unsafe vane latched
clears with its entry (R141, R187). An entry in CLEAR is refused NO_ALARM. An unknown kind, a scope given for a
site kind, and a station or an address missing or out of range are refused RANGE, with nothing changed; every
other kind and scope names an entry (R185). -/
def Obligations.AcknowledgementActsOnItsEntry : Prop :=
  (∀ (s : State) (tag priority scope : Nat),
    let named : Prop :=
      (priority ∈ [1, 2, 11, 12, 13] ∧ scope = 0) ∨
      (3 ≤ priority ∧ priority ≤ 8 ∧ 1 ≤ scope ∧ scope ≤ 6) ∨
      (9 ≤ priority ∧ priority ≤ 10 ∧ 1 ≤ scope ∧ scope ≤ 4)
    (named → ∃ k i, AlarmKind.ofPriority? priority = some k ∧ k.entry? scope = some i) ∧
    (¬ named → exec (.ackAlarm tag priority scope) s =
      .next (replied .supervisor (.answerSL tag 0x38 .range .empty) s))) ∧
  ∀ (s : State) (tag priority scope : Nat) (k : AlarmKind) (i : AlarmId),
    AlarmKind.ofPriority? priority = some k → k.entry? scope = some i →
    let e := s.alarms.get i
    (e.state = .clear →
      exec (.ackAlarm tag priority scope) s =
        .next (replied .supervisor (.answerSL tag 0x38 .noAlarm .empty) s)) ∧
    (e.state ≠ .clear → (e.state = .latched → k.latchClass = .latching ∨
        k.latchClass = .sensorLatching) →
      ∃ t, exec (.ackAlarm tag priority scope) s = .next t ∧
        t.alarms.get i =
          (if e.state = .active then ⟨.active, true⟩
           else if k.latchClass = .latching then ⟨.clear, false⟩ else ⟨.latched, true⟩) ∧
        (∀ j, j ≠ i → t.alarms.get j = s.alarms.get j) ∧
        (∀ n, i = .unsafeVane n → (t.alarms.get i).state = .clear →
          (t.vane.get n).unsafeLatched = false) ∧
        answered .supervisor
          (.answerSL tag 0x38 .ok (.entryState (t.alarms.get i).state)) s t ∧
        t = { s with alarms := t.alarms, attn := t.attn, vane := t.vane, ctx := t.ctx,
                     lim := t.lim, tx := t.tx, rx := t.rx, handling := none, held := [] })

/-- POWER_ON with SSTOP withdrawn: over a good store the part stands at its power-on values with the
stored plan and its revision; over a bad one it stands at them with the empty plan, revision 0 and
PLAN_INVALID ACTIVE; the store's content stays (R19, R20). With SSTOP asserted, the plan, the zones and the
settings handed on are the same, the site stop holds, SITE_STOP is ACTIVE with its alert, and every enabled
station is at SHUTDOWN (R129, R122) and CLEAR, since v_wind is 0 and no zone is held (R132, R134). The counter
behind the free orders goes on, which is the model's (log entry 4). -/
def Obligations.PowerOnLoadsThePlan : Prop :=
  ∀ s : State,
    let good := s.plan.store.marker = false ∧
      s.plan.store.content.check =
        Config.storeCheck s.plan.store.content.image s.plan.store.content.revision
    let p := s.plan.store.content.image
    let loaded : State := { State.reset with
      plan := { live := p, staged := p, revision := s.plan.store.content.revision,
                pendingCommit := .absent, store := s.plan.store, storeState := .idle,
                invalid := false, commitFailed := false, storeFailed := false },
      zones := .of fun z => if (p.zones.get z).enabled then some .fresh else none,
      siteDerate := p.site.siteDerate,
      clock := { State.reset.clock with realign := p.site.realign },
      alarms := .cleared, attn := false, tx := .const .idle,
      choices := s.choices, pending := s.pending }
    let empty : State := { State.reset with
      plan := { State.reset.plan with store := s.plan.store },
      choices := s.choices, pending := s.pending }
    let siteStopped (u : State) : Prop :=
      ∃ t, exec .powerOn s = .next t ∧
        t = { u with sstopPin := true, siteStop := true, wind := t.wind, vane := t.vane,
                     alarms := u.alarms.set .siteStop ⟨.active, false⟩, attn := true,
                     tx := u.tx.set .supervisor
                       ((u.tx.get .supervisor).push (.alert ⟨.siteStop, 0, 0⟩)),
                     choices := t.choices } ∧
        ∀ n,
          ((t.station n).enabled = true →
            t.wind.get n = { WindCtx.reset with stage := .shutdown } ∧
            t.vane.get n = { VaneCtx.reset with vane := .clear, vc := true }) ∧
          ((t.station n).enabled = false → t.wind.get n = .reset ∧ t.vane.get n = .reset)
    (good → s.sstopPin = false → exec .powerOn s = .next loaded) ∧
    (¬ good → s.sstopPin = false → exec .powerOn s = .next empty) ∧
    (good → s.sstopPin = true → siteStopped loaded) ∧
    (¬ good → s.sstopPin = true → siteStopped empty)

/-- RESTART: each block takes its restart values; the live plan, its revision, its validity, the store and
the site time are kept. Frames already raised on any link are kept, the NO_SENSOR answer of an ENROL_NEXT still
awaited goes before the answer, and the alert of a site stop that stands goes after it (R21, R23, R71, R89, R95,
R113, R153, R176, R178, R179, R184, R191). -/
def Obligations.RestartKeepsPlanAndTime : Prop :=
  ∀ (s : State) (tag : Nat),
    ∃ t, exec (.restart tag) s = .next t ∧
      t.plan = { s.plan with staged := s.plan.live, pendingCommit := .absent,
                             commitFailed := false } ∧
      t.siteDerate = s.plan.live.site.siteDerate ∧
      t.clock = { s.clock with slip := false, realign := s.plan.live.site.realign } ∧
      t.tickInterval = s.tickInterval ∧
      (∀ n, t.ctx.get n = .reset ∧ t.arb.get n = .reset ∧ t.lim.get n = .reset) ∧
      (∀ z, t.zones.get z =
        if (s.plan.live.zones.get z).enabled then some .fresh else none) ∧
      t.line = .poweredUp ∧ (∀ a, t.sensors.get a = .blank) ∧ t.enrolTag = none ∧
      t.bookings = [] ∧ t.nextNumber = 1 ∧
      t.siteStop = s.sstopPin ∧ t.sstopPin = s.sstopPin ∧
      (s.sstopPin = false → ∀ n, t.wind.get n = .reset ∧ t.vane.get n = .reset) ∧
      (s.sstopPin = true → ∀ n, (t.station n).enabled = true →
        (t.wind.get n).stage = .shutdown) ∧
      t.alarms.get .planInvalid = s.alarms.get .planInvalid ∧
      t.alarms.get .storeFailed = s.alarms.get .storeFailed ∧
      (s.sstopPin = false → ∀ i, i ≠ .planInvalid → i ≠ .storeFailed →
        t.alarms.get i = ⟨.clear, false⟩) ∧
      t.handling = none ∧ t.held = [] ∧ t.rx = s.rx.set .supervisor .hunting ∧
      (∀ n, t.tx.get (.crane n) = s.tx.get (.crane n)) ∧
      let answer : Frame := .answerSL tag 0x3F .ok
        (.restarted s.plan.revision s.clock.time s.clock.timeSet)
      let stop : List Frame := if s.sstopPin then
        [.alert { entry := .siteStop, time := s.clock.time, phase := s.clock.phase }] else []
      t.tx.get .supervisor =
        (abandonedEnrol s ++ answer :: stop).foldl Tx.push (s.tx.get .supervisor)

/-- A frame of an unknown kind or of a wrong length is answered BAD_KIND or BAD_LENGTH and changes nothing;
on SL the answer echoes the tag and the command when the frame holds them (R194). The end of a collection
of length 0 leaves the receiver hunting (R193). A frame that has been sent is followed by the first one
waiting (R179, R192). A frame whose check differs is discarded without an answer, and the receiver hunts
again from the byte after its start byte: with no whole frame within, only the reception state changes,
and a whole frame within is taken as the command it spells, in the same step, which is the model's choice (log
entry 7; R193). -/
def Obligations.LinksRefuseHuntAndSend : Prop :=
  (∀ (s : State) (l : Link) (kind : Byte) (payload : List Byte),
     (∀ n, l = .crane n →
       exec (.badKind l kind payload) s = .next (replied l (.answer kind .badKind .empty) s) ∧
       exec (.badLength l kind payload) s =
         .next (replied l (.answer kind .badLength .empty) s)) ∧
     (l = .supervisor → ∀ tag cmd rest, payload = tag :: cmd :: rest →
       exec (.badKind l kind payload) s =
         .next (replied l (.answerSL tag.toNat cmd.toNat .badKind .empty) s) ∧
       exec (.badLength l kind payload) s =
         .next (replied l (.answerSL tag.toNat cmd.toNat .badLength .empty) s)) ∧
     (l = .supervisor → payload.length < 2 →
       exec (.badKind l kind payload) s = .next (replied l (.answerSL 0 0 .badKind .empty) s) ∧
       exec (.badLength l kind payload) s =
         .next (replied l (.answerSL 0 0 .badLength .empty) s)) ∧
     exec (.zeroLengthCollectionEnd l) s = .next (s.setRx l .hunting) ∧
     ((s.tx.get l).waiting = [] →
       exec (.waitingFrameSent l) s = .next (s.setTx l { sending := none, waiting := [] })) ∧
     ∀ f rest, (s.tx.get l).waiting = f :: rest →
       exec (.waitingFrameSent l) s = .next (s.setTx l { sending := some f, waiting := rest })) ∧
  ∀ (s : State) (l : Link) (frame : List Byte),
    ((∀ b ∈ frame.tail, b ≠ 0xA5#8) →
      exec (.badCheckFrame l frame) s = .next (s.setRx l .hunting)) ∧
    (∀ bytes, huntAgain frame.tail = ([], some bytes) →
      exec (.badCheckFrame l frame) s = .next (s.setRx l (.collecting bytes))) ∧
    ∀ f, huntAgain frame.tail = ([f], none) →
      ∃ t, exec (classify l f) (s.setRx l .hunting) = .next t ∧
        exec (.badCheckFrame l frame) s = .next (t.setRx l .hunting)
end

