-- ==== Sys2Proof/Laws/Tables.lean ====
section
/-! SUPPORT. Reading after writing in the tables indexed by station, address, zone, link and alarm
entry: the entry written reads back, every other entry reads as before. -/

namespace Sys2Proof

/-! ### PerStation -/

@[simp] theorem PerStation.get_set_same {α : Type} (t : PerStation α) (n : Station) (a : α) :
    (t.set n a).get n = a := by cases n <;> rfl

theorem PerStation.get_set {α : Type} (t : PerStation α) (n m : Station) (a : α) :
    (t.set n a).get m = if m = n then a else t.get m := by cases n <;> cases m <;> rfl

@[simp] theorem PerStation.get_set_ne {α : Type} {t : PerStation α} {n m : Station} {a : α}
    (h : m ≠ n) : (t.set n a).get m = t.get m := by rw [PerStation.get_set, if_neg h]

@[simp] theorem PerStation.get_const {α : Type} (a : α) (n : Station) :
    (PerStation.const a).get n = a := by cases n <;> rfl

@[simp] theorem PerStation.get_map {α β : Type} (f : α → β) (t : PerStation α) (n : Station) :
    (t.map f).get n = f (t.get n) := by cases n <;> rfl

@[simp] theorem PerStation.get_of {α : Type} (f : Station → α) (n : Station) :
    (PerStation.of f).get n = f n := by cases n <;> rfl

theorem PerStation.eq_of_get {α : Type} {t u : PerStation α} (h : ∀ n, t.get n = u.get n) :
    t = u := by
  cases t; cases u
  have h1 := h .s1; have h2 := h .s2; have h3 := h .s3
  have h4 := h .s4; have h5 := h .s5; have h6 := h .s6
  simp only [PerStation.get] at h1 h2 h3 h4 h5 h6
  subst h1 h2 h3 h4 h5 h6; rfl

@[simp] theorem PerStation.set_get {α : Type} (t : PerStation α) (n : Station) :
    t.set n (t.get n) = t := by cases n <;> rfl

/-! ### PerAddr -/

@[simp] theorem PerAddr.get_set_same {α : Type} (t : PerAddr α) (k : Addr) (a : α) :
    (t.set k a).get k = a := by cases k <;> rfl

theorem PerAddr.get_set {α : Type} (t : PerAddr α) (k j : Addr) (a : α) :
    (t.set k a).get j = if j = k then a else t.get j := by cases k <;> cases j <;> rfl

@[simp] theorem PerAddr.get_set_ne {α : Type} {t : PerAddr α} {k j : Addr} {a : α}
    (h : j ≠ k) : (t.set k a).get j = t.get j := by rw [PerAddr.get_set, if_neg h]

@[simp] theorem PerAddr.get_const {α : Type} (a : α) (k : Addr) :
    (PerAddr.const a).get k = a := by cases k <;> rfl

theorem PerAddr.eq_of_get {α : Type} {t u : PerAddr α} (h : ∀ k, t.get k = u.get k) : t = u := by
  cases t; cases u
  have h1 := h .a1; have h2 := h .a2; have h3 := h .a3; have h4 := h .a4
  simp only [PerAddr.get] at h1 h2 h3 h4
  subst h1 h2 h3 h4; rfl

/-! ### PerZone -/

@[simp] theorem PerZone.get_set_same {α : Type} (t : PerZone α) (z : Zone) (a : α) :
    (t.set z a).get z = a := by simp [PerZone.get, PerZone.set]

@[simp] theorem PerZone.get_set_ne {α : Type} {t : PerZone α} {z y : Zone} {a : α} (h : y ≠ z) :
    (t.set z a).get y = t.get y := by
  have hv : z.val ≠ y.val := fun e => h (Fin.ext e.symm)
  simp [PerZone.get, PerZone.set, Vector.getElem_set_ne _ _ hv]

theorem PerZone.get_set {α : Type} (t : PerZone α) (z y : Zone) (a : α) :
    (t.set z a).get y = if y = z then a else t.get y := by
  by_cases h : y = z
  · subst h; simp
  · simp [h]

@[simp] theorem PerZone.get_const {α : Type} (a : α) (z : Zone) : (PerZone.const a).get z = a := by
  simp [PerZone.get, PerZone.const]

@[simp] theorem PerZone.get_of {α : Type} (f : Zone → α) (z : Zone) :
    (PerZone.of f).get z = f z := by simp [PerZone.get, PerZone.of]

theorem PerZone.eq_of_get {α : Type} {t u : PerZone α} (h : ∀ z, t.get z = u.get z) : t = u := by
  cases t; cases u
  congr
  ext i hi
  exact h ⟨i, hi⟩

/-! ### PerLink -/

@[simp] theorem PerLink.get_set_same {α : Type} (t : PerLink α) (l : Link) (a : α) :
    (t.set l a).get l = a := by cases l <;> simp [PerLink.get, PerLink.set]

@[simp] theorem PerLink.get_set_ne {α : Type} {t : PerLink α} {l k : Link} {a : α} (h : k ≠ l) :
    (t.set l a).get k = t.get k := by
  cases l with
  | supervisor => cases k with
    | supervisor => exact absurd rfl h
    | crane m => rfl
  | crane n => cases k with
    | supervisor => rfl
    | crane m =>
      have : m ≠ n := fun e => h (by rw [e])
      simp [PerLink.get, PerLink.set, this]

@[simp] theorem PerLink.get_const {α : Type} (a : α) (l : Link) : (PerLink.const a).get l = a := by
  cases l <;> simp [PerLink.get, PerLink.const]

theorem PerLink.eq_of_get {α : Type} {t u : PerLink α} (h : ∀ l, t.get l = u.get l) : t = u := by
  cases t; cases u
  have hs := h .supervisor
  simp only [PerLink.get] at hs
  subst hs
  congr
  exact PerStation.eq_of_get fun n => h (.crane n)

/-! ### Numbers and names -/

@[simp] theorem Station.ofNumber?_number (n : Station) : Station.ofNumber? n.number = some n := by
  cases n <;> rfl

theorem Station.number_of_ofNumber? {k : Nat} {n : Station} (h : Station.ofNumber? k = some n) :
    n.number = k := by
  unfold Station.ofNumber? at h
  split at h <;> simp_all <;> subst h <;> rfl

@[simp] theorem Addr.ofNumber?_number (a : Addr) : Addr.ofNumber? a.number = some a := by
  cases a <;> rfl

theorem Addr.number_of_ofNumber? {k : Nat} {a : Addr} (h : Addr.ofNumber? k = some a) :
    a.number = k := by
  unfold Addr.ofNumber? at h
  split at h <;> simp_all <;> subst h <;> rfl

@[simp] theorem Zone.ofNumber?_val (z : Zone) : Zone.ofNumber? z.val = some z := by
  simp [Zone.ofNumber?]

@[simp] theorem Station.mem_all (n : Station) : n ∈ Station.all := by cases n <;> decide

@[simp] theorem Addr.mem_all (a : Addr) : a ∈ Addr.all := by cases a <;> decide

@[simp] theorem Zone.mem_all (z : Zone) : z ∈ Zone.all := by simp [Zone.all]

theorem Zone.nodup_all : Zone.all.Nodup := List.nodup_finRange 64

theorem Station.nodup_all : Station.all.Nodup := by decide

namespace Machine

/-! ### The alarm table -/

@[simp] theorem AlarmTable.get_set_same (t : AlarmTable) (i : AlarmId) (e : Entry) :
    (t.set i e).get i = e := by cases i <;> simp [AlarmTable.get, AlarmTable.set]

@[simp] theorem AlarmTable.get_set_ne {t : AlarmTable} {i j : AlarmId} {e : Entry} (h : j ≠ i) :
    (t.set i e).get j = t.get j := by
  cases i <;> cases j <;>
    first
    | rfl
    | exact absurd rfl h
    | (simp only [ne_eq, AlarmId.unsafeVane.injEq, AlarmId.intrusion.injEq,
        AlarmId.conflict.injEq, AlarmId.clearanceOverdue.injEq, AlarmId.windLost.injEq,
        AlarmId.linkStale.injEq, AlarmId.sensorFailed.injEq, AlarmId.sensorFault.injEq] at h
       simp [AlarmTable.get, AlarmTable.set, h])

/-- Every entry is listed. -/
@[simp] theorem AlarmId.mem_all (i : AlarmId) : i ∈ AlarmId.all := by
  cases i <;> first | decide | (rename_i n; cases n <;> decide)

/-- An entry's kind and scope name it (R187, R199). -/
@[simp] theorem AlarmKind.entry?_kind (i : AlarmId) : i.kind.entry? i.scope = some i := by
  cases i <;> first | rfl | (rename_i n; cases n <;> rfl)

end Machine

end Sys2Proof
end

