-- ==== Sys2Proof/Laws/State.lean ====
section
/-! SUPPORT. One lemma for each field of the state and each operation that replaces one record: the field
written holds what was written, and every other field is as before. -/

namespace Sys2Proof.Machine

/-! ### setCtx -/

@[simp] theorem State.setCtx_plan (s : State) (n : Station) (c : StationCtx) :
    (s.setCtx n c).plan = s.plan := rfl

@[simp] theorem State.setCtx_ctx (s : State) (n : Station) (c : StationCtx) :
    (s.setCtx n c).ctx = s.ctx.set n c := rfl

@[simp] theorem State.setCtx_arb (s : State) (n : Station) (c : StationCtx) :
    (s.setCtx n c).arb = s.arb := rfl

@[simp] theorem State.setCtx_zones (s : State) (n : Station) (c : StationCtx) :
    (s.setCtx n c).zones = s.zones := rfl

@[simp] theorem State.setCtx_lim (s : State) (n : Station) (c : StationCtx) :
    (s.setCtx n c).lim = s.lim := rfl

@[simp] theorem State.setCtx_siteDerate (s : State) (n : Station) (c : StationCtx) :
    (s.setCtx n c).siteDerate = s.siteDerate := rfl

@[simp] theorem State.setCtx_line (s : State) (n : Station) (c : StationCtx) :
    (s.setCtx n c).line = s.line := rfl

@[simp] theorem State.setCtx_sensors (s : State) (n : Station) (c : StationCtx) :
    (s.setCtx n c).sensors = s.sensors := rfl

@[simp] theorem State.setCtx_cycle (s : State) (n : Station) (c : StationCtx) :
    (s.setCtx n c).cycle = s.cycle := rfl

@[simp] theorem State.setCtx_wind (s : State) (n : Station) (c : StationCtx) :
    (s.setCtx n c).wind = s.wind := rfl

@[simp] theorem State.setCtx_siteStop (s : State) (n : Station) (c : StationCtx) :
    (s.setCtx n c).siteStop = s.siteStop := rfl

@[simp] theorem State.setCtx_sstopPin (s : State) (n : Station) (c : StationCtx) :
    (s.setCtx n c).sstopPin = s.sstopPin := rfl

@[simp] theorem State.setCtx_vane (s : State) (n : Station) (c : StationCtx) :
    (s.setCtx n c).vane = s.vane := rfl

@[simp] theorem State.setCtx_clock (s : State) (n : Station) (c : StationCtx) :
    (s.setCtx n c).clock = s.clock := rfl

@[simp] theorem State.setCtx_tickInterval (s : State) (n : Station) (c : StationCtx) :
    (s.setCtx n c).tickInterval = s.tickInterval := rfl

@[simp] theorem State.setCtx_bookings (s : State) (n : Station) (c : StationCtx) :
    (s.setCtx n c).bookings = s.bookings := rfl

@[simp] theorem State.setCtx_nextNumber (s : State) (n : Station) (c : StationCtx) :
    (s.setCtx n c).nextNumber = s.nextNumber := rfl

@[simp] theorem State.setCtx_alarms (s : State) (n : Station) (c : StationCtx) :
    (s.setCtx n c).alarms = s.alarms := rfl

@[simp] theorem State.setCtx_attn (s : State) (n : Station) (c : StationCtx) :
    (s.setCtx n c).attn = s.attn := rfl

@[simp] theorem State.setCtx_enrolTag (s : State) (n : Station) (c : StationCtx) :
    (s.setCtx n c).enrolTag = s.enrolTag := rfl

@[simp] theorem State.setCtx_handling (s : State) (n : Station) (c : StationCtx) :
    (s.setCtx n c).handling = s.handling := rfl

@[simp] theorem State.setCtx_held (s : State) (n : Station) (c : StationCtx) :
    (s.setCtx n c).held = s.held := rfl

@[simp] theorem State.setCtx_tx (s : State) (n : Station) (c : StationCtx) :
    (s.setCtx n c).tx = s.tx := rfl

@[simp] theorem State.setCtx_rx (s : State) (n : Station) (c : StationCtx) :
    (s.setCtx n c).rx = s.rx := rfl

@[simp] theorem State.setCtx_choices (s : State) (n : Station) (c : StationCtx) :
    (s.setCtx n c).choices = s.choices := rfl

@[simp] theorem State.setCtx_pending (s : State) (n : Station) (c : StationCtx) :
    (s.setCtx n c).pending = s.pending := rfl

/-! ### setArb -/

@[simp] theorem State.setArb_plan (s : State) (n : Station) (c : ArbiterCtx) :
    (s.setArb n c).plan = s.plan := rfl

@[simp] theorem State.setArb_ctx (s : State) (n : Station) (c : ArbiterCtx) :
    (s.setArb n c).ctx = s.ctx := rfl

@[simp] theorem State.setArb_arb (s : State) (n : Station) (c : ArbiterCtx) :
    (s.setArb n c).arb = s.arb.set n c := rfl

@[simp] theorem State.setArb_zones (s : State) (n : Station) (c : ArbiterCtx) :
    (s.setArb n c).zones = s.zones := rfl

@[simp] theorem State.setArb_lim (s : State) (n : Station) (c : ArbiterCtx) :
    (s.setArb n c).lim = s.lim := rfl

@[simp] theorem State.setArb_siteDerate (s : State) (n : Station) (c : ArbiterCtx) :
    (s.setArb n c).siteDerate = s.siteDerate := rfl

@[simp] theorem State.setArb_line (s : State) (n : Station) (c : ArbiterCtx) :
    (s.setArb n c).line = s.line := rfl

@[simp] theorem State.setArb_sensors (s : State) (n : Station) (c : ArbiterCtx) :
    (s.setArb n c).sensors = s.sensors := rfl

@[simp] theorem State.setArb_cycle (s : State) (n : Station) (c : ArbiterCtx) :
    (s.setArb n c).cycle = s.cycle := rfl

@[simp] theorem State.setArb_wind (s : State) (n : Station) (c : ArbiterCtx) :
    (s.setArb n c).wind = s.wind := rfl

@[simp] theorem State.setArb_siteStop (s : State) (n : Station) (c : ArbiterCtx) :
    (s.setArb n c).siteStop = s.siteStop := rfl

@[simp] theorem State.setArb_sstopPin (s : State) (n : Station) (c : ArbiterCtx) :
    (s.setArb n c).sstopPin = s.sstopPin := rfl

@[simp] theorem State.setArb_vane (s : State) (n : Station) (c : ArbiterCtx) :
    (s.setArb n c).vane = s.vane := rfl

@[simp] theorem State.setArb_clock (s : State) (n : Station) (c : ArbiterCtx) :
    (s.setArb n c).clock = s.clock := rfl

@[simp] theorem State.setArb_tickInterval (s : State) (n : Station) (c : ArbiterCtx) :
    (s.setArb n c).tickInterval = s.tickInterval := rfl

@[simp] theorem State.setArb_bookings (s : State) (n : Station) (c : ArbiterCtx) :
    (s.setArb n c).bookings = s.bookings := rfl

@[simp] theorem State.setArb_nextNumber (s : State) (n : Station) (c : ArbiterCtx) :
    (s.setArb n c).nextNumber = s.nextNumber := rfl

@[simp] theorem State.setArb_alarms (s : State) (n : Station) (c : ArbiterCtx) :
    (s.setArb n c).alarms = s.alarms := rfl

@[simp] theorem State.setArb_attn (s : State) (n : Station) (c : ArbiterCtx) :
    (s.setArb n c).attn = s.attn := rfl

@[simp] theorem State.setArb_enrolTag (s : State) (n : Station) (c : ArbiterCtx) :
    (s.setArb n c).enrolTag = s.enrolTag := rfl

@[simp] theorem State.setArb_handling (s : State) (n : Station) (c : ArbiterCtx) :
    (s.setArb n c).handling = s.handling := rfl

@[simp] theorem State.setArb_held (s : State) (n : Station) (c : ArbiterCtx) :
    (s.setArb n c).held = s.held := rfl

@[simp] theorem State.setArb_tx (s : State) (n : Station) (c : ArbiterCtx) :
    (s.setArb n c).tx = s.tx := rfl

@[simp] theorem State.setArb_rx (s : State) (n : Station) (c : ArbiterCtx) :
    (s.setArb n c).rx = s.rx := rfl

@[simp] theorem State.setArb_choices (s : State) (n : Station) (c : ArbiterCtx) :
    (s.setArb n c).choices = s.choices := rfl

@[simp] theorem State.setArb_pending (s : State) (n : Station) (c : ArbiterCtx) :
    (s.setArb n c).pending = s.pending := rfl

/-! ### setZone -/

@[simp] theorem State.setZone_plan (s : State) (z : Zone) (d : Option ZoneDyn) :
    (s.setZone z d).plan = s.plan := rfl

@[simp] theorem State.setZone_ctx (s : State) (z : Zone) (d : Option ZoneDyn) :
    (s.setZone z d).ctx = s.ctx := rfl

@[simp] theorem State.setZone_arb (s : State) (z : Zone) (d : Option ZoneDyn) :
    (s.setZone z d).arb = s.arb := rfl

@[simp] theorem State.setZone_zones (s : State) (z : Zone) (d : Option ZoneDyn) :
    (s.setZone z d).zones = s.zones.set z d := rfl

@[simp] theorem State.setZone_lim (s : State) (z : Zone) (d : Option ZoneDyn) :
    (s.setZone z d).lim = s.lim := rfl

@[simp] theorem State.setZone_siteDerate (s : State) (z : Zone) (d : Option ZoneDyn) :
    (s.setZone z d).siteDerate = s.siteDerate := rfl

@[simp] theorem State.setZone_line (s : State) (z : Zone) (d : Option ZoneDyn) :
    (s.setZone z d).line = s.line := rfl

@[simp] theorem State.setZone_sensors (s : State) (z : Zone) (d : Option ZoneDyn) :
    (s.setZone z d).sensors = s.sensors := rfl

@[simp] theorem State.setZone_cycle (s : State) (z : Zone) (d : Option ZoneDyn) :
    (s.setZone z d).cycle = s.cycle := rfl

@[simp] theorem State.setZone_wind (s : State) (z : Zone) (d : Option ZoneDyn) :
    (s.setZone z d).wind = s.wind := rfl

@[simp] theorem State.setZone_siteStop (s : State) (z : Zone) (d : Option ZoneDyn) :
    (s.setZone z d).siteStop = s.siteStop := rfl

@[simp] theorem State.setZone_sstopPin (s : State) (z : Zone) (d : Option ZoneDyn) :
    (s.setZone z d).sstopPin = s.sstopPin := rfl

@[simp] theorem State.setZone_vane (s : State) (z : Zone) (d : Option ZoneDyn) :
    (s.setZone z d).vane = s.vane := rfl

@[simp] theorem State.setZone_clock (s : State) (z : Zone) (d : Option ZoneDyn) :
    (s.setZone z d).clock = s.clock := rfl

@[simp] theorem State.setZone_tickInterval (s : State) (z : Zone) (d : Option ZoneDyn) :
    (s.setZone z d).tickInterval = s.tickInterval := rfl

@[simp] theorem State.setZone_bookings (s : State) (z : Zone) (d : Option ZoneDyn) :
    (s.setZone z d).bookings = s.bookings := rfl

@[simp] theorem State.setZone_nextNumber (s : State) (z : Zone) (d : Option ZoneDyn) :
    (s.setZone z d).nextNumber = s.nextNumber := rfl

@[simp] theorem State.setZone_alarms (s : State) (z : Zone) (d : Option ZoneDyn) :
    (s.setZone z d).alarms = s.alarms := rfl

@[simp] theorem State.setZone_attn (s : State) (z : Zone) (d : Option ZoneDyn) :
    (s.setZone z d).attn = s.attn := rfl

@[simp] theorem State.setZone_enrolTag (s : State) (z : Zone) (d : Option ZoneDyn) :
    (s.setZone z d).enrolTag = s.enrolTag := rfl

@[simp] theorem State.setZone_handling (s : State) (z : Zone) (d : Option ZoneDyn) :
    (s.setZone z d).handling = s.handling := rfl

@[simp] theorem State.setZone_held (s : State) (z : Zone) (d : Option ZoneDyn) :
    (s.setZone z d).held = s.held := rfl

@[simp] theorem State.setZone_tx (s : State) (z : Zone) (d : Option ZoneDyn) :
    (s.setZone z d).tx = s.tx := rfl

@[simp] theorem State.setZone_rx (s : State) (z : Zone) (d : Option ZoneDyn) :
    (s.setZone z d).rx = s.rx := rfl

@[simp] theorem State.setZone_choices (s : State) (z : Zone) (d : Option ZoneDyn) :
    (s.setZone z d).choices = s.choices := rfl

@[simp] theorem State.setZone_pending (s : State) (z : Zone) (d : Option ZoneDyn) :
    (s.setZone z d).pending = s.pending := rfl

/-! ### setLim -/

@[simp] theorem State.setLim_plan (s : State) (n : Station) (c : LimitCtx) :
    (s.setLim n c).plan = s.plan := rfl

@[simp] theorem State.setLim_ctx (s : State) (n : Station) (c : LimitCtx) :
    (s.setLim n c).ctx = s.ctx := rfl

@[simp] theorem State.setLim_arb (s : State) (n : Station) (c : LimitCtx) :
    (s.setLim n c).arb = s.arb := rfl

@[simp] theorem State.setLim_zones (s : State) (n : Station) (c : LimitCtx) :
    (s.setLim n c).zones = s.zones := rfl

@[simp] theorem State.setLim_lim (s : State) (n : Station) (c : LimitCtx) :
    (s.setLim n c).lim = s.lim.set n c := rfl

@[simp] theorem State.setLim_siteDerate (s : State) (n : Station) (c : LimitCtx) :
    (s.setLim n c).siteDerate = s.siteDerate := rfl

@[simp] theorem State.setLim_line (s : State) (n : Station) (c : LimitCtx) :
    (s.setLim n c).line = s.line := rfl

@[simp] theorem State.setLim_sensors (s : State) (n : Station) (c : LimitCtx) :
    (s.setLim n c).sensors = s.sensors := rfl

@[simp] theorem State.setLim_cycle (s : State) (n : Station) (c : LimitCtx) :
    (s.setLim n c).cycle = s.cycle := rfl

@[simp] theorem State.setLim_wind (s : State) (n : Station) (c : LimitCtx) :
    (s.setLim n c).wind = s.wind := rfl

@[simp] theorem State.setLim_siteStop (s : State) (n : Station) (c : LimitCtx) :
    (s.setLim n c).siteStop = s.siteStop := rfl

@[simp] theorem State.setLim_sstopPin (s : State) (n : Station) (c : LimitCtx) :
    (s.setLim n c).sstopPin = s.sstopPin := rfl

@[simp] theorem State.setLim_vane (s : State) (n : Station) (c : LimitCtx) :
    (s.setLim n c).vane = s.vane := rfl

@[simp] theorem State.setLim_clock (s : State) (n : Station) (c : LimitCtx) :
    (s.setLim n c).clock = s.clock := rfl

@[simp] theorem State.setLim_tickInterval (s : State) (n : Station) (c : LimitCtx) :
    (s.setLim n c).tickInterval = s.tickInterval := rfl

@[simp] theorem State.setLim_bookings (s : State) (n : Station) (c : LimitCtx) :
    (s.setLim n c).bookings = s.bookings := rfl

@[simp] theorem State.setLim_nextNumber (s : State) (n : Station) (c : LimitCtx) :
    (s.setLim n c).nextNumber = s.nextNumber := rfl

@[simp] theorem State.setLim_alarms (s : State) (n : Station) (c : LimitCtx) :
    (s.setLim n c).alarms = s.alarms := rfl

@[simp] theorem State.setLim_attn (s : State) (n : Station) (c : LimitCtx) :
    (s.setLim n c).attn = s.attn := rfl

@[simp] theorem State.setLim_enrolTag (s : State) (n : Station) (c : LimitCtx) :
    (s.setLim n c).enrolTag = s.enrolTag := rfl

@[simp] theorem State.setLim_handling (s : State) (n : Station) (c : LimitCtx) :
    (s.setLim n c).handling = s.handling := rfl

@[simp] theorem State.setLim_held (s : State) (n : Station) (c : LimitCtx) :
    (s.setLim n c).held = s.held := rfl

@[simp] theorem State.setLim_tx (s : State) (n : Station) (c : LimitCtx) :
    (s.setLim n c).tx = s.tx := rfl

@[simp] theorem State.setLim_rx (s : State) (n : Station) (c : LimitCtx) :
    (s.setLim n c).rx = s.rx := rfl

@[simp] theorem State.setLim_choices (s : State) (n : Station) (c : LimitCtx) :
    (s.setLim n c).choices = s.choices := rfl

@[simp] theorem State.setLim_pending (s : State) (n : Station) (c : LimitCtx) :
    (s.setLim n c).pending = s.pending := rfl

/-! ### setWind -/

@[simp] theorem State.setWind_plan (s : State) (n : Station) (c : WindCtx) :
    (s.setWind n c).plan = s.plan := rfl

@[simp] theorem State.setWind_ctx (s : State) (n : Station) (c : WindCtx) :
    (s.setWind n c).ctx = s.ctx := rfl

@[simp] theorem State.setWind_arb (s : State) (n : Station) (c : WindCtx) :
    (s.setWind n c).arb = s.arb := rfl

@[simp] theorem State.setWind_zones (s : State) (n : Station) (c : WindCtx) :
    (s.setWind n c).zones = s.zones := rfl

@[simp] theorem State.setWind_lim (s : State) (n : Station) (c : WindCtx) :
    (s.setWind n c).lim = s.lim := rfl

@[simp] theorem State.setWind_siteDerate (s : State) (n : Station) (c : WindCtx) :
    (s.setWind n c).siteDerate = s.siteDerate := rfl

@[simp] theorem State.setWind_line (s : State) (n : Station) (c : WindCtx) :
    (s.setWind n c).line = s.line := rfl

@[simp] theorem State.setWind_sensors (s : State) (n : Station) (c : WindCtx) :
    (s.setWind n c).sensors = s.sensors := rfl

@[simp] theorem State.setWind_cycle (s : State) (n : Station) (c : WindCtx) :
    (s.setWind n c).cycle = s.cycle := rfl

@[simp] theorem State.setWind_wind (s : State) (n : Station) (c : WindCtx) :
    (s.setWind n c).wind = s.wind.set n c := rfl

@[simp] theorem State.setWind_siteStop (s : State) (n : Station) (c : WindCtx) :
    (s.setWind n c).siteStop = s.siteStop := rfl

@[simp] theorem State.setWind_sstopPin (s : State) (n : Station) (c : WindCtx) :
    (s.setWind n c).sstopPin = s.sstopPin := rfl

@[simp] theorem State.setWind_vane (s : State) (n : Station) (c : WindCtx) :
    (s.setWind n c).vane = s.vane := rfl

@[simp] theorem State.setWind_clock (s : State) (n : Station) (c : WindCtx) :
    (s.setWind n c).clock = s.clock := rfl

@[simp] theorem State.setWind_tickInterval (s : State) (n : Station) (c : WindCtx) :
    (s.setWind n c).tickInterval = s.tickInterval := rfl

@[simp] theorem State.setWind_bookings (s : State) (n : Station) (c : WindCtx) :
    (s.setWind n c).bookings = s.bookings := rfl

@[simp] theorem State.setWind_nextNumber (s : State) (n : Station) (c : WindCtx) :
    (s.setWind n c).nextNumber = s.nextNumber := rfl

@[simp] theorem State.setWind_alarms (s : State) (n : Station) (c : WindCtx) :
    (s.setWind n c).alarms = s.alarms := rfl

@[simp] theorem State.setWind_attn (s : State) (n : Station) (c : WindCtx) :
    (s.setWind n c).attn = s.attn := rfl

@[simp] theorem State.setWind_enrolTag (s : State) (n : Station) (c : WindCtx) :
    (s.setWind n c).enrolTag = s.enrolTag := rfl

@[simp] theorem State.setWind_handling (s : State) (n : Station) (c : WindCtx) :
    (s.setWind n c).handling = s.handling := rfl

@[simp] theorem State.setWind_held (s : State) (n : Station) (c : WindCtx) :
    (s.setWind n c).held = s.held := rfl

@[simp] theorem State.setWind_tx (s : State) (n : Station) (c : WindCtx) :
    (s.setWind n c).tx = s.tx := rfl

@[simp] theorem State.setWind_rx (s : State) (n : Station) (c : WindCtx) :
    (s.setWind n c).rx = s.rx := rfl

@[simp] theorem State.setWind_choices (s : State) (n : Station) (c : WindCtx) :
    (s.setWind n c).choices = s.choices := rfl

@[simp] theorem State.setWind_pending (s : State) (n : Station) (c : WindCtx) :
    (s.setWind n c).pending = s.pending := rfl

/-! ### setVane -/

@[simp] theorem State.setVane_plan (s : State) (n : Station) (c : VaneCtx) :
    (s.setVane n c).plan = s.plan := rfl

@[simp] theorem State.setVane_ctx (s : State) (n : Station) (c : VaneCtx) :
    (s.setVane n c).ctx = s.ctx := rfl

@[simp] theorem State.setVane_arb (s : State) (n : Station) (c : VaneCtx) :
    (s.setVane n c).arb = s.arb := rfl

@[simp] theorem State.setVane_zones (s : State) (n : Station) (c : VaneCtx) :
    (s.setVane n c).zones = s.zones := rfl

@[simp] theorem State.setVane_lim (s : State) (n : Station) (c : VaneCtx) :
    (s.setVane n c).lim = s.lim := rfl

@[simp] theorem State.setVane_siteDerate (s : State) (n : Station) (c : VaneCtx) :
    (s.setVane n c).siteDerate = s.siteDerate := rfl

@[simp] theorem State.setVane_line (s : State) (n : Station) (c : VaneCtx) :
    (s.setVane n c).line = s.line := rfl

@[simp] theorem State.setVane_sensors (s : State) (n : Station) (c : VaneCtx) :
    (s.setVane n c).sensors = s.sensors := rfl

@[simp] theorem State.setVane_cycle (s : State) (n : Station) (c : VaneCtx) :
    (s.setVane n c).cycle = s.cycle := rfl

@[simp] theorem State.setVane_wind (s : State) (n : Station) (c : VaneCtx) :
    (s.setVane n c).wind = s.wind := rfl

@[simp] theorem State.setVane_siteStop (s : State) (n : Station) (c : VaneCtx) :
    (s.setVane n c).siteStop = s.siteStop := rfl

@[simp] theorem State.setVane_sstopPin (s : State) (n : Station) (c : VaneCtx) :
    (s.setVane n c).sstopPin = s.sstopPin := rfl

@[simp] theorem State.setVane_vane (s : State) (n : Station) (c : VaneCtx) :
    (s.setVane n c).vane = s.vane.set n c := rfl

@[simp] theorem State.setVane_clock (s : State) (n : Station) (c : VaneCtx) :
    (s.setVane n c).clock = s.clock := rfl

@[simp] theorem State.setVane_tickInterval (s : State) (n : Station) (c : VaneCtx) :
    (s.setVane n c).tickInterval = s.tickInterval := rfl

@[simp] theorem State.setVane_bookings (s : State) (n : Station) (c : VaneCtx) :
    (s.setVane n c).bookings = s.bookings := rfl

@[simp] theorem State.setVane_nextNumber (s : State) (n : Station) (c : VaneCtx) :
    (s.setVane n c).nextNumber = s.nextNumber := rfl

@[simp] theorem State.setVane_alarms (s : State) (n : Station) (c : VaneCtx) :
    (s.setVane n c).alarms = s.alarms := rfl

@[simp] theorem State.setVane_attn (s : State) (n : Station) (c : VaneCtx) :
    (s.setVane n c).attn = s.attn := rfl

@[simp] theorem State.setVane_enrolTag (s : State) (n : Station) (c : VaneCtx) :
    (s.setVane n c).enrolTag = s.enrolTag := rfl

@[simp] theorem State.setVane_handling (s : State) (n : Station) (c : VaneCtx) :
    (s.setVane n c).handling = s.handling := rfl

@[simp] theorem State.setVane_held (s : State) (n : Station) (c : VaneCtx) :
    (s.setVane n c).held = s.held := rfl

@[simp] theorem State.setVane_tx (s : State) (n : Station) (c : VaneCtx) :
    (s.setVane n c).tx = s.tx := rfl

@[simp] theorem State.setVane_rx (s : State) (n : Station) (c : VaneCtx) :
    (s.setVane n c).rx = s.rx := rfl

@[simp] theorem State.setVane_choices (s : State) (n : Station) (c : VaneCtx) :
    (s.setVane n c).choices = s.choices := rfl

@[simp] theorem State.setVane_pending (s : State) (n : Station) (c : VaneCtx) :
    (s.setVane n c).pending = s.pending := rfl

/-! ### setSensor -/

@[simp] theorem State.setSensor_plan (s : State) (a : Addr) (r : SensorRec) :
    (s.setSensor a r).plan = s.plan := rfl

@[simp] theorem State.setSensor_ctx (s : State) (a : Addr) (r : SensorRec) :
    (s.setSensor a r).ctx = s.ctx := rfl

@[simp] theorem State.setSensor_arb (s : State) (a : Addr) (r : SensorRec) :
    (s.setSensor a r).arb = s.arb := rfl

@[simp] theorem State.setSensor_zones (s : State) (a : Addr) (r : SensorRec) :
    (s.setSensor a r).zones = s.zones := rfl

@[simp] theorem State.setSensor_lim (s : State) (a : Addr) (r : SensorRec) :
    (s.setSensor a r).lim = s.lim := rfl

@[simp] theorem State.setSensor_siteDerate (s : State) (a : Addr) (r : SensorRec) :
    (s.setSensor a r).siteDerate = s.siteDerate := rfl

@[simp] theorem State.setSensor_line (s : State) (a : Addr) (r : SensorRec) :
    (s.setSensor a r).line = s.line := rfl

@[simp] theorem State.setSensor_sensors (s : State) (a : Addr) (r : SensorRec) :
    (s.setSensor a r).sensors = s.sensors.set a r := rfl

@[simp] theorem State.setSensor_cycle (s : State) (a : Addr) (r : SensorRec) :
    (s.setSensor a r).cycle = s.cycle := rfl

@[simp] theorem State.setSensor_wind (s : State) (a : Addr) (r : SensorRec) :
    (s.setSensor a r).wind = s.wind := rfl

@[simp] theorem State.setSensor_siteStop (s : State) (a : Addr) (r : SensorRec) :
    (s.setSensor a r).siteStop = s.siteStop := rfl

@[simp] theorem State.setSensor_sstopPin (s : State) (a : Addr) (r : SensorRec) :
    (s.setSensor a r).sstopPin = s.sstopPin := rfl

@[simp] theorem State.setSensor_vane (s : State) (a : Addr) (r : SensorRec) :
    (s.setSensor a r).vane = s.vane := rfl

@[simp] theorem State.setSensor_clock (s : State) (a : Addr) (r : SensorRec) :
    (s.setSensor a r).clock = s.clock := rfl

@[simp] theorem State.setSensor_tickInterval (s : State) (a : Addr) (r : SensorRec) :
    (s.setSensor a r).tickInterval = s.tickInterval := rfl

@[simp] theorem State.setSensor_bookings (s : State) (a : Addr) (r : SensorRec) :
    (s.setSensor a r).bookings = s.bookings := rfl

@[simp] theorem State.setSensor_nextNumber (s : State) (a : Addr) (r : SensorRec) :
    (s.setSensor a r).nextNumber = s.nextNumber := rfl

@[simp] theorem State.setSensor_alarms (s : State) (a : Addr) (r : SensorRec) :
    (s.setSensor a r).alarms = s.alarms := rfl

@[simp] theorem State.setSensor_attn (s : State) (a : Addr) (r : SensorRec) :
    (s.setSensor a r).attn = s.attn := rfl

@[simp] theorem State.setSensor_enrolTag (s : State) (a : Addr) (r : SensorRec) :
    (s.setSensor a r).enrolTag = s.enrolTag := rfl

@[simp] theorem State.setSensor_handling (s : State) (a : Addr) (r : SensorRec) :
    (s.setSensor a r).handling = s.handling := rfl

@[simp] theorem State.setSensor_held (s : State) (a : Addr) (r : SensorRec) :
    (s.setSensor a r).held = s.held := rfl

@[simp] theorem State.setSensor_tx (s : State) (a : Addr) (r : SensorRec) :
    (s.setSensor a r).tx = s.tx := rfl

@[simp] theorem State.setSensor_rx (s : State) (a : Addr) (r : SensorRec) :
    (s.setSensor a r).rx = s.rx := rfl

@[simp] theorem State.setSensor_choices (s : State) (a : Addr) (r : SensorRec) :
    (s.setSensor a r).choices = s.choices := rfl

@[simp] theorem State.setSensor_pending (s : State) (a : Addr) (r : SensorRec) :
    (s.setSensor a r).pending = s.pending := rfl

/-! ### setPlan -/

@[simp] theorem State.setPlan_plan (s : State) (p : PlanUnit) :
    (s.setPlan p).plan = p := rfl

@[simp] theorem State.setPlan_ctx (s : State) (p : PlanUnit) :
    (s.setPlan p).ctx = s.ctx := rfl

@[simp] theorem State.setPlan_arb (s : State) (p : PlanUnit) :
    (s.setPlan p).arb = s.arb := rfl

@[simp] theorem State.setPlan_zones (s : State) (p : PlanUnit) :
    (s.setPlan p).zones = s.zones := rfl

@[simp] theorem State.setPlan_lim (s : State) (p : PlanUnit) :
    (s.setPlan p).lim = s.lim := rfl

@[simp] theorem State.setPlan_siteDerate (s : State) (p : PlanUnit) :
    (s.setPlan p).siteDerate = s.siteDerate := rfl

@[simp] theorem State.setPlan_line (s : State) (p : PlanUnit) :
    (s.setPlan p).line = s.line := rfl

@[simp] theorem State.setPlan_sensors (s : State) (p : PlanUnit) :
    (s.setPlan p).sensors = s.sensors := rfl

@[simp] theorem State.setPlan_cycle (s : State) (p : PlanUnit) :
    (s.setPlan p).cycle = s.cycle := rfl

@[simp] theorem State.setPlan_wind (s : State) (p : PlanUnit) :
    (s.setPlan p).wind = s.wind := rfl

@[simp] theorem State.setPlan_siteStop (s : State) (p : PlanUnit) :
    (s.setPlan p).siteStop = s.siteStop := rfl

@[simp] theorem State.setPlan_sstopPin (s : State) (p : PlanUnit) :
    (s.setPlan p).sstopPin = s.sstopPin := rfl

@[simp] theorem State.setPlan_vane (s : State) (p : PlanUnit) :
    (s.setPlan p).vane = s.vane := rfl

@[simp] theorem State.setPlan_clock (s : State) (p : PlanUnit) :
    (s.setPlan p).clock = s.clock := rfl

@[simp] theorem State.setPlan_tickInterval (s : State) (p : PlanUnit) :
    (s.setPlan p).tickInterval = s.tickInterval := rfl

@[simp] theorem State.setPlan_bookings (s : State) (p : PlanUnit) :
    (s.setPlan p).bookings = s.bookings := rfl

@[simp] theorem State.setPlan_nextNumber (s : State) (p : PlanUnit) :
    (s.setPlan p).nextNumber = s.nextNumber := rfl

@[simp] theorem State.setPlan_alarms (s : State) (p : PlanUnit) :
    (s.setPlan p).alarms = s.alarms := rfl

@[simp] theorem State.setPlan_attn (s : State) (p : PlanUnit) :
    (s.setPlan p).attn = s.attn := rfl

@[simp] theorem State.setPlan_enrolTag (s : State) (p : PlanUnit) :
    (s.setPlan p).enrolTag = s.enrolTag := rfl

@[simp] theorem State.setPlan_handling (s : State) (p : PlanUnit) :
    (s.setPlan p).handling = s.handling := rfl

@[simp] theorem State.setPlan_held (s : State) (p : PlanUnit) :
    (s.setPlan p).held = s.held := rfl

@[simp] theorem State.setPlan_tx (s : State) (p : PlanUnit) :
    (s.setPlan p).tx = s.tx := rfl

@[simp] theorem State.setPlan_rx (s : State) (p : PlanUnit) :
    (s.setPlan p).rx = s.rx := rfl

@[simp] theorem State.setPlan_choices (s : State) (p : PlanUnit) :
    (s.setPlan p).choices = s.choices := rfl

@[simp] theorem State.setPlan_pending (s : State) (p : PlanUnit) :
    (s.setPlan p).pending = s.pending := rfl

/-! ### setLine -/

@[simp] theorem State.setLine_plan (s : State) (l : LineRec) :
    (s.setLine l).plan = s.plan := rfl

@[simp] theorem State.setLine_ctx (s : State) (l : LineRec) :
    (s.setLine l).ctx = s.ctx := rfl

@[simp] theorem State.setLine_arb (s : State) (l : LineRec) :
    (s.setLine l).arb = s.arb := rfl

@[simp] theorem State.setLine_zones (s : State) (l : LineRec) :
    (s.setLine l).zones = s.zones := rfl

@[simp] theorem State.setLine_lim (s : State) (l : LineRec) :
    (s.setLine l).lim = s.lim := rfl

@[simp] theorem State.setLine_siteDerate (s : State) (l : LineRec) :
    (s.setLine l).siteDerate = s.siteDerate := rfl

@[simp] theorem State.setLine_line (s : State) (l : LineRec) :
    (s.setLine l).line = l := rfl

@[simp] theorem State.setLine_sensors (s : State) (l : LineRec) :
    (s.setLine l).sensors = s.sensors := rfl

@[simp] theorem State.setLine_cycle (s : State) (l : LineRec) :
    (s.setLine l).cycle = s.cycle := rfl

@[simp] theorem State.setLine_wind (s : State) (l : LineRec) :
    (s.setLine l).wind = s.wind := rfl

@[simp] theorem State.setLine_siteStop (s : State) (l : LineRec) :
    (s.setLine l).siteStop = s.siteStop := rfl

@[simp] theorem State.setLine_sstopPin (s : State) (l : LineRec) :
    (s.setLine l).sstopPin = s.sstopPin := rfl

@[simp] theorem State.setLine_vane (s : State) (l : LineRec) :
    (s.setLine l).vane = s.vane := rfl

@[simp] theorem State.setLine_clock (s : State) (l : LineRec) :
    (s.setLine l).clock = s.clock := rfl

@[simp] theorem State.setLine_tickInterval (s : State) (l : LineRec) :
    (s.setLine l).tickInterval = s.tickInterval := rfl

@[simp] theorem State.setLine_bookings (s : State) (l : LineRec) :
    (s.setLine l).bookings = s.bookings := rfl

@[simp] theorem State.setLine_nextNumber (s : State) (l : LineRec) :
    (s.setLine l).nextNumber = s.nextNumber := rfl

@[simp] theorem State.setLine_alarms (s : State) (l : LineRec) :
    (s.setLine l).alarms = s.alarms := rfl

@[simp] theorem State.setLine_attn (s : State) (l : LineRec) :
    (s.setLine l).attn = s.attn := rfl

@[simp] theorem State.setLine_enrolTag (s : State) (l : LineRec) :
    (s.setLine l).enrolTag = s.enrolTag := rfl

@[simp] theorem State.setLine_handling (s : State) (l : LineRec) :
    (s.setLine l).handling = s.handling := rfl

@[simp] theorem State.setLine_held (s : State) (l : LineRec) :
    (s.setLine l).held = s.held := rfl

@[simp] theorem State.setLine_tx (s : State) (l : LineRec) :
    (s.setLine l).tx = s.tx := rfl

@[simp] theorem State.setLine_rx (s : State) (l : LineRec) :
    (s.setLine l).rx = s.rx := rfl

@[simp] theorem State.setLine_choices (s : State) (l : LineRec) :
    (s.setLine l).choices = s.choices := rfl

@[simp] theorem State.setLine_pending (s : State) (l : LineRec) :
    (s.setLine l).pending = s.pending := rfl

/-! ### setClock -/

@[simp] theorem State.setClock_plan (s : State) (c : Clock) :
    (s.setClock c).plan = s.plan := rfl

@[simp] theorem State.setClock_ctx (s : State) (c : Clock) :
    (s.setClock c).ctx = s.ctx := rfl

@[simp] theorem State.setClock_arb (s : State) (c : Clock) :
    (s.setClock c).arb = s.arb := rfl

@[simp] theorem State.setClock_zones (s : State) (c : Clock) :
    (s.setClock c).zones = s.zones := rfl

@[simp] theorem State.setClock_lim (s : State) (c : Clock) :
    (s.setClock c).lim = s.lim := rfl

@[simp] theorem State.setClock_siteDerate (s : State) (c : Clock) :
    (s.setClock c).siteDerate = s.siteDerate := rfl

@[simp] theorem State.setClock_line (s : State) (c : Clock) :
    (s.setClock c).line = s.line := rfl

@[simp] theorem State.setClock_sensors (s : State) (c : Clock) :
    (s.setClock c).sensors = s.sensors := rfl

@[simp] theorem State.setClock_cycle (s : State) (c : Clock) :
    (s.setClock c).cycle = s.cycle := rfl

@[simp] theorem State.setClock_wind (s : State) (c : Clock) :
    (s.setClock c).wind = s.wind := rfl

@[simp] theorem State.setClock_siteStop (s : State) (c : Clock) :
    (s.setClock c).siteStop = s.siteStop := rfl

@[simp] theorem State.setClock_sstopPin (s : State) (c : Clock) :
    (s.setClock c).sstopPin = s.sstopPin := rfl

@[simp] theorem State.setClock_vane (s : State) (c : Clock) :
    (s.setClock c).vane = s.vane := rfl

@[simp] theorem State.setClock_clock (s : State) (c : Clock) :
    (s.setClock c).clock = c := rfl

@[simp] theorem State.setClock_tickInterval (s : State) (c : Clock) :
    (s.setClock c).tickInterval = s.tickInterval := rfl

@[simp] theorem State.setClock_bookings (s : State) (c : Clock) :
    (s.setClock c).bookings = s.bookings := rfl

@[simp] theorem State.setClock_nextNumber (s : State) (c : Clock) :
    (s.setClock c).nextNumber = s.nextNumber := rfl

@[simp] theorem State.setClock_alarms (s : State) (c : Clock) :
    (s.setClock c).alarms = s.alarms := rfl

@[simp] theorem State.setClock_attn (s : State) (c : Clock) :
    (s.setClock c).attn = s.attn := rfl

@[simp] theorem State.setClock_enrolTag (s : State) (c : Clock) :
    (s.setClock c).enrolTag = s.enrolTag := rfl

@[simp] theorem State.setClock_handling (s : State) (c : Clock) :
    (s.setClock c).handling = s.handling := rfl

@[simp] theorem State.setClock_held (s : State) (c : Clock) :
    (s.setClock c).held = s.held := rfl

@[simp] theorem State.setClock_tx (s : State) (c : Clock) :
    (s.setClock c).tx = s.tx := rfl

@[simp] theorem State.setClock_rx (s : State) (c : Clock) :
    (s.setClock c).rx = s.rx := rfl

@[simp] theorem State.setClock_choices (s : State) (c : Clock) :
    (s.setClock c).choices = s.choices := rfl

@[simp] theorem State.setClock_pending (s : State) (c : Clock) :
    (s.setClock c).pending = s.pending := rfl

/-! ### setBookings -/

@[simp] theorem State.setBookings_plan (s : State) (bs : List Booking) :
    (s.setBookings bs).plan = s.plan := rfl

@[simp] theorem State.setBookings_ctx (s : State) (bs : List Booking) :
    (s.setBookings bs).ctx = s.ctx := rfl

@[simp] theorem State.setBookings_arb (s : State) (bs : List Booking) :
    (s.setBookings bs).arb = s.arb := rfl

@[simp] theorem State.setBookings_zones (s : State) (bs : List Booking) :
    (s.setBookings bs).zones = s.zones := rfl

@[simp] theorem State.setBookings_lim (s : State) (bs : List Booking) :
    (s.setBookings bs).lim = s.lim := rfl

@[simp] theorem State.setBookings_siteDerate (s : State) (bs : List Booking) :
    (s.setBookings bs).siteDerate = s.siteDerate := rfl

@[simp] theorem State.setBookings_line (s : State) (bs : List Booking) :
    (s.setBookings bs).line = s.line := rfl

@[simp] theorem State.setBookings_sensors (s : State) (bs : List Booking) :
    (s.setBookings bs).sensors = s.sensors := rfl

@[simp] theorem State.setBookings_cycle (s : State) (bs : List Booking) :
    (s.setBookings bs).cycle = s.cycle := rfl

@[simp] theorem State.setBookings_wind (s : State) (bs : List Booking) :
    (s.setBookings bs).wind = s.wind := rfl

@[simp] theorem State.setBookings_siteStop (s : State) (bs : List Booking) :
    (s.setBookings bs).siteStop = s.siteStop := rfl

@[simp] theorem State.setBookings_sstopPin (s : State) (bs : List Booking) :
    (s.setBookings bs).sstopPin = s.sstopPin := rfl

@[simp] theorem State.setBookings_vane (s : State) (bs : List Booking) :
    (s.setBookings bs).vane = s.vane := rfl

@[simp] theorem State.setBookings_clock (s : State) (bs : List Booking) :
    (s.setBookings bs).clock = s.clock := rfl

@[simp] theorem State.setBookings_tickInterval (s : State) (bs : List Booking) :
    (s.setBookings bs).tickInterval = s.tickInterval := rfl

@[simp] theorem State.setBookings_bookings (s : State) (bs : List Booking) :
    (s.setBookings bs).bookings = bs := rfl

@[simp] theorem State.setBookings_nextNumber (s : State) (bs : List Booking) :
    (s.setBookings bs).nextNumber = s.nextNumber := rfl

@[simp] theorem State.setBookings_alarms (s : State) (bs : List Booking) :
    (s.setBookings bs).alarms = s.alarms := rfl

@[simp] theorem State.setBookings_attn (s : State) (bs : List Booking) :
    (s.setBookings bs).attn = s.attn := rfl

@[simp] theorem State.setBookings_enrolTag (s : State) (bs : List Booking) :
    (s.setBookings bs).enrolTag = s.enrolTag := rfl

@[simp] theorem State.setBookings_handling (s : State) (bs : List Booking) :
    (s.setBookings bs).handling = s.handling := rfl

@[simp] theorem State.setBookings_held (s : State) (bs : List Booking) :
    (s.setBookings bs).held = s.held := rfl

@[simp] theorem State.setBookings_tx (s : State) (bs : List Booking) :
    (s.setBookings bs).tx = s.tx := rfl

@[simp] theorem State.setBookings_rx (s : State) (bs : List Booking) :
    (s.setBookings bs).rx = s.rx := rfl

@[simp] theorem State.setBookings_choices (s : State) (bs : List Booking) :
    (s.setBookings bs).choices = s.choices := rfl

@[simp] theorem State.setBookings_pending (s : State) (bs : List Booking) :
    (s.setBookings bs).pending = s.pending := rfl

/-! ### setTx -/

@[simp] theorem State.setTx_plan (s : State) (l : Link) (t : Tx) :
    (s.setTx l t).plan = s.plan := rfl

@[simp] theorem State.setTx_ctx (s : State) (l : Link) (t : Tx) :
    (s.setTx l t).ctx = s.ctx := rfl

@[simp] theorem State.setTx_arb (s : State) (l : Link) (t : Tx) :
    (s.setTx l t).arb = s.arb := rfl

@[simp] theorem State.setTx_zones (s : State) (l : Link) (t : Tx) :
    (s.setTx l t).zones = s.zones := rfl

@[simp] theorem State.setTx_lim (s : State) (l : Link) (t : Tx) :
    (s.setTx l t).lim = s.lim := rfl

@[simp] theorem State.setTx_siteDerate (s : State) (l : Link) (t : Tx) :
    (s.setTx l t).siteDerate = s.siteDerate := rfl

@[simp] theorem State.setTx_line (s : State) (l : Link) (t : Tx) :
    (s.setTx l t).line = s.line := rfl

@[simp] theorem State.setTx_sensors (s : State) (l : Link) (t : Tx) :
    (s.setTx l t).sensors = s.sensors := rfl

@[simp] theorem State.setTx_cycle (s : State) (l : Link) (t : Tx) :
    (s.setTx l t).cycle = s.cycle := rfl

@[simp] theorem State.setTx_wind (s : State) (l : Link) (t : Tx) :
    (s.setTx l t).wind = s.wind := rfl

@[simp] theorem State.setTx_siteStop (s : State) (l : Link) (t : Tx) :
    (s.setTx l t).siteStop = s.siteStop := rfl

@[simp] theorem State.setTx_sstopPin (s : State) (l : Link) (t : Tx) :
    (s.setTx l t).sstopPin = s.sstopPin := rfl

@[simp] theorem State.setTx_vane (s : State) (l : Link) (t : Tx) :
    (s.setTx l t).vane = s.vane := rfl

@[simp] theorem State.setTx_clock (s : State) (l : Link) (t : Tx) :
    (s.setTx l t).clock = s.clock := rfl

@[simp] theorem State.setTx_tickInterval (s : State) (l : Link) (t : Tx) :
    (s.setTx l t).tickInterval = s.tickInterval := rfl

@[simp] theorem State.setTx_bookings (s : State) (l : Link) (t : Tx) :
    (s.setTx l t).bookings = s.bookings := rfl

@[simp] theorem State.setTx_nextNumber (s : State) (l : Link) (t : Tx) :
    (s.setTx l t).nextNumber = s.nextNumber := rfl

@[simp] theorem State.setTx_alarms (s : State) (l : Link) (t : Tx) :
    (s.setTx l t).alarms = s.alarms := rfl

@[simp] theorem State.setTx_attn (s : State) (l : Link) (t : Tx) :
    (s.setTx l t).attn = s.attn := rfl

@[simp] theorem State.setTx_enrolTag (s : State) (l : Link) (t : Tx) :
    (s.setTx l t).enrolTag = s.enrolTag := rfl

@[simp] theorem State.setTx_handling (s : State) (l : Link) (t : Tx) :
    (s.setTx l t).handling = s.handling := rfl

@[simp] theorem State.setTx_held (s : State) (l : Link) (t : Tx) :
    (s.setTx l t).held = s.held := rfl

@[simp] theorem State.setTx_tx (s : State) (l : Link) (t : Tx) :
    (s.setTx l t).tx = s.tx.set l t := rfl

@[simp] theorem State.setTx_rx (s : State) (l : Link) (t : Tx) :
    (s.setTx l t).rx = s.rx := rfl

@[simp] theorem State.setTx_choices (s : State) (l : Link) (t : Tx) :
    (s.setTx l t).choices = s.choices := rfl

@[simp] theorem State.setTx_pending (s : State) (l : Link) (t : Tx) :
    (s.setTx l t).pending = s.pending := rfl

/-! ### setRx -/

@[simp] theorem State.setRx_plan (s : State) (l : Link) (r : Rx) :
    (s.setRx l r).plan = s.plan := rfl

@[simp] theorem State.setRx_ctx (s : State) (l : Link) (r : Rx) :
    (s.setRx l r).ctx = s.ctx := rfl

@[simp] theorem State.setRx_arb (s : State) (l : Link) (r : Rx) :
    (s.setRx l r).arb = s.arb := rfl

@[simp] theorem State.setRx_zones (s : State) (l : Link) (r : Rx) :
    (s.setRx l r).zones = s.zones := rfl

@[simp] theorem State.setRx_lim (s : State) (l : Link) (r : Rx) :
    (s.setRx l r).lim = s.lim := rfl

@[simp] theorem State.setRx_siteDerate (s : State) (l : Link) (r : Rx) :
    (s.setRx l r).siteDerate = s.siteDerate := rfl

@[simp] theorem State.setRx_line (s : State) (l : Link) (r : Rx) :
    (s.setRx l r).line = s.line := rfl

@[simp] theorem State.setRx_sensors (s : State) (l : Link) (r : Rx) :
    (s.setRx l r).sensors = s.sensors := rfl

@[simp] theorem State.setRx_cycle (s : State) (l : Link) (r : Rx) :
    (s.setRx l r).cycle = s.cycle := rfl

@[simp] theorem State.setRx_wind (s : State) (l : Link) (r : Rx) :
    (s.setRx l r).wind = s.wind := rfl

@[simp] theorem State.setRx_siteStop (s : State) (l : Link) (r : Rx) :
    (s.setRx l r).siteStop = s.siteStop := rfl

@[simp] theorem State.setRx_sstopPin (s : State) (l : Link) (r : Rx) :
    (s.setRx l r).sstopPin = s.sstopPin := rfl

@[simp] theorem State.setRx_vane (s : State) (l : Link) (r : Rx) :
    (s.setRx l r).vane = s.vane := rfl

@[simp] theorem State.setRx_clock (s : State) (l : Link) (r : Rx) :
    (s.setRx l r).clock = s.clock := rfl

@[simp] theorem State.setRx_tickInterval (s : State) (l : Link) (r : Rx) :
    (s.setRx l r).tickInterval = s.tickInterval := rfl

@[simp] theorem State.setRx_bookings (s : State) (l : Link) (r : Rx) :
    (s.setRx l r).bookings = s.bookings := rfl

@[simp] theorem State.setRx_nextNumber (s : State) (l : Link) (r : Rx) :
    (s.setRx l r).nextNumber = s.nextNumber := rfl

@[simp] theorem State.setRx_alarms (s : State) (l : Link) (r : Rx) :
    (s.setRx l r).alarms = s.alarms := rfl

@[simp] theorem State.setRx_attn (s : State) (l : Link) (r : Rx) :
    (s.setRx l r).attn = s.attn := rfl

@[simp] theorem State.setRx_enrolTag (s : State) (l : Link) (r : Rx) :
    (s.setRx l r).enrolTag = s.enrolTag := rfl

@[simp] theorem State.setRx_handling (s : State) (l : Link) (r : Rx) :
    (s.setRx l r).handling = s.handling := rfl

@[simp] theorem State.setRx_held (s : State) (l : Link) (r : Rx) :
    (s.setRx l r).held = s.held := rfl

@[simp] theorem State.setRx_tx (s : State) (l : Link) (r : Rx) :
    (s.setRx l r).tx = s.tx := rfl

@[simp] theorem State.setRx_rx (s : State) (l : Link) (r : Rx) :
    (s.setRx l r).rx = s.rx.set l r := rfl

@[simp] theorem State.setRx_choices (s : State) (l : Link) (r : Rx) :
    (s.setRx l r).choices = s.choices := rfl

@[simp] theorem State.setRx_pending (s : State) (l : Link) (r : Rx) :
    (s.setRx l r).pending = s.pending := rfl

/-! ### setEntry -/

@[simp] theorem State.setEntry_plan (s : State) (i : AlarmId) (e : Entry) :
    (s.setEntry i e).plan = s.plan := rfl

@[simp] theorem State.setEntry_ctx (s : State) (i : AlarmId) (e : Entry) :
    (s.setEntry i e).ctx = s.ctx := rfl

@[simp] theorem State.setEntry_arb (s : State) (i : AlarmId) (e : Entry) :
    (s.setEntry i e).arb = s.arb := rfl

@[simp] theorem State.setEntry_zones (s : State) (i : AlarmId) (e : Entry) :
    (s.setEntry i e).zones = s.zones := rfl

@[simp] theorem State.setEntry_lim (s : State) (i : AlarmId) (e : Entry) :
    (s.setEntry i e).lim = s.lim := rfl

@[simp] theorem State.setEntry_siteDerate (s : State) (i : AlarmId) (e : Entry) :
    (s.setEntry i e).siteDerate = s.siteDerate := rfl

@[simp] theorem State.setEntry_line (s : State) (i : AlarmId) (e : Entry) :
    (s.setEntry i e).line = s.line := rfl

@[simp] theorem State.setEntry_sensors (s : State) (i : AlarmId) (e : Entry) :
    (s.setEntry i e).sensors = s.sensors := rfl

@[simp] theorem State.setEntry_cycle (s : State) (i : AlarmId) (e : Entry) :
    (s.setEntry i e).cycle = s.cycle := rfl

@[simp] theorem State.setEntry_wind (s : State) (i : AlarmId) (e : Entry) :
    (s.setEntry i e).wind = s.wind := rfl

@[simp] theorem State.setEntry_siteStop (s : State) (i : AlarmId) (e : Entry) :
    (s.setEntry i e).siteStop = s.siteStop := rfl

@[simp] theorem State.setEntry_sstopPin (s : State) (i : AlarmId) (e : Entry) :
    (s.setEntry i e).sstopPin = s.sstopPin := rfl

@[simp] theorem State.setEntry_vane (s : State) (i : AlarmId) (e : Entry) :
    (s.setEntry i e).vane = s.vane := rfl

@[simp] theorem State.setEntry_clock (s : State) (i : AlarmId) (e : Entry) :
    (s.setEntry i e).clock = s.clock := rfl

@[simp] theorem State.setEntry_tickInterval (s : State) (i : AlarmId) (e : Entry) :
    (s.setEntry i e).tickInterval = s.tickInterval := rfl

@[simp] theorem State.setEntry_bookings (s : State) (i : AlarmId) (e : Entry) :
    (s.setEntry i e).bookings = s.bookings := rfl

@[simp] theorem State.setEntry_nextNumber (s : State) (i : AlarmId) (e : Entry) :
    (s.setEntry i e).nextNumber = s.nextNumber := rfl

@[simp] theorem State.setEntry_alarms (s : State) (i : AlarmId) (e : Entry) :
    (s.setEntry i e).alarms = s.alarms.set i e := rfl

@[simp] theorem State.setEntry_attn (s : State) (i : AlarmId) (e : Entry) :
    (s.setEntry i e).attn = attnOf (s.alarms.set i e) := rfl

@[simp] theorem State.setEntry_enrolTag (s : State) (i : AlarmId) (e : Entry) :
    (s.setEntry i e).enrolTag = s.enrolTag := rfl

@[simp] theorem State.setEntry_handling (s : State) (i : AlarmId) (e : Entry) :
    (s.setEntry i e).handling = s.handling := rfl

@[simp] theorem State.setEntry_held (s : State) (i : AlarmId) (e : Entry) :
    (s.setEntry i e).held = s.held := rfl

@[simp] theorem State.setEntry_tx (s : State) (i : AlarmId) (e : Entry) :
    (s.setEntry i e).tx = s.tx := rfl

@[simp] theorem State.setEntry_rx (s : State) (i : AlarmId) (e : Entry) :
    (s.setEntry i e).rx = s.rx := rfl

@[simp] theorem State.setEntry_choices (s : State) (i : AlarmId) (e : Entry) :
    (s.setEntry i e).choices = s.choices := rfl

@[simp] theorem State.setEntry_pending (s : State) (i : AlarmId) (e : Entry) :
    (s.setEntry i e).pending = s.pending := rfl

/-! ### send -/

@[simp] theorem State.send_plan (s : State) (l : Link) (fs : List Frame) :
    (s.send l fs).plan = s.plan := rfl

@[simp] theorem State.send_ctx (s : State) (l : Link) (fs : List Frame) :
    (s.send l fs).ctx = s.ctx := rfl

@[simp] theorem State.send_arb (s : State) (l : Link) (fs : List Frame) :
    (s.send l fs).arb = s.arb := rfl

@[simp] theorem State.send_zones (s : State) (l : Link) (fs : List Frame) :
    (s.send l fs).zones = s.zones := rfl

@[simp] theorem State.send_lim (s : State) (l : Link) (fs : List Frame) :
    (s.send l fs).lim = s.lim := rfl

@[simp] theorem State.send_siteDerate (s : State) (l : Link) (fs : List Frame) :
    (s.send l fs).siteDerate = s.siteDerate := rfl

@[simp] theorem State.send_line (s : State) (l : Link) (fs : List Frame) :
    (s.send l fs).line = s.line := rfl

@[simp] theorem State.send_sensors (s : State) (l : Link) (fs : List Frame) :
    (s.send l fs).sensors = s.sensors := rfl

@[simp] theorem State.send_cycle (s : State) (l : Link) (fs : List Frame) :
    (s.send l fs).cycle = s.cycle := rfl

@[simp] theorem State.send_wind (s : State) (l : Link) (fs : List Frame) :
    (s.send l fs).wind = s.wind := rfl

@[simp] theorem State.send_siteStop (s : State) (l : Link) (fs : List Frame) :
    (s.send l fs).siteStop = s.siteStop := rfl

@[simp] theorem State.send_sstopPin (s : State) (l : Link) (fs : List Frame) :
    (s.send l fs).sstopPin = s.sstopPin := rfl

@[simp] theorem State.send_vane (s : State) (l : Link) (fs : List Frame) :
    (s.send l fs).vane = s.vane := rfl

@[simp] theorem State.send_clock (s : State) (l : Link) (fs : List Frame) :
    (s.send l fs).clock = s.clock := rfl

@[simp] theorem State.send_tickInterval (s : State) (l : Link) (fs : List Frame) :
    (s.send l fs).tickInterval = s.tickInterval := rfl

@[simp] theorem State.send_bookings (s : State) (l : Link) (fs : List Frame) :
    (s.send l fs).bookings = s.bookings := rfl

@[simp] theorem State.send_nextNumber (s : State) (l : Link) (fs : List Frame) :
    (s.send l fs).nextNumber = s.nextNumber := rfl

@[simp] theorem State.send_alarms (s : State) (l : Link) (fs : List Frame) :
    (s.send l fs).alarms = s.alarms := rfl

@[simp] theorem State.send_attn (s : State) (l : Link) (fs : List Frame) :
    (s.send l fs).attn = s.attn := rfl

@[simp] theorem State.send_enrolTag (s : State) (l : Link) (fs : List Frame) :
    (s.send l fs).enrolTag = s.enrolTag := rfl

@[simp] theorem State.send_handling (s : State) (l : Link) (fs : List Frame) :
    (s.send l fs).handling = s.handling := rfl

@[simp] theorem State.send_held (s : State) (l : Link) (fs : List Frame) :
    (s.send l fs).held = s.held := rfl

@[simp] theorem State.send_tx (s : State) (l : Link) (fs : List Frame) :
    (s.send l fs).tx = s.tx.set l (fs.foldl Tx.push (s.tx.get l)) := rfl

@[simp] theorem State.send_rx (s : State) (l : Link) (fs : List Frame) :
    (s.send l fs).rx = s.rx := rfl

@[simp] theorem State.send_choices (s : State) (l : Link) (fs : List Frame) :
    (s.send l fs).choices = s.choices := rfl

@[simp] theorem State.send_pending (s : State) (l : Link) (fs : List Frame) :
    (s.send l fs).pending = s.pending := rfl

/-! ### putBooking -/

@[simp] theorem State.putBooking_plan (s : State) (b : Booking) :
    (s.putBooking b).plan = s.plan := rfl

@[simp] theorem State.putBooking_ctx (s : State) (b : Booking) :
    (s.putBooking b).ctx = s.ctx := rfl

@[simp] theorem State.putBooking_arb (s : State) (b : Booking) :
    (s.putBooking b).arb = s.arb := rfl

@[simp] theorem State.putBooking_zones (s : State) (b : Booking) :
    (s.putBooking b).zones = s.zones := rfl

@[simp] theorem State.putBooking_lim (s : State) (b : Booking) :
    (s.putBooking b).lim = s.lim := rfl

@[simp] theorem State.putBooking_siteDerate (s : State) (b : Booking) :
    (s.putBooking b).siteDerate = s.siteDerate := rfl

@[simp] theorem State.putBooking_line (s : State) (b : Booking) :
    (s.putBooking b).line = s.line := rfl

@[simp] theorem State.putBooking_sensors (s : State) (b : Booking) :
    (s.putBooking b).sensors = s.sensors := rfl

@[simp] theorem State.putBooking_cycle (s : State) (b : Booking) :
    (s.putBooking b).cycle = s.cycle := rfl

@[simp] theorem State.putBooking_wind (s : State) (b : Booking) :
    (s.putBooking b).wind = s.wind := rfl

@[simp] theorem State.putBooking_siteStop (s : State) (b : Booking) :
    (s.putBooking b).siteStop = s.siteStop := rfl

@[simp] theorem State.putBooking_sstopPin (s : State) (b : Booking) :
    (s.putBooking b).sstopPin = s.sstopPin := rfl

@[simp] theorem State.putBooking_vane (s : State) (b : Booking) :
    (s.putBooking b).vane = s.vane := rfl

@[simp] theorem State.putBooking_clock (s : State) (b : Booking) :
    (s.putBooking b).clock = s.clock := rfl

@[simp] theorem State.putBooking_tickInterval (s : State) (b : Booking) :
    (s.putBooking b).tickInterval = s.tickInterval := rfl

@[simp] theorem State.putBooking_bookings (s : State) (b : Booking) :
    (s.putBooking b).bookings = s.bookings.map fun c => if c.number = b.number then b else c := rfl

@[simp] theorem State.putBooking_nextNumber (s : State) (b : Booking) :
    (s.putBooking b).nextNumber = s.nextNumber := rfl

@[simp] theorem State.putBooking_alarms (s : State) (b : Booking) :
    (s.putBooking b).alarms = s.alarms := rfl

@[simp] theorem State.putBooking_attn (s : State) (b : Booking) :
    (s.putBooking b).attn = s.attn := rfl

@[simp] theorem State.putBooking_enrolTag (s : State) (b : Booking) :
    (s.putBooking b).enrolTag = s.enrolTag := rfl

@[simp] theorem State.putBooking_handling (s : State) (b : Booking) :
    (s.putBooking b).handling = s.handling := rfl

@[simp] theorem State.putBooking_held (s : State) (b : Booking) :
    (s.putBooking b).held = s.held := rfl

@[simp] theorem State.putBooking_tx (s : State) (b : Booking) :
    (s.putBooking b).tx = s.tx := rfl

@[simp] theorem State.putBooking_rx (s : State) (b : Booking) :
    (s.putBooking b).rx = s.rx := rfl

@[simp] theorem State.putBooking_choices (s : State) (b : Booking) :
    (s.putBooking b).choices = s.choices := rfl

@[simp] theorem State.putBooking_pending (s : State) (b : Booking) :
    (s.putBooking b).pending = s.pending := rfl

/-! ### dropBooking -/

@[simp] theorem State.dropBooking_plan (s : State) (num : Nat) :
    (s.dropBooking num).plan = s.plan := rfl

@[simp] theorem State.dropBooking_ctx (s : State) (num : Nat) :
    (s.dropBooking num).ctx = s.ctx := rfl

@[simp] theorem State.dropBooking_arb (s : State) (num : Nat) :
    (s.dropBooking num).arb = s.arb := rfl

@[simp] theorem State.dropBooking_zones (s : State) (num : Nat) :
    (s.dropBooking num).zones = s.zones := rfl

@[simp] theorem State.dropBooking_lim (s : State) (num : Nat) :
    (s.dropBooking num).lim = s.lim := rfl

@[simp] theorem State.dropBooking_siteDerate (s : State) (num : Nat) :
    (s.dropBooking num).siteDerate = s.siteDerate := rfl

@[simp] theorem State.dropBooking_line (s : State) (num : Nat) :
    (s.dropBooking num).line = s.line := rfl

@[simp] theorem State.dropBooking_sensors (s : State) (num : Nat) :
    (s.dropBooking num).sensors = s.sensors := rfl

@[simp] theorem State.dropBooking_cycle (s : State) (num : Nat) :
    (s.dropBooking num).cycle = s.cycle := rfl

@[simp] theorem State.dropBooking_wind (s : State) (num : Nat) :
    (s.dropBooking num).wind = s.wind := rfl

@[simp] theorem State.dropBooking_siteStop (s : State) (num : Nat) :
    (s.dropBooking num).siteStop = s.siteStop := rfl

@[simp] theorem State.dropBooking_sstopPin (s : State) (num : Nat) :
    (s.dropBooking num).sstopPin = s.sstopPin := rfl

@[simp] theorem State.dropBooking_vane (s : State) (num : Nat) :
    (s.dropBooking num).vane = s.vane := rfl

@[simp] theorem State.dropBooking_clock (s : State) (num : Nat) :
    (s.dropBooking num).clock = s.clock := rfl

@[simp] theorem State.dropBooking_tickInterval (s : State) (num : Nat) :
    (s.dropBooking num).tickInterval = s.tickInterval := rfl

@[simp] theorem State.dropBooking_bookings (s : State) (num : Nat) :
    (s.dropBooking num).bookings = s.bookings.filter fun c => c.number ≠ num := rfl

@[simp] theorem State.dropBooking_nextNumber (s : State) (num : Nat) :
    (s.dropBooking num).nextNumber = s.nextNumber := rfl

@[simp] theorem State.dropBooking_alarms (s : State) (num : Nat) :
    (s.dropBooking num).alarms = s.alarms := rfl

@[simp] theorem State.dropBooking_attn (s : State) (num : Nat) :
    (s.dropBooking num).attn = s.attn := rfl

@[simp] theorem State.dropBooking_enrolTag (s : State) (num : Nat) :
    (s.dropBooking num).enrolTag = s.enrolTag := rfl

@[simp] theorem State.dropBooking_handling (s : State) (num : Nat) :
    (s.dropBooking num).handling = s.handling := rfl

@[simp] theorem State.dropBooking_held (s : State) (num : Nat) :
    (s.dropBooking num).held = s.held := rfl

@[simp] theorem State.dropBooking_tx (s : State) (num : Nat) :
    (s.dropBooking num).tx = s.tx := rfl

@[simp] theorem State.dropBooking_rx (s : State) (num : Nat) :
    (s.dropBooking num).rx = s.rx := rfl

@[simp] theorem State.dropBooking_choices (s : State) (num : Nat) :
    (s.dropBooking num).choices = s.choices := rfl

@[simp] theorem State.dropBooking_pending (s : State) (num : Nat) :
    (s.dropBooking num).pending = s.pending := rfl

end Sys2Proof.Machine
end

