-- ==== Sys2Proof/Laws/Work.lean ====
section
/-! SUPPORT. What the shared operations can write, said once for each: the work that follows a change of
holders (`holderWork`), the work on the zones and the bookings (`zoneWork`), and how a request is
handled and answered. A statement about a command cites these in place of unfolding the operations. -/

namespace Sys2Proof.Machine

open Sys2Proof.Safety

/-! ### The two kinds of work compose -/

theorem holderWork_refl (s : State) : holderWork s s := ⟨rfl, fun _ => ⟨rfl, rfl⟩⟩

theorem zoneWork_refl (s : State) : zoneWork s s := ⟨rfl, fun _ => ⟨rfl, rfl⟩⟩

theorem holderWork_trans {s t u : State} (h : holderWork s t) (k : holderWork t u) :
    holderWork s u := by
  obtain ⟨h, h'⟩ := h
  obtain ⟨k, k'⟩ := k
  refine ⟨?_, fun m => ⟨?_, (k' m).2.trans (h' m).2⟩⟩
  · calc u = { t with ctx := u.ctx, arb := u.arb, lim := u.lim, vane := u.vane, alarms := u.alarms,
                           attn := u.attn, handling := u.handling, held := u.held, tx := u.tx,
                           rx := u.rx } := k
      _ = { s with ctx := u.ctx, arb := u.arb, lim := u.lim, vane := u.vane, alarms := u.alarms,
                           attn := u.attn, handling := u.handling, held := u.held, tx := u.tx,
                           rx := u.rx } := by rw [h]
  · rw [(k' m).1, (h' m).1]

theorem zoneWork_trans {s t u : State} (h : zoneWork s t) (k : zoneWork t u) : zoneWork s u := by
  obtain ⟨h, h'⟩ := h
  obtain ⟨k, k'⟩ := k
  refine ⟨?_, fun m => ⟨?_, (k' m).2.trans (h' m).2⟩⟩
  · calc u = { t with ctx := u.ctx, arb := u.arb, zones := u.zones, lim := u.lim, vane := u.vane,
                           bookings := u.bookings, alarms := u.alarms, attn := u.attn,
                           handling := u.handling, held := u.held, tx := u.tx, rx := u.rx } := k
      _ = { s with ctx := u.ctx, arb := u.arb, zones := u.zones, lim := u.lim, vane := u.vane,
                           bookings := u.bookings, alarms := u.alarms, attn := u.attn,
                           handling := u.handling, held := u.held, tx := u.tx, rx := u.rx } := by rw [h]
  · rw [(k' m).1, (h' m).1]

/-- Work that follows a change of holders is work on the zones that leaves them alone. -/
theorem zoneWork_of_holderWork {s t : State} (h : holderWork s t) : zoneWork s t := by
  obtain ⟨h, h'⟩ := h
  refine ⟨?_, fun m => ⟨?_, (h' m).2⟩⟩
  · cases s; cases t
    simp only [State.mk.injEq] at h ⊢
    simp_all
  · conv_lhs => rw [(h' m).1]
    rw [(h' m).1]

/-- A fold of steps that each stand in a reflexive and transitive relation stands in it. -/
theorem foldl_related {α β : Type} {R : α → α → Prop} (refl : ∀ a, R a a)
    (trans : ∀ {a b c}, R a b → R b c → R a c) {f : α → β → α} (h : ∀ a b, R a (f a b))
    (a : α) (bs : List β) : R a (bs.foldl f a) := by
  induction bs generalizing a with
  | nil => exact refl a
  | cons b bs ih => exact trans (h a b) (ih (f a b))

theorem holderWork_foldl {β : Type} {f : State → β → State} (h : ∀ s b, holderWork s (f s b))
    (s : State) (bs : List β) : holderWork s (bs.foldl f s) :=
  foldl_related holderWork_refl holderWork_trans h s bs

theorem zoneWork_foldl {β : Type} {f : State → β → State} (h : ∀ s b, zoneWork s (f s b))
    (s : State) (bs : List β) : zoneWork s (bs.foldl f s) :=
  foldl_related zoneWork_refl zoneWork_trans h s bs

/-! ### Frames on the links -/

@[simp] theorem Tx.push_idle (f : Frame) : Tx.idle.push f = { sending := some f, waiting := [] } :=
  rfl

theorem Tx.push_sending {t : Tx} {g : Frame} (h : t.sending = some g) (f : Frame) :
    t.push f = { t with waiting := t.waiting ++ [f] } := by simp [Tx.push, h]

@[simp] theorem State.send_nil (s : State) (l : Link) : s.send l [] = s := by
  cases l with
  | supervisor => rfl
  | crane n => cases n <;> rfl

theorem State.send_append (s : State) (l : Link) (fs gs : List Frame) :
    s.send l (fs ++ gs) = (s.send l fs).send l gs := by
  cases l with
  | supervisor => simp [State.send, State.setTx, PerLink.get, PerLink.set]
  | crane n =>
    cases n <;>
      simp [State.send, State.setTx, PerLink.get, PerLink.set, PerStation.get, PerStation.set]

/-- Raising a frame holds it back or sends it, and does nothing else. -/
theorem State.raise_cases (s : State) (l : Link) (f : Frame) :
    (s.handling = some l ∧ s.raise l f = { s with held := s.held ++ [f] }) ∨
      (s.handling ≠ some l ∧ s.raise l f = s.send l [f]) := by
  unfold State.raise
  split <;> simp_all

theorem holderWork_raise (s : State) (l : Link) (f : Frame) : holderWork s (s.raise l f) := by
  unfold State.raise
  split <;> exact ⟨rfl, fun _ => ⟨rfl, rfl⟩⟩

theorem holderWork_notify (s : State) (n : Station) (x : Notice) : holderWork s (s.notify n x) := by
  unfold State.notify
  split
  · exact holderWork_refl s
  · exact holderWork_raise _ _ _

/-! ### How a request is handled -/

/-- A request whose work answers a state and perhaps a frame: the frame goes first, and then what the
work raised on the link. -/
theorem State.handle_eq (s : State) (l : Link) (work : State → State × Option Frame)
    {t : State} {f : Option Frame}
    (h : work { s.setRx l .hunting with handling := some l, held := [] } = (t, f)) :
    s.handle l work = { t with handling := none, held := [] }.send l (f.toList ++ t.held) := by
  simp only [State.handle, h]

/-- A supervisor command that changes nothing but its answer is `replied`. -/
theorem State.command_answers (s : State) (tag cmd : Nat)
    (work : State → State × Code × Data) {u : State} {code : Code} {data : Data}
    (h : work { s.setRx .supervisor .hunting with handling := some .supervisor, held := [] } =
      ({ u.setRx .supervisor .hunting with handling := some .supervisor, held := [] },
        code, data)) :
    s.command tag cmd work = replied .supervisor (.answerSL tag cmd code data) u := by
  simp only [State.command, State.handle, h]
  rfl

/-- A request of a crane that changes nothing but its answer is `replied`. -/
theorem State.craneRequest_answers (s : State) (n : Station) (kind : Byte)
    (work : State → State × Code × Data) {u : State} {code : Code} {data : Data}
    (h : work { s.setRx (.crane n) .hunting with handling := some (.crane n), held := [] } =
      ({ u.setRx (.crane n) .hunting with handling := some (.crane n), held := [] },
        code, data)) :
    s.craneRequest n kind work = replied (.crane n) (.answer kind code data) u := by
  simp only [State.craneRequest, State.handle, h]
  rfl

/-! ### Alarms -/

theorem holderWork_setEntry (s : State) (i : AlarmId) (e : Entry) :
    holderWork s (s.setEntry i e) := ⟨rfl, fun _ => ⟨rfl, rfl⟩⟩

theorem holderWork_alarmBegins (s : State) (i : AlarmId) : holderWork s (s.alarmBegins i) := by
  unfold State.alarmBegins
  simp only
  split
  · exact holderWork_trans (holderWork_setEntry s i _) (holderWork_raise _ _ _)
  · exact holderWork_setEntry s i _

theorem holderWork_alarmEnds (s : State) (i : AlarmId) : holderWork s (s.alarmEnds i) :=
  holderWork_setEntry s i _

theorem holderWork_alarmIs (s : State) (i : AlarmId) (b : Bool) : holderWork s (s.alarmIs i b) := by
  unfold State.alarmIs
  split
  · exact holderWork_alarmBegins s i
  · exact holderWork_alarmEnds s i

/-! ### Limits and the motion permit -/

/-- The computation writes the Limit Unit's fields of its station alone, and not v_wind. -/
theorem State.recompute_cases (s : State) (n : Station) :
    ∃ l, s.recompute n = s.setLim n l ∧ l.vWind = (s.lim.get n).vWind := by
  unfold State.recompute
  simp only
  split
  · exact ⟨_, rfl, rfl⟩
  · split <;> exact ⟨_, rfl, rfl⟩

theorem holderWork_setLim (s : State) (n : Station) {l : LimitCtx}
    (h : l.vWind = (s.lim.get n).vWind) : holderWork s (s.setLim n l) := by
  refine ⟨rfl, fun m => ⟨rfl, ?_⟩⟩
  by_cases e : m = n
  · subst e; simpa using h
  · simp [e]

theorem holderWork_recompute (s : State) (n : Station) : holderWork s (s.recompute n) := by
  obtain ⟨l, e, h⟩ := s.recompute_cases n
  rw [e]
  exact holderWork_setLim s n h

theorem holderWork_setMp (s : State) (n : Station) (b : Bool) :
    holderWork s (s.setCtx n { s.ctx.get n with mp := b }) := by
  refine ⟨rfl, fun m => ⟨?_, rfl⟩⟩
  by_cases e : m = n
  · subst e; simp
  · simp [e]

/-- The permit is re-evaluated: nothing changes, or the line does and the limits are computed. -/
theorem State.reevalPermit_cases (s : State) (n : Station) :
    (s.permit n = (s.ctx.get n).mp ∧ s.reevalPermit n = s) ∨
      (s.permit n ≠ (s.ctx.get n).mp ∧ s.reevalPermit n =
        (s.setCtx n { s.ctx.get n with mp := s.permit n }).recompute n) := by
  unfold State.reevalPermit
  simp only
  split <;> simp_all

theorem holderWork_reevalPermit (s : State) (n : Station) : holderWork s (s.reevalPermit n) := by
  rcases s.reevalPermit_cases n with ⟨-, e⟩ | ⟨-, e⟩ <;> rw [e]
  · exact holderWork_refl s
  · exact holderWork_trans (holderWork_setMp s n _) (holderWork_recompute _ n)

/-! ### After a change of holders -/

theorem holderWork_setVane (s : State) (n : Station) (c : VaneCtx) :
    holderWork s (s.setVane n c) := ⟨rfl, fun _ => ⟨rfl, rfl⟩⟩

theorem holderWork_setArb (s : State) (n : Station) (c : ArbiterCtx) :
    holderWork s (s.setArb n c) := ⟨rfl, fun _ => ⟨rfl, rfl⟩⟩

theorem holderWork_setOverdue (s : State) (n : Station) (b : Bool) :
    holderWork s (s.setOverdue n b) := by
  unfold State.setOverdue
  simp only
  split
  · exact holderWork_refl s
  · exact holderWork_trans (holderWork_setVane s n _) (holderWork_alarmIs _ _ _)

theorem holderWork_judgeClear (s : State) (n : Station) : holderWork s (s.judgeClear n) := by
  unfold State.judgeClear
  simp only
  split
  · exact holderWork_trans (holderWork_setVane s n _) (holderWork_setOverdue _ n false)
  · exact holderWork_refl s

theorem holderWork_judgeSwingLine (s : State) (n : Station) (z : Zone) :
    holderWork s (s.judgeSwingLine n z) := by
  unfold State.judgeSwingLine
  simp only
  split
  · exact holderWork_setVane s n _
  · exact holderWork_refl s

theorem holderWork_holderTold (s : State) (z : Zone) : holderWork s (s.holderTold z) :=
  holderWork_foldl (fun s m => holderWork_trans (holderWork_judgeClear s m)
    (holderWork_judgeSwingLine _ m z)) s _

theorem holderWork_latchIntrusion (s : State) (n : Station) :
    holderWork s (s.latchIntrusion n) := by
  unfold State.latchIntrusion
  simp only
  split
  · exact holderWork_refl s
  · exact holderWork_trans (holderWork_trans (holderWork_setArb s n _)
      (holderWork_alarmBegins _ _)) (holderWork_reevalPermit _ n)

theorem holderWork_reevalConflict (s : State) (n : Station) :
    holderWork s (s.reevalConflict n) := by
  unfold State.reevalConflict
  simp only
  split
  · exact holderWork_refl s
  · exact holderWork_trans (holderWork_trans (holderWork_setArb s n _)
      (holderWork_alarmIs _ _ _)) (holderWork_reevalPermit _ n)

theorem holderWork_recoveryTest (s : State) (n : Station) : holderWork s (s.recoveryTest n) := by
  unfold State.recoveryTest
  simp only
  split
  · exact holderWork_trans (holderWork_trans (holderWork_setArb s n _)
      (holderWork_alarmEnds _ _)) (holderWork_reevalPermit _ n)
  · exact holderWork_refl s

theorem holderWork_holderChanged (s : State) (z : Zone) : holderWork s (s.holderChanged z) :=
  holderWork_trans (holderWork_holderTold s z) (holderWork_foldl holderWork_reevalConflict _ _)

/-! ### Zones -/

/-- Changing a zone's record changes that record alone, and nothing when there is none. -/
theorem State.modZone_get (s : State) (z y : Zone) (f : ZoneDyn → ZoneDyn) :
    (s.modZone z f).zones.get y = if y = z then (s.zones.get z).map f else s.zones.get y := by
  unfold State.modZone
  split
  · rename_i d h
    by_cases e : y = z
    · subst e; simp [h]
    · simp [e]
  · rename_i h
    by_cases e : y = z
    · subst e; simp [h]
    · simp [e]

/-- Changing a zone's record writes the zone table and nothing else. -/
theorem State.modZone_frame (s : State) (z : Zone) (f : ZoneDyn → ZoneDyn) :
    s.modZone z f = { s with zones := (s.modZone z f).zones } := by
  unfold State.modZone
  split <;> rfl

theorem zoneWork_modZone (s : State) (z : Zone) (f : ZoneDyn → ZoneDyn) :
    zoneWork s (s.modZone z f) := by
  rw [s.modZone_frame z f]
  exact ⟨rfl, fun _ => ⟨rfl, rfl⟩⟩

theorem zoneWork_setBookings (s : State) (bs : List Booking) : zoneWork s (s.setBookings bs) :=
  ⟨rfl, fun _ => ⟨rfl, rfl⟩⟩

theorem zoneWork_bookingPassed (s : State) (num : Nat) (z : Zone) :
    zoneWork s (s.bookingPassed num z) := by
  unfold State.bookingPassed
  split
  · exact zoneWork_setBookings s _
  · exact zoneWork_refl s

/-- What follows a grant leaves the zone table and the booking table alone. -/
theorem holderWork_granted (s : State) (z : Zone) (n : Station) (kind : GrantKind) :
    holderWork s (s.granted z n kind) :=
  holderWork_trans (holderWork_trans (holderWork_notify s n _) (holderWork_holderChanged _ z))
    (holderWork_recoveryTest _ n)

theorem zoneWork_grantOrdinary (s : State) (z : Zone) (n : Station) :
    zoneWork s (s.grantOrdinary z n) :=
  zoneWork_trans (zoneWork_modZone s z _) (zoneWork_of_holderWork (holderWork_granted _ z n _))

theorem zoneWork_grantBooked (s : State) (z : Zone) (n : Station) :
    zoneWork s (s.grantBooked z n) :=
  zoneWork_trans (zoneWork_modZone s z _) (zoneWork_of_holderWork (holderWork_granted _ z n _))

theorem zoneWork_serve (s : State) (z : Zone) : zoneWork s (s.serve z) := by
  unfold State.serve
  split
  · exact zoneWork_refl s
  · split
    · exact zoneWork_refl s
    · split
      · split
        · exact zoneWork_trans (zoneWork_grantBooked s z _) (zoneWork_bookingPassed _ _ _)
        · exact zoneWork_refl s
      · exact zoneWork_refl s
    · split
      · exact zoneWork_refl s
      · exact zoneWork_grantOrdinary s z _
    · exact zoneWork_refl s

theorem zoneWork_serveMemberZones (s : State) (n : Station) :
    zoneWork s (s.serveMemberZones n) := zoneWork_foldl zoneWork_serve s _

theorem zoneWork_serveAt (s : State) (z : Zone) (n : Station) : zoneWork s (s.serveAt z n) :=
  zoneWork_trans (zoneWork_serve s z) (zoneWork_serveMemberZones _ n)

theorem zoneWork_adoptZone (s : State) (z : Zone) (n : Station) : zoneWork s (s.adoptZone z n) := by
  unfold State.adoptZone
  split
  · split
    · exact zoneWork_trans (zoneWork_trans (zoneWork_modZone s z _) (zoneWork_bookingPassed _ _ _))
        (zoneWork_of_holderWork (holderWork_granted _ z n _))
    · exact zoneWork_trans (zoneWork_modZone s z _)
        (zoneWork_of_holderWork (holderWork_granted _ z n _))
  · exact zoneWork_trans (zoneWork_modZone s z _)
      (zoneWork_of_holderWork (holderWork_granted _ z n _))

theorem zoneWork_adopt (s : State) (n : Station) : zoneWork s (s.adopt n) := by
  refine zoneWork_foldl (fun s z => ?_) s _
  unfold State.adoptOne
  split
  · exact zoneWork_refl s
  · split
    · exact zoneWork_adoptZone s z n
    · exact zoneWork_of_holderWork (holderWork_latchIntrusion s n)

theorem zoneWork_sweepAdd (s : State) (n : Station) : zoneWork s (s.sweepAdd n) :=
  zoneWork_foldl (fun s z => zoneWork_modZone s z _) s _

theorem zoneWork_sweepRemove (s : State) (n : Station) : zoneWork s (s.sweepRemove n) :=
  zoneWork_trans
    (zoneWork_trans (zoneWork_foldl (fun s z => zoneWork_modZone s z _) s _)
      (zoneWork_serveMemberZones _ n))
    (zoneWork_foldl (fun s h => zoneWork_of_holderWork (holderWork_reevalConflict s h)) _ _)

theorem zoneWork_judgeEntry (s : State) (n : Station) : zoneWork s (s.judgeEntry n) := by
  refine zoneWork_foldl (fun s z => ?_) s _
  split
  · exact zoneWork_modZone s z _
  · exact zoneWork_refl s

theorem zoneWork_judgeDwells (s : State) (n : Station) : zoneWork s (s.judgeDwells n) :=
  zoneWork_foldl (fun s z => zoneWork_modZone s z _) s _

theorem holderWork_judgeIntrusion (s : State) (n : Station) :
    holderWork s (s.judgeIntrusion n) := by
  unfold State.judgeIntrusion
  split
  · exact holderWork_refl s
  · exact holderWork_latchIntrusion s n

theorem holderWork_judgeConflicts (s : State) (n : Station) :
    holderWork s (s.judgeConflicts n) := holderWork_foldl holderWork_reevalConflict s _

/-- Judging a report is work on the zones and the bookings (R58). -/
theorem zoneWork_judgeReport (s : State) (n : Station) (joined : Bool) :
    zoneWork s (s.judgeReport n joined) := by
  have joins : zoneWork s (if joined = true then s.adopt n else s) := by
    split
    · exact zoneWork_adopt s n
    · exact zoneWork_refl s
  have entry := zoneWork_trans joins (zoneWork_judgeEntry _ n)
  have last : ∀ t : State, zoneWork s t →
      zoneWork s (((t.judgeDwells n).judgeConflicts n).recoveryTest n) := fun t h =>
    zoneWork_trans (zoneWork_trans h (zoneWork_judgeDwells t n))
      (zoneWork_of_holderWork (holderWork_trans (holderWork_judgeConflicts _ n)
        (holderWork_recoveryTest _ n)))
  unfold State.judgeReport
  dsimp only
  refine last _ ?_
  generalize State.judgeEntry _ n = t at entry ⊢
  split
  · exact entry
  · exact zoneWork_trans entry (zoneWork_of_holderWork (holderWork_judgeIntrusion t n))

/-! ### Bookings -/

theorem zoneWork_reserve (s : State) (num : Nat) (zs : List Zone) : zoneWork s (s.reserve num zs) :=
  zoneWork_foldl (fun s z => zoneWork_modZone s z _) s zs

theorem zoneWork_liftReservations (s : State) (zs : List Zone) :
    zoneWork s (s.liftReservations zs) :=
  zoneWork_trans (zoneWork_foldl (fun s z => zoneWork_modZone s z _) s zs)
    (zoneWork_foldl zoneWork_serve _ zs)

theorem zoneWork_openZone (b : Station) (s : State) (z : Zone) : zoneWork s (s.openZone b z) := by
  unfold State.openZone
  split
  · split <;> exact zoneWork_modZone s z _
  · split
    · exact zoneWork_modZone s z _
    · exact zoneWork_grantBooked s z b

theorem zoneWork_openBooking (s : State) (b : Booking) (remaining ends : Nat) :
    zoneWork s (s.openBooking b remaining ends) :=
  zoneWork_trans
    (zoneWork_trans (zoneWork_setBookings s _) (zoneWork_foldl (zoneWork_openZone b.station) _ _))
    (zoneWork_setBookings _ _)

theorem zoneWork_setLastEnded (s : State) (n : Station) (e : Option LastEnded) :
    zoneWork s (s.setCtx n { s.ctx.get n with lastEnded := e }) := by
  refine ⟨rfl, fun m => ⟨?_, rfl⟩⟩
  by_cases h : m = n
  · subst h; simp
  · simp [h]

/-- The end of a booking is work on the zones and the bookings (R171). -/
theorem zoneWork_endBooking (s : State) (b : Booking) (e : Ending) :
    zoneWork s (s.endBooking b e) := by
  unfold State.endBooking
  simp only
  have lifted : zoneWork s
      (if b.state = .pending then b.zones.foldl (State.endZone b) s
        else ((b.zones.foldl (State.endZone b) s).liftReservations b.zones).serveMemberZones
          b.station) := by
    have ends : zoneWork s (b.zones.foldl (State.endZone b) s) :=
      zoneWork_foldl (fun s z => zoneWork_modZone s z _) s _
    split
    · exact ends
    · exact zoneWork_trans (zoneWork_trans ends (zoneWork_liftReservations _ _))
        (zoneWork_serveMemberZones _ _)
  have told := fun (u : State) (x : Notice) (f : Frame) =>
    zoneWork_of_holderWork (holderWork_trans (holderWork_notify u b.station x)
      (holderWork_raise _ .supervisor f))
  split
  · exact zoneWork_trans (zoneWork_trans (zoneWork_trans lifted (zoneWork_setLastEnded _ _ _))
      (told _ _ _)) (zoneWork_setBookings _ _)
  · exact zoneWork_trans (zoneWork_trans (zoneWork_trans lifted (zoneWork_setLastEnded _ _ _))
      (told _ _ _)) (zoneWork_setBookings _ _)

theorem zoneWork_startBooking (s : State) (b : Booking) : zoneWork s (s.startBooking b) := by
  unfold State.startBooking
  split
  · exact zoneWork_setBookings s _
  · split
    · exact zoneWork_setBookings s _
    · exact zoneWork_setBookings s _
    · exact zoneWork_openBooking s b _ _
    · exact zoneWork_openBooking s b _ _

/-- A step of the booking timeline over the table is the step over its bookings in turn. -/
theorem zoneWork_overBookings (s : State) (sel : Nat → Bool) {f : State → Booking → State}
    (h : ∀ s b, zoneWork s (f s b)) : zoneWork s (s.overBookings sel f) := by
  refine zoneWork_foldl (fun s num => ?_) s _
  split
  · exact h s _
  · exact zoneWork_refl s

theorem zoneWork_stepRemaining (s : State) (b : Booking) : zoneWork s (s.stepRemaining b) := by
  unfold State.stepRemaining
  split
  · split
    · exact zoneWork_endBooking s b _
    · exact zoneWork_refl s
  · exact zoneWork_refl s

theorem zoneWork_stepExpiry (s : State) (b : Booking) : zoneWork s (s.stepExpiry b) := by
  unfold State.stepExpiry
  split
  · exact zoneWork_refl s
  · split
    · exact zoneWork_endBooking s b _
    · exact zoneWork_refl s

theorem zoneWork_stepLead (s : State) (b : Booking) : zoneWork s (s.stepLead b) := by
  unfold State.stepLead
  split
  · exact zoneWork_trans (zoneWork_setBookings s _) (zoneWork_reserve _ _ _)
  · exact zoneWork_refl s

theorem zoneWork_stepStart (s : State) (b : Booking) : zoneWork s (s.stepStart b) := by
  unfold State.stepStart
  split
  · exact zoneWork_startBooking s b
  · exact zoneWork_refl s

theorem zoneWork_settleBookings (s : State) : zoneWork s s.settleBookings :=
  zoneWork_trans (zoneWork_trans (zoneWork_trans
    (zoneWork_overBookings s _ zoneWork_stepRemaining)
    (zoneWork_overBookings _ _ zoneWork_stepExpiry))
    (zoneWork_overBookings _ _ zoneWork_stepLead))
    (zoneWork_overBookings _ _ zoneWork_stepStart)

theorem zoneWork_loadRise (s : State) (n : Station) : zoneWork s (s.loadRise n) := by
  unfold State.loadRise
  split
  · split
    · exact zoneWork_openBooking _ _ _ _
    · exact zoneWork_openBooking _ _ _ _
    · exact zoneWork_refl _
    · exact zoneWork_refl _
  · exact zoneWork_refl _

theorem zoneWork_stageToldBookings (s : State) (n : Station) (stage : Stage) :
    zoneWork s (s.stageToldBookings n stage) := by
  refine zoneWork_overBookings s _ fun s b => ?_
  unfold State.bookingStageTold
  split
  · exact zoneWork_endBooking s b _
  · exact zoneWork_endBooking s b _
  · split
    · exact zoneWork_endBooking s b _
    · exact zoneWork_openBooking s b _ _
  · split
    · exact zoneWork_endBooking s b _
    · exact zoneWork_openBooking s b _ _
  · exact zoneWork_refl s

/-! ### The shutdown sequence and the swing -/

theorem zoneWork_setVane (s : State) (n : Station) (c : VaneCtx) : zoneWork s (s.setVane n c) :=
  zoneWork_of_holderWork (holderWork_setVane s n c)

theorem zoneWork_clearNeighbours (s : State) (v : Station) : zoneWork s (s.clearNeighbours v) := by
  have asks : ∀ (s : State) (zh : Zone × Station), zoneWork s (State.requestClearance v s zh) := by
    intro s zh
    refine zoneWork_trans ?_ (zoneWork_of_holderWork (holderWork_notify _ _ _))
    unfold State.abortForClearance
    split
    · exact zoneWork_endBooking s _ _
    · exact zoneWork_refl s
  exact zoneWork_trans (zoneWork_foldl asks s _) (zoneWork_of_holderWork
    (holderWork_trans (holderWork_trans (holderWork_setVane _ v _)
      (holderWork_setOverdue _ v false)) (holderWork_judgeClear _ v)))

/-- Judging the shutdown sequence is work on the zones and the bookings (R131, R132, R139). -/
theorem zoneWork_judgeSequence (s : State) (v : Station) : zoneWork s (s.judgeSequence v) := by
  have begins : zoneWork s (s.beginSequence v) :=
    zoneWork_trans (zoneWork_setVane s v _) (zoneWork_clearNeighbours _ v)
  have ends : zoneWork s (s.endSequence v) :=
    zoneWork_trans (zoneWork_trans (zoneWork_setVane s v _)
      (zoneWork_of_holderWork (holderWork_setOverdue _ v false))) (zoneWork_serveMemberZones _ v)
  unfold State.judgeSequence
  split
  · split
    · exact begins
    · exact zoneWork_refl s
  · split
    · exact zoneWork_refl s
    · exact ends
  · split
    · exact zoneWork_refl s
    · exact ends
  · exact zoneWork_refl s

theorem zoneWork_unsafeCleared (s : State) (v : Station) : zoneWork s (s.unsafeCleared v) := by
  unfold State.unsafeCleared
  split
  · exact zoneWork_of_holderWork (holderWork_trans (holderWork_setVane s v _)
      (holderWork_reevalPermit _ v))
  · exact zoneWork_refl s

/-- Taking the brake state of a report is work on the zones and the bookings (R142). -/
theorem zoneWork_takeBrake (s : State) (v : Station) (released : Bool) :
    zoneWork s (s.takeBrake v released) := by
  have swing : ∀ s : State, zoneWork s (s.beginSwing v) := fun s =>
    zoneWork_trans (zoneWork_trans (zoneWork_sweepAdd s v) (zoneWork_setVane _ v _))
      (zoneWork_serveMemberZones _ v)
  have release : ∀ s : State, zoneWork s (s.unsafeRelease v) := fun s => by
    unfold State.unsafeRelease
    simp only
    refine zoneWork_trans ?_ (zoneWork_of_holderWork (holderWork_reevalPermit _ v))
    have vaning : ∀ c d, zoneWork s
        (((((s.setVane v c).alarmBegins (.unsafeVane v)).sweepAdd v)).setVane v d) := fun c d =>
      zoneWork_trans (zoneWork_trans (zoneWork_trans (zoneWork_setVane s v c)
        (zoneWork_of_holderWork (holderWork_alarmBegins _ _))) (zoneWork_sweepAdd _ v))
        (zoneWork_setVane _ v d)
    split
    · exact zoneWork_trans (zoneWork_trans (vaning _ _)
        (zoneWork_of_holderWork (holderWork_setOverdue _ v false))) (zoneWork_serveMemberZones _ v)
    · exact vaning _ _
  have ends : ∀ s : State, zoneWork s (s.endSwing v) := fun s => by
    unfold State.endSwing
    simp only
    refine zoneWork_trans (zoneWork_trans ?_ (zoneWork_of_holderWork (holderWork_alarmEnds _ _)))
      (zoneWork_unsafeCleared _ v)
    split
    · unfold State.swingToClearance
      simp only
      refine zoneWork_trans ?_ (zoneWork_sweepRemove _ v)
      split
      · exact zoneWork_setVane s v _
      · exact zoneWork_trans (zoneWork_setVane s v _) (zoneWork_clearNeighbours _ v)
    · exact zoneWork_trans (zoneWork_trans (zoneWork_setVane s v _) (zoneWork_adopt _ v))
        (zoneWork_sweepRemove _ v)
  unfold State.takeBrake
  simp only
  split
  · exact zoneWork_trans (zoneWork_setVane s v _) (swing _)
  · exact zoneWork_trans (zoneWork_setVane s v _) (release _)
  · exact zoneWork_trans (zoneWork_setVane s v _) (release _)
  · exact zoneWork_trans (zoneWork_setVane s v _) (ends _)
  all_goals exact zoneWork_setVane s v _

end Sys2Proof.Machine
end

