-- ==== Sys2Proof/WellFormed.lean ====
section
/-! DEFINITION. Well-formed commands: every operand is a value its bytes, its word or its wire can carry
(R193 .. R196, R199, section 11.6). A field in its width but out of its owner's range is well formed:
its owner refuses it. -/

namespace Sys2Proof

/-- The value fits in one byte. -/
def fits1 (v : Nat) : Bool := decide (v < 256)

/-- The value fits in two bytes. -/
def fits2 (v : Nat) : Bool := decide (v < 65536)

/-- The value fits in four bytes. -/
def fits4 (v : Nat) : Bool := decide (v < 4294967296)

/-- The amount fits in two bytes of two's complement. -/
def fitsAmount (v : Int) : Bool := decide (-32768 ≤ v) && decide (v ≤ 32767)

/-- The fields of a BOOK fit (section 11.4). -/
def WireBook.fits (f : WireBook) : Bool :=
  fits1 f.count && fits1 f.zone1 && fits1 f.zone2 && fits1 f.zone3 && fits1 f.zone4
    && fits1 f.mode && fits4 f.start && fits2 f.duration && fits2 f.lead && fits2 f.accept
    && fits4 f.period && fits1 f.occurrences

/-- The fields of a profile fit (R199). -/
def WireProfile.fits (p : WireProfile) : Bool :=
  fits2 p.decel && fits2 p.slewMargin && fits2 p.radialMargin && fits2 p.speedCap
    && fits1 p.inUse

/-- Three thresholds fit. -/
def PerLevel.fits (t : PerLevel) : Bool := fits2 t.caution && fits2 t.hold && fits2 t.shutdown

/-- The fields of a station record fit (R199). -/
def WireStation.fits (r : WireStation) : Bool :=
  fits1 r.enabled && fits4 r.identity && fits2 r.jibRadius && fits2 r.vRated && fits1 r.source
    && fits1 r.fixedIndex && r.profiles.toList.all WireProfile.fits && fits1 r.anemometers
    && r.gustAt.fits && r.meanAt.fits && fits2 r.hysteresis && fits1 r.persistence
    && fits2 r.dropDwell && fits2 r.derateCaution && fits2 r.derateHold && fits1 r.mode
    && fits1 r.rampDown && fits1 r.rampUp && fits2 r.reportTimeout && fits2 r.offlineDwell
    && fits2 r.entryTimeout && fits2 r.releaseDwell && fits1 r.loadStart

/-- The fields of a zone record fit: at most 35 entries of 7 bytes leave the frame within its length
(R192, R199). -/
def WireZone.fits (r : WireZone) : Bool :=
  fits1 r.enabled && decide (r.members.length ≤ 35)
    && r.members.all fun m => fits1 m.station && fits2 m.floor

/-- A frame whose check differs: a start byte, a length of at least 1 and as many bytes as it says, and
two check bytes that do not agree (R193). -/
def isBadCheckFrame (frame : List Byte) : Bool :=
  match frame with
  | 0xA5#8 :: bytes => collect bytes == .bad && bytes.length == 3 + (bytes.headD 0).toNat
  | _ => false

/-- A command is well formed. -/
def Instr.wellFormed : Instr → Bool
  | .powerOn | .tick | .windowClose | .echoWaitExpiry | .runWatchEnd | .sstopAsserted
  | .sstopWithdrawn | .atTimeCommitMoment => true
  | .windCycleReadingEnd slots => Addr.all.all fun a => decide ((slots.get a).length ≤ 13)
  | .checkingTimeout _ | .sensorSilent _ | .dropDwellExpiry _ | .clearanceTimerExpiry _
  | .reportTimerExpiry _ | .linkDwellExpiry _ | .entryTimerExpiry _ | .releaseDwellExpiry _ => true
  | .waitingFrameSent _ | .zeroLengthCollectionEnd _ => true
  | .bookingLead k | .bookingStart k | .bookingRemainingExpiry k | .acceptWindowExpiry k
  | .deferredWindowExpiry k => fits2 k
  | .timeMark t => decide (t < 100000)
  | .storeWriteEnd found => fits2 found.revision
  | .hello _ identity => fits4 identity
  | .position _ _ radius profile _ _ => decide (radius < 1024) && decide (profile < 8)
  | .hold _ zone | .release _ zone | .withdraw _ zone => fits1 zone
  | .book _ f => f.fits
  | .cancel _ k => fits2 k
  | .extend _ k amount => fits2 k && fitsAmount amount
  | .myZones _ first => fits1 first
  | .myBookings _ first => fits2 first
  | .badCheckFrame _ frame => isBadCheckFrame frame
  | .badKind link kind payload =>
    decide (payload.length ≤ 254)
      && classify link { kind, payload } == .badKind link kind payload
  | .badLength link kind payload =>
    decide (payload.length ≤ 254)
      && classify link { kind, payload } == .badLength link kind payload
  | .stageStation tag number f => fits1 tag && fits1 number && f.fits
  | .stageZone tag number f => fits1 tag && fits1 number && f.fits
  | .stageSite tag c d r => fits1 tag && fits2 c && fits2 d && fits1 r
  | .commit tag mode target => fits1 tag && fits1 mode && fits4 target
  | .restart tag | .restage tag | .cancelCommit tag | .store tag | .runLine tag | .stopLine tag
  | .startLine tag | .queryTime tag | .queryPlan tag | .queryAlarms tag => fits1 tag
  | .forceRelease tag v | .recover tag v | .enrolNext tag v | .sensorRestart tag v
  | .setRealign tag v | .queryStation tag v | .queryZone tag v | .querySensor tag v =>
    fits1 tag && fits1 v
  | .setTime tag t => fits1 tag && fits4 t
  | .setSiteDerate tag v | .supervisorCancel tag v | .lock tag v | .unlock tag v =>
    fits1 tag && fits2 v
  | .supervisorBook tag station locked f => fits1 tag && fits1 station && fits1 locked && f.fits
  | .supervisorExtend tag k amount => fits1 tag && fits2 k && fitsAmount amount
  | .queryBookings tag first filter => fits1 tag && fits2 first && fits1 filter
  | .readRecord tag image cls number =>
    fits1 tag && fits1 image && fits1 cls && fits1 number && (cls != 2 || number == 0)
  | .ackAlarm tag priority scope => fits1 tag && fits1 priority && fits1 scope

end Sys2Proof
end

