-- ==== Sys2Proof/Tests/Slice0.lean ====
section
/-! SUPPORT. Tests of the model on small states: the refusals of the well-formedness checks, the worked
examples of the manual, single steps with values read from it, and for every statement with hypotheses a
concrete state and operands that meet them. -/

namespace Sys2Proof.Tests

open Sys2Proof.Machine Sys2Proof.Safety

set_option maxRecDepth 20000

/-! ### A small site -/

/-- A crane's record: the empty plan's values, enabled, with anemometer 1 and load start. -/
def crane : StationRec :=
  { emptyStation with enabled := true, identity := 7, anemometers := ⟨true, false, false, false⟩,
                      loadStart := true }

/-- A zone that stations 1 and 2 share. -/
def pair : ZoneRec :=
  { enabled := true, members := [⟨.s1, 0x2000, 0x3FFF, 100⟩, ⟨.s2, 0xA000, 0xBFFF, 100⟩] }

/-- Two cranes that share zones 0 and 1. -/
def sitePlan : PlanImage :=
  { emptyPlan with stations := (emptyPlan.stations.set .s1 crane).set .s2 crane,
                   zones := (emptyPlan.zones.set 0 pair).set 1 pair }

/-- A crane that is ONLINE and stands outside both zones. -/
def onlineCtx : StationCtx :=
  { StationCtx.reset with
    link := .online, position := some ⟨0x1000, 400, false, false⟩, rise := some false,
    profile := some 0, reportTimer := .running 20, mp := true }

/-- The two cranes ONLINE, the zones FREE, the time set. -/
def site : State :=
  { State.reset with
    plan := { State.reset.plan with live := sitePlan, staged := sitePlan, invalid := false }
    ctx := ((PerStation.const StationCtx.reset).set .s1 onlineCtx).set .s2 onlineCtx
    zones := (State.reset.zones.set 0 (some .fresh)).set 1 (some .fresh)
    lim := ((PerStation.const LimitCtx.reset).set .s1 { LimitCtx.reset with vWind := 1000 }).set .s2
      { LimitCtx.reset with vWind := 1000 }
    clock := { State.reset.clock with time := 1000, timeSet := true }
    alarms := .cleared
    attn := false
    tx := .const .idle }

/-- The state after a command. -/
def after (i : Instr) (s : State) : State :=
  match exec i s with
  | .next t => t
  | .fault _ | .refused _ => s

/-- The frames on a link, the one being sent first. -/
def onLink (s : State) (l : Link) : List Frame :=
  (s.tx.get l).sending.toList ++ (s.tx.get l).waiting

/-- A booking of station 1 on zone 0. -/
def lift (b : BookingState) : Booking :=
  { number := 5, station := .s1, zones := [0], mode := .timed, start := 1100, duration := 60,
    lead := 50, locked := false, state := b }

/-- The site with bookings. -/
def booked (bs : List Booking) : State := { site with bookings := bs, nextNumber := 6 }

/-- The site with zone 0 held by station 2, inside it, and station 1 waiting. -/
def heldByTwo : State :=
  site.setZone 0 (some { ZoneDyn.fresh with hold := some ⟨.s2, .ordinary, true⟩, waiting := [.s1] })

/-- The site with zone 0 held by station 1, not yet entered. -/
def heldByOne : State :=
  site.setZone 0 (some { ZoneDyn.fresh with
    hold := some ⟨.s1, .ordinary, false⟩, entry := .running 30, waiting := [.s2] })

/-- Station 2 weathervaning, its zones swept and FREE. -/
def swinging : State :=
  let swept : ZoneDyn := { ZoneDyn.fresh with swept := (PerStation.const false).set .s2 true }
  { site with
    zones := (site.zones.set 0 (some swept)).set 1 (some swept)
    wind := site.wind.set .s2 { WindCtx.reset with stage := .shutdown }
    vane := site.vane.set .s2 { VaneCtx.reset with vane := .vaning, vc := true, lastReleased := true } }

theorem test_site_is_sound : sound site = true ∧ airspaceClosed site = true := by decide

/-! ### Well-formed commands: each check refuses a term -/

theorem test_wf_refuses_wide_byte : (Instr.hold .s1 256).wellFormed = false := by decide
theorem test_wf_refuses_wide_pair : (Instr.cancel .s1 65536).wellFormed = false := by decide
theorem test_wf_refuses_wide_identity : (Instr.hello .s1 4294967296).wellFormed = false := by decide
theorem test_wf_refuses_wide_amount :
    (Instr.extend .s1 5 32768).wellFormed = false ∧ (Instr.extend .s1 5 (-32769)).wellFormed = false :=
  by decide
theorem test_wf_refuses_long_slot :
    (Instr.windCycleReadingEnd (.const (List.replicate 14 true))).wellFormed = false := by decide
theorem test_wf_refuses_late_mark : (Instr.timeMark 100000).wellFormed = false := by decide
theorem test_wf_refuses_store_revision :
    (Instr.storeWriteEnd ⟨emptyPlan, 65536, 0⟩).wellFormed = false := by decide
theorem test_wf_refuses_wide_radius :
    (Instr.position .s1 0 1024 0 false false).wellFormed = false := by decide
theorem test_wf_refuses_wide_profile :
    (Instr.position .s1 0 0 8 false false).wellFormed = false := by decide
theorem test_wf_refuses_wide_booking :
    (Instr.book .s1 ⟨1, 0, 0, 0, 0, 0, 4294967296, 60, 0, 0, 0, 0⟩).wellFormed = false := by decide
theorem test_wf_refuses_wide_station_record :
    (Instr.stageStation 0 1 { readWireStation [] with anemometers := 256 }).wellFormed = false := by
  decide
theorem test_wf_refuses_wide_threshold :
    (Instr.stageStation 0 1 { readWireStation [] with gustAt := ⟨65536, 0, 0⟩ }).wellFormed = false :=
  by decide
theorem test_wf_refuses_wide_profile_record :
    (Instr.stageStation 0 1 { readWireStation [] with
      profiles := Vector.replicate 8 ⟨1, 0, 0, 0, 256⟩ }).wellFormed = false := by decide
theorem test_wf_refuses_long_member_list :
    (Instr.stageZone 0 1 ⟨1, List.replicate 36 ⟨1, 0, 0, 0⟩⟩).wellFormed = false := by decide
theorem test_wf_refuses_wide_member :
    (Instr.stageZone 0 1 ⟨1, [⟨256, 0, 0, 0⟩]⟩).wellFormed = false := by decide
theorem test_wf_refuses_frame_with_good_check :
    (Instr.badCheckFrame .supervisor (envelope [0x40, 1, 0x37])).wellFormed = false := by decide
theorem test_wf_refuses_known_kind : (Instr.badKind (.crane .s1) 0x03 [0]).wellFormed = false := by
  decide
theorem test_wf_refuses_right_length :
    (Instr.badLength (.crane .s1) 0x03 [0]).wellFormed = false := by decide
theorem test_wf_refuses_site_record_number :
    (Instr.readRecord 0 0 2 1).wellFormed = false := by decide
theorem test_wf_refuses_wide_tag : (Instr.restart 256).wellFormed = false := by decide
theorem test_wf_refuses_wide_time : (Instr.setTime 0 4294967296).wellFormed = false := by decide
theorem test_wf_refuses_wide_number :
    (Instr.bookingLead 65536).wellFormed = false ∧ (Instr.lock 0 65536).wellFormed = false := by decide
theorem test_wf_accepts :
    (Instr.position .s1 0xFFFF 1023 7 true true).wellFormed = true ∧
    (Instr.badKind (.crane .s1) 0x40 []).wellFormed = true ∧
    (Instr.badLength .supervisor 0x40 [1]).wellFormed = true ∧
    (Instr.badCheckFrame .supervisor [0xA5, 1, 0x40, 0, 0]).wellFormed = true := by decide

/-! ### Words and frames, with values from the manual -/

/-- The check of R192 over the bytes of "123456789", as the manual gives it. -/
theorem test_frame_check_of_digits :
    crc16 [0x31, 0x32, 0x33, 0x34, 0x35, 0x36, 0x37, 0x38, 0x39] = 0x29B1#16 := by decide

/-- The worked POSITION of section 11.4: angle 10 000, radius 300, profile 2, not loaded, APPLIED. -/
theorem test_position_payload :
    classify (.crane .s3) ⟨0x02, [0x27, 0x10, 0x4B, 0x10]⟩ =
      .position .s3 0x2710 300 2 false false := by decide

/-- The bits of the packed word: loaded is bit 2, released is bit 1 (R196). -/
theorem test_position_bits :
    classify (.crane .s1) ⟨0x02, [0, 0, 0x00, 0x04]⟩ = .position .s1 0 0 0 true false ∧
    classify (.crane .s1) ⟨0x02, [0, 0, 0x00, 0x02]⟩ = .position .s1 0 0 0 false true := by decide

/-- Requests of a crane and commands of the supervisor, byte by byte (sections 11.4, 11.6). -/
theorem test_requests_from_bytes :
    classify (.crane .s1) ⟨0x01, [0, 0, 0x01, 0x02]⟩ = .hello .s1 258 ∧
    classify (.crane .s2) ⟨0x03, [12]⟩ = .hold .s2 12 ∧
    classify (.crane .s2) ⟨0x08, [0, 5, 0xFF, 0x9C]⟩ = .extend .s2 5 (-100) ∧
    classify (.crane .s2) ⟨0x0A, [0x01, 0x00]⟩ = .myBookings .s2 256 ∧
    classify .supervisor ⟨0x40, [9, 0x05, 2, 0, 0, 0x54, 0x60]⟩ = .commit 9 2 21600 ∧
    classify .supervisor ⟨0x40, [9, 0x36, 1, 2]⟩ = .readRecord 9 1 2 0 ∧
    classify .supervisor ⟨0x40, [9, 0x38, 3, 4]⟩ = .ackAlarm 9 3 4 := by decide

/-- A zone of two members: station, lo, hi and floor of each (R199). -/
theorem test_stage_zone_from_bytes :
    classify .supervisor ⟨0x40, [9, 0x02, 3, 1, 2, 1, 0, 10, 0, 20, 0, 30, 2, 0xFF, 0xFF, 0, 0, 3, 0xFF]⟩ =
      .stageZone 9 3 ⟨1, [⟨1, 10, 20, 30⟩, ⟨2, 0xFFFF, 0, 1023⟩]⟩ := by decide

/-- The receiver passes over noise, takes a frame, and leaves a frame cut off being collected (R193). -/
theorem test_hunt :
    huntAgain ([0x00, 0xA5, 0x00] ++ envelope [0x03, 12] ++ [0xA5, 5, 2]) =
      ([⟨0x03, [12]⟩], some [5, 2]) := by decide

/-- The check of the value 250 is 111, and of 0 is 100 (section 5.2). -/
theorem test_reply_check :
    check3 (bitsOf 10 250) = [true, true, true] ∧ check3 (bitsOf 10 0) = [true, false, false] := by
  decide

/-- ASSIGN with address 3 is sent as 011 011 01 111 (R200). -/
theorem test_assign_word :
    (LineCommand.assign .a3).word =
      [false, true, true, false, true, true, false, true, true, true, true] := by decide

/-- Fewer than 13 bits are a missing reply; the classes of R92 at their edges. -/
theorem test_reply_classes :
    readSlot (List.replicate 12 true) = .missing ∧
    (Reply.value 999).cls = .speed 999 ∧ (Reply.value 1000).cls = .bad ∧
    (Reply.value 1001).cls = .busy ∧ (Reply.value 1002).cls = .ready ∧
    (Reply.value 1010).cls = .sensorFault ∧ (Reply.value 1023).cls = .bad := by decide

/-! ### The worked figures of chapter 4 -/

/-- The first example: gaps 1450 and 15 536, a = 40, m = 200, V_rated 874. -/
theorem test_gap_speeds :
    gapSpeed 874 ⟨40, 200, 10, 800⟩ (some 1450) = 316 ∧
    gapSpeed 874 ⟨40, 200, 10, 800⟩ (some 15536) = 874 ∧ isqrt 1226880 = 1107 := by decide

/-- D = 350 gives T = 568; ramp-down code 3 steps by 11 and ends at 568. -/
theorem test_target_and_ramp :
    targetSpeed 874 350 = 568 ∧
    rampStep { emptyStation with vRated := 874, rampDown := 3 } 874 568 = 863 ∧
    rampStep { emptyStation with vRated := 874, rampDown := 3 } 577 568 = 568 := by decide

/-- The second example: the interval 65 000 .. 1 500 wraps, and 64 000 is 1 000 before it; zone 11 is a
radius obstacle with bound 434; the gap of 62 500 is capped at 32 768. -/
theorem test_wrapped_interval :
    let p : Position := ⟨64000, 420, false, false⟩
    let z3 : Member := ⟨.s2, 65000, 1500, 0⟩
    let z11 : Member := ⟨.s2, 63500, 64500, 450⟩
    obstacleClass z3 p = .slew ∧ obstacleClass z11 p = .radius ∧
    gapOver [z3, z11] p clockwiseTo = some 1000 ∧
    gapOver [z3, z11] p counterClockwiseTo = some 32768 ∧
    radiusLimitOver [z3, z11] p 15 600 = 434 ∧
    gapSpeed 1200 ⟨25, 300, 15, 1000⟩ (some 1000) = 187 := by decide

/-- An angle interval that wraps through 0 holds both its ends and 0, and nothing between. -/
theorem test_angle_interval :
    angleWithin 65000 65000 1500 = true ∧ angleWithin 1500 65000 1500 = true ∧
    angleWithin 0 65000 1500 = true ∧ angleWithin 1501 65000 1500 = false ∧
    intervalWidth 65000 1500 = 2037 := by decide

/-! ### Single steps -/

/-- HOLD of a FREE zone is GRANTED, and the notice follows the answer (R34, R49). -/
theorem test_hold_grants :
    (after (.hold .s1 0) site).holding 0 = some ⟨.s1, .ordinary, false⟩ ∧
    onLink (after (.hold .s1 0) site) (.crane .s1) =
      [.answer 0x03 .granted .empty, .notice (.grant 0 .ordinary)] := by decide

/-- RELEASE serves the zone to the head of its wait list, whose crane is told (R51, R52). -/
theorem test_release_serves :
    (after (.release .s1 0) heldByOne).holding 0 = some ⟨.s2, .ordinary, false⟩ ∧
    onLink (after (.release .s1 0) heldByOne) (.crane .s2) = [.notice (.grant 0 .ordinary)] := by
  decide

/-- A zone swept by another is not granted (R46, R48). -/
theorem test_hold_swept :
    onLink (after (.hold .s1 0) swinging) (.crane .s1) = [.answer 0x03 .swept .empty] := by decide

/-- A crane that enters a zone it does not hold is latched, loses its permit and keeps no slew limit
(R39, R59, R84); the alert names the entry. -/
theorem test_intrusion :
    let t := after (.position .s1 0x2000 100 0 false false) site
    (t.arb.get .s1).intrusion = true ∧ (t.ctx.get .s1).mp = false ∧ (t.lim.get .s1).cw = 0 ∧
    t.attn = true ∧
    onLink t .supervisor = [.alert { entry := .intrusion .s1, time := 1000, phase := 0 }] := by decide

/-- One count short of the interval, or one decimetre below the floor, is outside (R42). -/
theorem test_no_intrusion_outside :
    ((after (.position .s1 0x1FFF 100 0 false false) site).arb.get .s1).intrusion = false ∧
    ((after (.position .s1 0x2000 99 0 false false) site).arb.get .s1).intrusion = false := by decide

/-- HELLO with the wrong identity is refused; with the right one the station is JOINING (R25, R26). -/
theorem test_hello :
    onLink (after (.hello .s1 8) site) (.crane .s1) = [.answer 0x01 .wrongCrane .empty] ∧
    ((after (.hello .s1 7) site).ctx.get .s1).link = .joining ∧
    ((after (.hello .s1 7) site).lim.get .s1).vWind = 0 := by decide

/-- A RELEASED report in BRAKED latches unsafe vane (R140). -/
theorem test_unsafe_release :
    let t := after (.position .s1 0x1000 400 0 false true) site
    (t.vane.get .s1).vane = .vaning ∧ (t.vane.get .s1).unsafeLatched = true ∧
    (t.alarms.get (.unsafeVane .s1)).state = .active ∧ (t.ctx.get .s1).mp = false := by decide

/-- The site time goes on at the tick of phase 0 alone (R147). -/
theorem test_tick :
    (after .tick site).clock.phase = 1 ∧ (after .tick site).clock.time = 1000 ∧
    (after .tick { site with clock := { site.clock with phase := 19 } }).clock.phase = 0 ∧
    (after .tick { site with clock := { site.clock with phase := 19 } }).clock.time = 1001 := by decide

/-- A mark nearest phase 13 is slipped, with a boundary at the re-phase (section 8.7's example). -/
theorem test_slipped_mark :
    let t := after (.timeMark 10000) { site with clock := { site.clock with phase := 13 } }
    t.clock.time = 1001 ∧ t.clock.phase = 0 ∧ t.clock.lastSlip = some (13, 1000) ∧
    t.clock.slip = true := by decide

/-- A mark nearest phase 6 is slipped, without a boundary. -/
theorem test_early_slip :
    let t := after (.timeMark 10000) { site with clock := { site.clock with phase := 6 } }
    t.clock.time = 1000 ∧ t.clock.phase = 0 ∧ t.clock.lastSlip = some (6, 1000) := by decide

/-- The midpoint belongs to the earlier tick: at 25 000 µs after phase 19 the phase is 19 and the mark is
slipped, a microsecond later it is 0 and in step (section 8.5). -/
theorem test_mark_midpoint :
    let s := { site with clock := { site.clock with phase := 19 } }
    (after (.timeMark 25000) s).clock.slip = true ∧
    (after (.timeMark 25001) s).clock.slip = false ∧ (after (.timeMark 25001) s).clock.time = 1001 := by
  decide

/-- A mark 20 ms after the phase-0 tick restarts the interval: the next tick comes at 70 ms, so a mark at 30 ms
is nearest phase 0 and in step (R150). -/
theorem test_mark_restarts_the_interval :
    let t := after (.timeMark 20000) site
    t.tickInterval = 70000 ∧ t.clock.phase = 0 ∧ (after (.timeMark 30000) t).clock.slip = false ∧
    (after (.timeMark 35001) t).clock.lastSlip = some (1, 1000) := by decide

/-- A window that has run out ends DONE before a CANCEL of its booking is handled: its notice is other work and
goes out first, and the answer is LATE (R34, R158, R169). -/
theorem test_due_end_goes_before_the_answer :
    onLink (after (.cancel .s1 5) (booked [lift (.active ⟨1000, 1, none, [0], true⟩)])) (.crane .s1) =
      [.notice (.bookingEnded 5 .done .notRepeat), .answer 0x07 .late .empty] := by decide

/-- The failure at 40 attempt cycles is taken before a cycle whose start waited for the hand-over begins: its
RUN-TO is sent in that cycle (R102, R103). -/
theorem test_checking_fails_before_the_next_cycle :
    let s := { (site.setSensor .a1 { SensorRec.blank with
                 state := .starting .checking, attempts := 1, attemptCycles := 39 }) with
               line := { site.line with state := .running, windowOpen := false }
               cycle := some ⟨.ordinary, 5⟩ }
    (s.endReading (.const []) 0).cycle = some ⟨.command 24 (LineCommand.runTo .a1).word, 0⟩ := by decide

/-- The end of a PENDING booking makes ORDINARY a zone that its station holds BOOKED for another in window, starts
its release dwell and leaves the reservation (R64, R171; log entry 30). -/
theorem test_end_beside_a_window :
    let a := lift (.active ⟨1060, 60, none, [0], false⟩)
    let p := { lift .pending with number := 6, start := 2000 }
    let s := (booked [a, p]).setZone 0 (some { ZoneDyn.fresh with
      hold := some ⟨.s1, .booked, true⟩, reservation := some 5 })
    (after (.supervisorCancel 1 6) s).zones.get 0 = some { ZoneDyn.fresh with
      hold := some ⟨.s1, .ordinary, true⟩, dwell := .running crane.releaseDwell,
      reservation := some 5 } ∧
    (after (.supervisorCancel 1 5) s).holding 0 = some ⟨.s1, .ordinary, true⟩ := by decide

/-- A BOOK whose lead lies ahead is PENDING under the next number; the answer names the holder of its zone
(R157). -/
theorem test_book :
    let f : WireBook := ⟨1, 0, 0, 0, 0, 0, 1100, 60, 50, 0, 0, 0⟩
    ((after (.book .s1 f) heldByTwo).booking? 1).map (·.state) = some .pending ∧
    onLink (after (.book .s1 f) heldByTwo) (.crane .s1) =
      [.answer 0x06 .ok (.admitted 1 .pending [some .s2])] := by decide

/-- A BOOK of the same time and station overlaps (R155, R156). -/
theorem test_book_overlap :
    onLink (after (.book .s1 ⟨1, 1, 0, 0, 0, 0, 1109, 60, 0, 0, 0, 0⟩) (booked [lift .pending]))
      (.crane .s1) = [.answer 0x06 .overlap (.booking 5)] := by decide

/-- A booking that starts takes its free zone BOOKED and is ACTIVE (R63, R163). -/
theorem test_booking_start :
    let s := { booked [lift .lead] with clock := { site.clock with time := 1100, timeSet := true } }
    (after (.bookingStart 5) s).holding 0 = some ⟨.s1, .booked, false⟩ ∧
    ((after (.bookingStart 5) s).booking? 5).map (·.state) =
      some (.active { ends := 1160, remaining := 60, extension := none, passed := [0],
                      due := false }) := by decide

/-- EXTEND by −100 of a remaining of 60 leaves 1 second from the next boundary (R166). -/
theorem test_extend_clamps :
    onLink (after (.extend .s1 5 (-100))
      (booked [lift (.active ⟨1060, 60, none, [0], false⟩)])) (.crane .s1) =
      [.answer 0x08 .ok (.extended (-100) 1002 [0] [])] := by decide

/-- START_LINE opens the enrolment, and the eighth cycle start makes the closing due (R95, R96). -/
theorem test_window :
    ({ site with line := { site.line with windowCount := 7 } }.startCycle).line.closeDue = true ∧
    (site.startCycle).line.closeDue = false := by decide

/-- ASSIGN to address 3 is put on the line after 24 pulses (R94), and the echo is waited for four cycles (R98). -/
theorem test_assign_sent :
    let t := { site with line := { site.line with commands := [.assign .a3] } }.startCycle
    t.cycle = some ⟨.command 24 (LineCommand.assign .a3).word, 0⟩ ∧
    t.line.echoWait = some (.a3, .running 4) := by decide

/-- A sensor in RUNNING goes to FAULT at the third miss in a row (R105). -/
theorem test_third_miss :
    let r : SensorRec := { SensorRec.blank with state := .running, missRun := 2 }
    (r.runningSlot .missing).state = .fault ∧
    ({ r with missRun := 1 }.runningSlot .bad).state = .running := by decide

/-- ACK_ALARM of an ACTIVE entry marks it; the entry of a latching kind in LATCHED goes CLEAR (R187). -/
theorem test_ack :
    let s := { site with alarms := site.alarms.set .timeSlip ⟨.active, false⟩ }
    let l := { site with alarms := site.alarms.set .timeSlip ⟨.latched, false⟩ }
    (after (.ackAlarm 1 11 0) s).alarms.get .timeSlip = ⟨.active, true⟩ ∧
    (after (.ackAlarm 1 11 0) l).alarms.get .timeSlip = ⟨.clear, false⟩ := by decide

/-- A kind the link does not carry is BAD_KIND; on SL a short frame has 0 for tag and code (R194). -/
theorem test_bad_kind :
    onLink (after (.badKind (.crane .s1) 0x80 []) site) (.crane .s1) =
      [.answer 0x80 .badKind .empty] ∧
    onLink (after (.badLength .supervisor 0x40 [9]) site) .supervisor =
      [.answerSL 0 0 .badLength .empty] := by decide

/-- A frame inside a damaged one is taken (R193). -/
theorem test_frame_inside_damaged :
    (after (.badCheckFrame (.crane .s1) ([0xA5, 4] ++ envelope [0x03, 0])) site).holder 0 =
      some .s1 := by decide

/-! ### The hypotheses of the statements are met

One theorem for each statement that has hypotheses: a concrete state and operands that meet them, clause by
clause, at the ends of the ranges where a clause has a range. -/

/-- What holds of the value of an option holds of every value it is said to have. -/
theorem of_some {α : Type} {o : Option α} {a : α} {P : α → Prop} (h : o = some a) (p : P a) :
    ∀ b, o = some b → P b := fun b hb => by rw [h] at hb; exact Option.some.inj hb ▸ p

theorem witness_StepTakesTheFrontCommand :
    { site with pending := [.tick] }.pending = .tick :: [] ∧ site.pending = [] := by decide

theorem witness_EveryCommandGoesOnAndKeepsTheQueue : betweenSteps site = true := by decide

theorem witness_EmptyPlanStandsAsTheManualGivesIt :
    State.reset.plan.live = emptyPlan ∧ State.reset.plan.staged = emptyPlan ∧
    State.reset.plan.store.good = false := by decide

theorem witness_AttnFollowsTheAlarmTable :
    let s := { site with alarms := site.alarms.set (.windLost .s1) ⟨.active, false⟩, attn := true,
                         pending := [.ackAlarm 1 7 1] }
    attnFollows s = true ∧ ∃ t, step s = .next t := ⟨by decide, _, rfl⟩

theorem witness_MotionPermitFollowsItsConditions :
    (∀ n, permitFollows { site with pending := [.tick] } n = true) ∧
    ∃ t, step { site with pending := [.tick] } = .next t :=
  ⟨by intro n; cases n <;> decide, _, rfl⟩

theorem witness_SlewLimitsAreZeroWithoutPermit :
    let s := { site with pending := [.position .s1 0x2000 100 0 false false] }
    (∀ n, limitsFollow s n = true) ∧ (∀ n, speedKept s n = true) ∧
    (s.station .s3).enabled = false ∧
    ∃ t, step s = .next t ∧ (t.ctx.get .s1).mp = false :=
  ⟨by intro n; cases n <;> decide, by intro n; cases n <;> decide, by decide, _, rfl, by decide⟩

theorem witness_VaneClearMeansNoZoneHeldByAnother :
    let s := { swinging with pending := [.hold .s1 0] }
    (∀ n, vaneClearKept s n = true) ∧ ∃ t, step s = .next t ∧ (t.vane.get .s2).vc = true :=
  ⟨by intro n; cases n <;> decide, _, rfl, by decide⟩

theorem witness_SweptAirspaceStaysClosed :
    let s := { swinging with pending := [.hold .s2 0] }
    airspaceClosed s = true ∧ ∃ t, step s = .next t ∧
      ((t.zones.get 0).map fun d => d.swept.get .s2) = some true := ⟨by decide, _, rfl, by decide⟩

theorem witness_WaitListsHoldEachStationOnce :
    let s := { heldByTwo with pending := [.hold .s1 1] }
    (∀ z, waitListKept s z = true) ∧ ∃ t, step s = .next t := ⟨by decide, _, rfl⟩

/-- The site with zone 0 held BOOKED by station 1 for booking 5, ACTIVE, and station 2 waiting. -/
def lifting : State :=
  (booked [lift (.active ⟨1060, 60, none, [0], false⟩)]).setZone 0 (some { ZoneDyn.fresh with
    hold := some ⟨.s1, .booked, true⟩, waiting := [.s2], reservation := some 5 })

theorem lifting_tablesKept : tablesKept lifting := by
  have reserved : ∀ z : Zone, (lifting.zones.get z).all (fun d => d.reservation.all fun k =>
      lifting.bookings.any fun b => b.number == k && b.state != .pending && b.zones.contains z) =
        true := by decide
  refine ⟨by decide, by decide, by decide, by decide, List.pairwise_singleton _ _, ?_⟩
  intro z d k hd hk
  have h := reserved z
  rw [hd] at h
  simp only [Option.all_some, hk, List.any_eq_true, Bool.and_eq_true, beq_iff_eq, bne_iff_ne,
    List.contains_iff_mem] at h
  obtain ⟨b, hb, ⟨hn, hs⟩, hz⟩ := h
  exact ⟨b, hb, hn, hs, hz⟩

theorem witness_BookingTableKeepsItsForm :
    (let s := { booked [lift .pending] with
                pending := [.book .s1 ⟨1, 1, 0, 0, 0, 0, 2000, 60, 0, 0, 0, 0⟩] }
     bookingTableKept s = true ∧ ∃ t, step s = .next t ∧ t.bookings.length = 2) ∧
    tablesKept { lifting with pending := [.release .s1 0] } ∧
    ∃ t, step { lifting with pending := [.release .s1 0] } = .next t ∧
      t.bookings.map (·.state) = [.active ⟨1060, 60, none, [0], false⟩] :=
  ⟨⟨by decide, _, rfl, by decide⟩, lifting_tablesKept, _, rfl, by decide⟩

theorem witness_ReceiverTakesEveryFrameSent :
    ∀ f ∈ [Taken.mk 0x03 [12], Taken.mk 0x42 (List.replicate 254 0xA5), Taken.mk 0x09 []],
      f.payload.length ≤ 254 := by decide

theorem witness_PlanRecordsReadBackAsStaged :
    acceptStation (readWireStation (stationRecBytes crane)) = some crane ∧
    acceptZone ⟨1, [⟨1, 0, 0x7FFF, 0⟩, ⟨6, 0xFFFF, 0, 1023⟩]⟩ =
      some ⟨true, [⟨.s1, 0, 0x7FFF, 0⟩, ⟨.s6, 0xFFFF, 0, 1023⟩]⟩ ∧
    acceptSite 10 65535 1 = some ⟨10, 1000, true⟩ ∧ acceptSite 600 0 0 = some ⟨600, 0, false⟩ := by
  decide

theorem witness_LineWordsCarryTheirCheck :
    1023 < 1024 ∧ (check3 (bitsOf 10 1023)).length = 3 ∧ 0 < 1024 ∧ [true, true, true].length = 3 := by
  decide

theorem witness_LimitArithmeticIsExact :
    0 ≤ emptyStation.vRated ∧ emptyStation.vRated ≤ emptyStation.vRated ∧
    0 ≤ 1000 ∧ rampStep emptyStation 1000 0 = 987 ∧ rampStep emptyStation 0 1000 = 4 ∧
    { site with siteStop := true }.siteStop = true ∧ site.siteStop = false ∧
    (site.station .s1).mode = .acting ∧ (site.wind.get .s1).stage = .normal ∧
    ({ crane with mode := .advisory } : StationRec).mode = .advisory := by decide

/-- Codes 3 (80 ticks, so 13 mm/s for 1000 mm/s) and 5 (320 ticks, 4 mm/s), and code 0. -/
theorem witness_LimitArithmeticIsExact_ramp :
    let table : List (Nat × Nat) :=
      [(1, 20), (2, 40), (3, 80), (4, 160), (5, 320), (6, 640), (7, 1280)]
    (emptyStation.rampDown, 80) ∈ table ∧ emptyStation.vRated ≤ 13 * 80 ∧
    (∀ m, emptyStation.vRated ≤ m * 80 → 13 ≤ m) ∧
    (emptyStation.rampUp, 320) ∈ table ∧ emptyStation.vRated ≤ 4 * 320 ∧
    (∀ m, emptyStation.vRated ≤ m * 320 → 4 ≤ m) ∧
    ({ emptyStation with rampDown := 0 } : StationRec).rampDown = 0 ∧
    rampStep emptyStation 5 0 = 0 ∧ rampStep emptyStation 997 1000 = 1000 := by
  have v : emptyStation.vRated = 1000 := rfl
  refine ⟨by decide, by decide, fun m h => ?_, by decide, by decide, fun m h => ?_, by decide,
    by decide, by decide⟩ <;> omega

/-- The three classes: a report inside, one beside the interval, and one below the floor. -/
theorem witness_LimitsKeepTheStoppingDistance :
    let at' (θ : Angle) (r : Nat) : State :=
      { site with ctx := site.ctx.set .s1 { onlineCtx with position := some ⟨θ, r, false, false⟩ } }
    (0 : Zone) ∈ site.memberZones .s1 ∧ site.countsHeld 0 .s1 = false ∧
    site.member 0 .s1 = some ⟨.s1, 0x2000, 0x3FFF, 100⟩ ∧
    ((at' 0x2000 100).ctx.get .s1).position = some ⟨0x2000, 100, false, false⟩ ∧
    obstacleClass ⟨.s1, 0x2000, 0x3FFF, 100⟩ ⟨0x2000, 100, false, false⟩ = .inside ∧
    obstacleClass ⟨.s1, 0x2000, 0x3FFF, 100⟩ ⟨0x1FFF, 100, false, false⟩ = .slew ∧
    obstacleClass ⟨.s1, 0x2000, 0x3FFF, 100⟩ ⟨0x3FFF, 99, false, false⟩ = .radius ∧
    (((at' 0x1FFF 100).recompute .s1).lim.get .s1).inEffect = some ⟨100, 0, 0, 1000⟩ ∧
    (site.station .s1).enabled = true ∧ (site.vane.get .s1).vane ≠ .vaning ∧
    (swinging.vane.get .s2).vane = .vaning ∧ (site.station .s3).enabled = false ∧
    (site.ctx.get .s3).position = none ∧ (site.ctx.get .s3).profile = none ∧
    (site.ctx.get .s1).profile = some 0 ∧ (profileAt (site.station .s1) 0).inUse = true ∧
    (profileAt (site.station .s1) 1).inUse = false := by decide

theorem witness_LimitsKeepTheStoppingDistance_obstacle :
    obstacleOf site .s1 ⟨.s1, 0x2000, 0x3FFF, 100⟩ :=
  ⟨0, by decide, by decide, fun h => absurd h.1 (by decide)⟩

theorem witness_AlarmEntriesMoveWithTheirConditions :
    site.handling = none ∧ (site.alarms.get .timeSlip).state = .clear ∧
    ({ site with alarms := site.alarms.set .timeSlip ⟨.latched, false⟩ }.alarms.get
      .timeSlip).state = .latched ∧
    ({ site with alarms := site.alarms.set .timeSlip ⟨.active, true⟩ }.alarms.get
      .timeSlip).state = .active := by decide

/-- A zone held; reserved for a booking in window, open and closed to it; reserved for a booking not in
window; unreserved with nobody waiting, and with a station waiting that may and may not have it. -/
theorem witness_ServingFollowsTheClaims :
    let reserved : ZoneDyn := { ZoneDyn.fresh with reservation := some 5 }
    let waited : ZoneDyn := { ZoneDyn.fresh with waiting := [.s1] }
    let open' := (booked [lift (.blocked ⟨1060, 60, none, [], false⟩)]).setZone 0 (some reserved)
    let closed := { open' with vane := swinging.vane.set .s2 { VaneCtx.reset with vane := .clear } }
    (heldByTwo.zones.get 0).bind (·.hold) = some ⟨.s2, .ordinary, true⟩ ∧
    open'.zones.get 0 = some reserved ∧
    (open'.booking? 5).map Booking.inWindow = some true ∧ open'.closedTo 0 .s1 = false ∧
    closed.zones.get 0 = some reserved ∧ closed.closedTo 0 .s1 = true ∧
    ((booked [lift .lead]).booking? 5).map Booking.inWindow = some false ∧
    site.zones.get 0 = some .fresh ∧
    (site.setZone 0 (some waited)).zones.get 0 = some waited ∧
    (site.setZone 0 (some waited)).closedTo 0 .s1 = false ∧
    ({ site.setZone 0 (some waited) with
        vane := site.vane.set .s2 { VaneCtx.reset with vane := .clear } }).closedTo 0 .s1 = true := by
  decide

theorem witness_OpeningABookingTakesItsZones :
    ((booked [lift .lead]).booking? 5).isSome = true ∧ (lift .lead).zones.Nodup ∧
    (0 : Zone) ∈ (lift .lead).zones ∧ (1 : Zone) ∉ (lift .lead).zones ∧
    (site.zones.get 0).isSome = true ∧ site.closedTo 0 .s1 = false ∧
    swinging.closedTo 0 .s1 = true ∧ heldByTwo.holder 0 = some .s2 ∧ heldByOne.holder 0 = some .s1 := by
  decide

/-- The zones passed of `lifting` are held BOOKED, and it holds no PENDING booking; so in a state with one, which
a POSITION does not end. -/
theorem witness_BookingTableKeepsItsForm_passed :
    let later : Booking := { lift .pending with number := 6, start := 5000 }
    passedHeld lifting ∧ (∀ b ∈ lifting.bookings, b.state ≠ .pending) ∧
    later.state = .pending ∧
    ((after (.position .s1 0x6000 100 0 false false)
      { lifting with bookings := lifting.bookings ++ [later] }).booking? 6).isSome = true := by
  refine ⟨?_, by decide, rfl, by decide⟩
  intro b hb w hw z hz
  obtain rfl : b = lift (.active ⟨1060, 60, none, [0], false⟩) := List.mem_singleton.mp hb
  cases hw
  obtain rfl : z = 0 := by simpa using hz
  exact ⟨⟨.s1, .booked, true⟩, by decide, rfl, rfl⟩

theorem witness_OpeningABookingTakesItsZones_headPlace :
    [Station.s2, .s3, .s4].Nodup ∧ headPlace [.s2, .s3, .s4] .s1 = [.s1, .s2, .s3] ∧
    headPlace [.s2, .s3, .s4] .s4 = [.s4, .s2, .s3] := by decide

/-- A TIMED booking; a REPEAT booking with its last occurrence; and one that goes on. -/
theorem witness_EndOfABookingFreesOrRearmsIt :
    let again (left : Option Nat) : Booking := { lift .lead with mode := .repeating 300 left 0 }
    (booked [lift .lead]).booking? (lift .lead).number = some (lift .lead) ∧
    (lift .lead).state ≠ .pending ∧
    (∀ p l k, (lift .lead).mode = .repeating p l k → Ending.done.rearms = false ∨ l = some 1) ∧
    (∀ p l k, (again (some 1)).mode = .repeating p l k → Ending.done.rearms = false ∨ l = some 1) ∧
    (booked [again none]).booking? 5 = some (again none) ∧ 0 < 300 ∧
    (again none).mode = .repeating 300 none 0 ∧ Ending.done.rearms = true ∧
    (none : Option Nat) ≠ some 1 ∧
    lifting.booking? 5 = some (lift (.active ⟨1060, 60, none, [0], false⟩)) ∧
    (0 : Zone) ∈ (lift .lead).zones ∧ (lift .lead).zones.Nodup ∧ waitListKept lifting 0 = true ∧
    lifting.holding 0 = some ⟨.s1, .booked, true⟩ ∧
    (lifting.station .s1).releaseDwell ≠ 0 ∧ lifting.inside 0 .s1 = false ∧
    site.clock.time < 1100 + 300 * 1 - 50 := by
  refine ⟨by decide, by decide, ?_, ?_, by decide, by decide, rfl, rfl, by decide, by decide,
    by decide, by decide, by decide, by decide, by decide, by decide, by decide⟩
  · intro p l k h; cases h
  · intro p l k h; cases h; exact .inr rfl

/-- The example of R173: one skip, and CONTINUES with the start 27 200. Beside it, a booking over eight
candidates leaves no slot. -/
theorem test_rearm_skips_to_the_first_free_candidate :
    let b : Booking := { number := 60, station := .s5, zones := [30], start := 20000, duration := 1800,
                         lead := 300, mode := .repeating 3600 (some 3) 0, locked := false,
                         state := .active ⟨21800, 0, none, [30], true⟩ }
    let other (ends : Nat) : Booking :=
      { number := 57, station := .s2, zones := [30], start := 23000, duration := ends - 23000,
        lead := 0, mode := .timed, locked := false, state := .pending }
    let s (ends : Nat) : State :=
      { booked [other ends, b] with clock := { site.clock with time := 21800 } }
    (s 24000).rearm b .done =
      (some { b with state := .pending, start := 27200, mode := .repeating 3600 (some 2) 1 }, .done,
        .continues 27200) ∧
    (s 66000).rearm b .done = (none, .cancelledNoSlot, .ended) := by decide

theorem witness_CycleStartSendsTheOldestCommand :
    let line (st : LineState) (cs : List LineCommand) : State :=
      { site with line := { site.line with state := st, commands := cs } }
    (line .off []).line.state = .off ∧
    (line .running []).line.state ≠ .off ∧ (line .running []).line.commands = [] ∧
    (line .enrolling [.assign .a3, .run]).line.commands = .assign .a3 :: [.run] ∧
    (line .enrolling [.run]).line.commands = .run :: [] ∧
    (((line .enrolling [.run]).setSensor .a2
      { SensorRec.blank with state := .assigned }).sensors.get .a2).state = .assigned ∧
    (line .running [.runTo .a1]).line.commands = .runTo .a1 :: [] := by decide

theorem witness_StagingReplacesTheStagedRecord :
    site.plan.pendingCommit = .absent ∧ Station.ofNumber? 6 = some .s6 ∧
    acceptStation (readWireStation (stationRecBytes crane)) = some crane ∧
    Zone.ofNumber? 63 = some 63 ∧ acceptZone ⟨0, []⟩ = some ⟨false, []⟩ ∧
    acceptSite 600 1000 1 = some ⟨600, 1000, true⟩ ∧
    Station.ofNumber? 7 = none ∧ acceptStation (readWireStation []) = none ∧
    Zone.ofNumber? 64 = none ∧ acceptZone ⟨1, []⟩ = none ∧ acceptSite 9 0 0 = none := by decide

/-- A commit pending; a staged plan that fails the cross-record check; a zone in use; the time not set;
and a target that is the present time. -/
theorem witness_RefusedPlanCommandsChangeNothing :
    ({ site.plan with pendingCommit := .atMark } : PlanUnit).pendingCommit ≠ .absent ∧
    site.plan.pendingCommit = .absent ∧ 1 < 2 ∧
    (site.setStaged { sitePlan with
      stations := sitePlan.stations.set .s1 { crane with anemometers := .const false } }).crossCheck =
        some (.station .s1) ∧
    (heldByTwo.setStaged { sitePlan with zones := sitePlan.zones.set 0 ⟨false, []⟩ }).crossCheck =
      none ∧
    (heldByTwo.setStaged { sitePlan with zones := sitePlan.zones.set 0 ⟨false, []⟩ }).inUseCheck =
      some (.zone 0) ∧
    maxTime ≤ maxTime ∧ State.reset.clock.timeSet = false ∧
    1000 ≤ site.clock.time ∧ 1000 ≤ maxTime ∧ site.clock.timeSet = true ∧
    site.clock.time < 1001 := by decide

/-- What `committed` says something of: a changed zone, an unchanged one, a station disabled and one that stays
enabled, and PENDING bookings that a disabled zone, a lost membership and a disabled station strand. -/
theorem witness_CommitTakesEffectOrWaits :
    let s := (site.setCtx .s2 .reset).setStaged { sitePlan with
      stations := sitePlan.stations.set .s2 { crane with enabled := false }
      zones := (sitePlan.zones.set 0 ⟨false, []⟩).set 1 ⟨false, []⟩ }
    let b := (s.setBookings [lift .pending])
    site.plan.pendingCommit = .absent ∧ site.crossCheck = none ∧ site.inUseCheck = none ∧
    site.clock.timeSet = true ∧ site.clock.time < 1001 ∧ maxTime ≤ maxTime ∧
    bookingTableKept site = true ∧ bookingTableKept b = true ∧
    b.plan.pendingCommit = .absent ∧ b.crossCheck = none ∧ b.inUseCheck = none ∧
    b.zoneChanged 0 = true ∧ b.zoneChanged 2 = false ∧ site.zoneChanged 0 = false ∧
    (b.station .s2).enabled = true ∧ (b.plan.staged.stations.get .s2).enabled = false ∧
    (b.plan.staged.stations.get .s1).enabled = true ∧
    b.booking? 5 = some (lift .pending) ∧ (b.plan.staged.zones.get 0).enabled = false := by decide

theorem witness_AtTimeCommitTakesEffectOrIsAbandoned :
    let s := site.setPlan { site.plan with pendingCommit := .atTime 1000 true }
    let u := (s.setStaged { sitePlan with zones := sitePlan.zones.set 0 ⟨false, []⟩ }).setZone 0
      (heldByTwo.zones.get 0)
    s.plan.pendingCommit = .atTime 1000 true ∧ s.inUseCheck = none ∧ bookingTableKept s = true ∧
    u.plan.pendingCommit = .atTime 1000 true ∧ u.inUseCheck ≠ none := by decide

theorem witness_CancelCommitTakesThePendingCommitAway :
    let s := site.setPlan { site.plan with pendingCommit := .atTime 1000 true }
    let m := site.setPlan { site.plan with pendingCommit := .atMark }
    s.plan.pendingCommit ≠ .absent ∧ site.plan.pendingCommit = .absent ∧
    (∃ u, exec (.timeMark 0) (replied .supervisor (.answerSL 1 0x06 .ok .empty) site) = .next u) ∧
    (∃ t, exec .atTimeCommitMoment s = .next t) ∧
    m.plan.pendingCommit = .atMark ∧ ∃ t, exec (.timeMark 0) m = .next t :=
  ⟨by decide, by decide, ⟨_, rfl⟩, ⟨_, rfl⟩, by decide, _, rfl⟩

theorem witness_StoreIsWrittenAndReadBack :
    let w := site.setPlan { site.plan with storeState := .writing sitePlan 57 }
    let good : StoreContent := ⟨sitePlan, 57, Config.storeCheck sitePlan 57⟩
    site.plan.storeState = .idle ∧ w.plan.storeState = .writing sitePlan 57 ∧
    (good.image = sitePlan ∧ good.revision = 57 ∧ good.check = Config.storeCheck sitePlan 57) ∧
    ¬ (emptyPlan = sitePlan) := ⟨by decide, by decide, ⟨rfl, rfl, rfl⟩, by decide⟩

theorem witness_SupervisorQueriesAnswerTheStateAsItStands :
    Station.ofNumber? 6 = some .s6 ∧ Zone.ofNumber? 0 = some 0 ∧ site.zones.get 0 = some .fresh ∧
    6 ≤ 6 ∧ Addr.ofNumber? 4 = some .a4 ∧ site.plan.live = sitePlan ∧ site.plan.staged = sitePlan ∧
    Zone.ofNumber? 63 = some 63 := by decide

/-- Each refusal of the queries, at the first number out of range. -/
theorem witness_SupervisorQueriesAnswerTheStateAsItStands_refused :
    let gives (i : Instr) (cmd : Nat) (code : Code) : Prop :=
      onLink (after i site) .supervisor = [.answerSL 7 cmd code .empty]
    gives (.queryStation 7 0) 0x30 .range ∧ gives (.queryStation 7 7) 0x30 .range ∧
    gives (.queryZone 7 64) 0x31 .range ∧
    site.zones.get 2 = none ∧ gives (.queryZone 7 2) 0x31 .noZone ∧
    gives (.queryBookings 7 0 7) 0x32 .range ∧
    gives (.querySensor 7 0) 0x33 .range ∧ gives (.querySensor 7 5) 0x33 .range ∧
    gives (.readRecord 7 2 0 1) 0x36 .range ∧ gives (.readRecord 7 0 3 1) 0x36 .range ∧
    gives (.readRecord 7 1 0 7) 0x36 .range ∧ gives (.readRecord 7 1 1 64) 0x36 .range := by decide

/-- A page from zone 63, one above it, and the queries of a station that is OFFLINE. -/
theorem witness_CraneQueriesChangeNothing :
    (site.ctx.get .s1).link = .online ∧ 63 ≤ 63 ∧
    onLink (after (.myZones .s1 64) site) (.crane .s1) = [.answer 0x09 .range .empty] ∧
    (site.ctx.get .s3).link ≠ .online ∧
    onLink (after (.myZones .s3 64) site) (.crane .s3) = [.answer 0x09 .notJoined .empty] ∧
    onLink (after (.myBookings .s3 0) site) (.crane .s3) = [.answer 0x0A .notJoined .empty] := by decide

/-- No plan; a disabled station; another identity; and the identity of the plan. -/
theorem witness_HelloJoinsTheStation :
    State.reset.plan.invalid = true ∧ site.plan.invalid = false ∧
    (site.station .s3).enabled = false ∧ (site.station .s1).enabled = true ∧
    8 ≠ (site.station .s1).identity ∧ 7 = (site.station .s1).identity := by decide

/-- Brakes APPLIED and RELEASED without a transition; a zone the station holds, in GRANTED inside and in HELD
outside; a zone it is inside, open to it and held by another; and an ARMED booking, with the stage below HOLD and
at HOLD. -/
theorem witness_PositionReportIsTaken :
    let at' (s : State) : State :=
      { s with ctx := s.ctx.set .s1 { onlineCtx with position := some ⟨0x2000, 100, false, false⟩ } }
    let armed := { lift .armed with mode := .onLoad 60 }
    (site.ctx.get .s1).link ≠ .offline ∧ (site.vane.get .s1).vane ≠ .vaning ∧
    (swinging.ctx.get .s2).link ≠ .offline ∧ (swinging.vane.get .s2).vane = .vaning ∧
    (site.ctx.get .s1).rise = some false ∧
    (at' heldByOne).holding 0 = some ⟨.s1, .ordinary, false⟩ ∧ (at' heldByOne).inside 0 .s1 = true ∧
    ((site.setZone 0 (some { ZoneDyn.fresh with hold := some ⟨.s1, .ordinary, true⟩ })).inside 0 .s1) =
      false ∧
    (0 : Zone) ∈ (at' site).memberZones .s1 ∧ (at' site).inside 0 .s1 = true ∧
    (at' site).holds .s1 0 = false ∧ (at' site).openTo 0 .s1 = true ∧
    (at' heldByTwo).openTo 0 .s1 = false ∧ (at' site).standsUnheld .s1 ≠ [] ∧
    ((booked [armed]).bookings.find? fun b => b.station == .s1 && b.state == .armed) = some armed ∧
    ((booked [armed]).wind.get .s1).stage = .normal := by decide

/-- An OFFLINE station; a FIXED source; a CRANE source with the reported profile in use, and out of use beside a profile
already taken and beside none. -/
theorem witness_PositionReportIsTaken_profile :
    (site.ctx.get .s3).link = .offline ∧
    ({ emptyStation with source := .fixed 2 } : StationRec).source = .fixed 2 ∧
    emptyStation.source = .crane ∧ (profileAt emptyStation 0).inUse = true ∧
    (profileAt emptyStation 1).inUse = false ∧
    selectProfile emptyStation (some 3) 1 = (some 3, true) ∧
    selectProfile emptyStation none 1 = (some 0, true) := by decide

theorem witness_UnsafeReleaseClosesTheAirspace :
    let clearing := { site with vane := site.vane.set .s1 { VaneCtx.reset with vane := .clearing } }
    (site.ctx.get .s1).link ≠ .offline ∧
    ((site.beforeReport .s1 true).vane.get .s1).vane = .braked ∧
    ((clearing.beforeReport .s1 true).vane.get .s1).vane = .clearing := by decide

/-- A station in CLEAR; one in VANING with the sequence in force and the zones clear for it, with a zone held
by another, and with the sequence over. -/
theorem witness_SwingFollowsTheBrake :
    let still := { swinging with
      lim := swinging.lim.set .s2 { LimitCtx.reset with vWind := 0 } }
    let calm := { still with wind := site.wind }
    let clear := { site with vane := site.vane.set .s2 { VaneCtx.reset with vane := .clear } }
    ((clear.beforeReport .s2 true).vane.get .s2).vane = .clear ∧
    (still.ctx.get .s2).link ≠ .offline ∧
    ((still.beforeReport .s2 true).vane.get .s2).vane = .vaning ∧
    (still.beforeReport .s2 true).inForce .s2 = true ∧
    (still.beforeReport .s2 true).clearCondition .s2 = true ∧
    (swinging.beforeReport .s2 false).inForce .s2 = true ∧
    (swinging.beforeReport .s2 false).clearCondition .s2 = false ∧
    (calm.beforeReport .s2 false).inForce .s2 = false ∧
    ((calm.beforeReport .s2 false).vane.get .s2).vane = .vaning := by decide

theorem witness_SilentCraneGoesStaleAndIsLost :
    site.handling = none ∧
    ({ onlineCtx with reportTimer := .due } : StationCtx).reportTimer = .due ∧
    ({ onlineCtx with link := .stale, linkDwell := .due } : StationCtx).linkDwell = .due ∧
    ∀ z, waitListKept (heldByTwo.setCtx .s1 { onlineCtx with link := .stale, linkDwell := .due }) z =
      true := by decide

theorem witness_HoldGrantsAFreeZone :
    (site.ctx.get .s1).link = .online ∧ Zone.ofNumber? 0 = some 0 ∧ site.zones.get 0 = some .fresh ∧
    site.isMember 0 .s1 = true ∧ (site.wind.get .s1).stage ≠ .shutdown ∧
    (site.arb.get .s1).intrusion = false ∧ (site.vane.get .s1).unsafeLatched = false ∧
    ZoneDyn.fresh.hold = none ∧ Station.s1 ∉ ZoneDyn.fresh.waiting ∧ site.closedTo 0 .s1 = false ∧
    site.reservedAgainst 0 .s1 = false := by decide

/-- The cases of HOLD in their order, one state for each. -/
theorem witness_HoldQueuesOrRefuses :
    let two : ZoneDyn := { ZoneDyn.fresh with hold := some ⟨.s2, .ordinary, true⟩ }
    let queue := site.setZone 0 (some two)
    let taken := (booked [{ lift .lead with station := .s2 }]).setZone 0
      (some { ZoneDyn.fresh with reservation := some 5 })
    (site.ctx.get .s3).link ≠ .online ∧ (site.ctx.get .s1).link = .online ∧
    site.zone? 2 = none ∧ site.zone? 64 = none ∧
    ({ site with ctx := site.ctx.set .s3 onlineCtx }.isMember 0 .s3) = false ∧
    (swinging.wind.get .s2).stage = .shutdown ∧ swinging.isMember 0 .s2 = true ∧
    ({ site with arb := site.arb.set .s1 { ArbiterCtx.reset with intrusion := true } }.arb.get
      .s1).intrusion = true ∧
    heldByOne.holding 0 = some ⟨.s1, .ordinary, false⟩ ∧
    ((heldByTwo.zones.get 0).bind fun d => d.waiting.idxOf? .s1) = some 0 ∧
    swinging.closedTo 0 .s1 = true ∧ (swinging.wind.get .s1).stage ≠ .shutdown ∧
    taken.reserving 0 = some { lift .lead with station := .s2 } ∧ taken.closedTo 0 .s1 = false ∧
    queue.zones.get 0 = some two ∧ queue.reservedAgainst 0 .s1 = false ∧
    queue.closedTo 0 .s1 = false ∧ Station.s1 ∉ two.waiting ∧ two.hold ≠ none := by decide

theorem witness_ReleaseAndWithdrawServeTheZone :
    (heldByOne.ctx.get .s1).link = .online ∧ (heldByOne.zones.get 0).isSome = true ∧
    heldByOne.holder 0 = some .s1 ∧ heldByOne.inside 0 .s1 = false ∧ ¬ namedInWindow heldByOne .s1 0 ∧
    (heldByTwo.zones.get 0).map (fun d => d.waiting.contains Station.s1) = some true := by decide

/-- A station that is OFFLINE; a zone above 63 and a disabled one; a zone held by another, one the holder is
inside, and one named by its booking in window; and a station that is not waiting. -/
theorem witness_ReleaseAndWithdrawServeTheZone_refused :
    let inside := { heldByOne with
      ctx := heldByOne.ctx.set .s1 { onlineCtx with position := some ⟨0x2000, 100, false, false⟩ } }
    (site.ctx.get .s3).link ≠ .online ∧ Zone.ofNumber? 64 = none ∧ Zone.ofNumber? 63 = some 63 ∧
    site.zones.get 63 = none ∧ heldByTwo.holder 0 ≠ some .s1 ∧
    inside.holder 0 = some .s1 ∧ inside.inside 0 .s1 = true ∧
    lifting.holder 0 = some .s1 ∧ lifting.inside 0 .s1 = false ∧ namedInWindow lifting .s1 0 ∧
    (heldByOne.zones.get 0).map (fun d => d.waiting.contains Station.s1) = some false := by decide

theorem witness_ForceReleaseTakesTheZone :
    Zone.ofNumber? 0 = some 0 ∧ heldByTwo.holding 0 = some ⟨.s2, .ordinary, true⟩ ∧
    ¬ namedInWindow heldByTwo .s2 0 ∧ (heldByTwo.ctx.get .s2).link ≠ .offline ∧
    site.holding 0 = none ∧ lifting.holding 0 = some ⟨.s1, .booked, true⟩ ∧
    namedInWindow lifting .s1 0 ∧ site.zones.get 63 = none := by decide

/-- Intrusion latched with a zone it stands in open to it, and with one held by another. -/
theorem witness_RecoverGivesBackOrPlacesFirst :
    let inside (s : State) : State :=
      { s with ctx := s.ctx.set .s1 { onlineCtx with position := some ⟨0x2000, 100, false, false⟩ }
               arb := s.arb.set .s1 { ArbiterCtx.reset with intrusion := true }
               alarms := s.alarms.set (.intrusion .s1) ⟨.active, false⟩ }
    Station.ofNumber? 1 = some .s1 ∧ ((inside site).arb.get .s1).intrusion = true ∧
    ((inside site).alarms.get (.intrusion .s1)).state = .active ∧
    (0 : Zone) ∈ (inside site).standsUnheld .s1 ∧ (inside site).openTo 0 .s1 = true ∧
    ((after (.recover 1 1) (inside site)).standsUnheld .s1) = [] ∧
    (0 : Zone) ∈ (inside heldByTwo).standsUnheld .s1 ∧ (inside heldByTwo).openTo 0 .s1 = false ∧
    ((after (.recover 1 1) (inside heldByTwo)).standsUnheld .s1) ≠ [] := by decide

/-- RECOVER of no station, and of one without intrusion latched. -/
theorem witness_RecoverGivesBackOrPlacesFirst_refused :
    let gives (k : Nat) (code : Code) : Prop :=
      onLink (after (.recover 9 k) site) .supervisor = [.answerSL 9 0x11 code .empty]
    gives 0 .range ∧ gives 7 .range ∧ (site.arb.get .s6).intrusion = false ∧ gives 6 .notLatched := by
  decide

theorem witness_ZoneTimersTakeTheZoneBack :
    let d : ZoneDyn := { ZoneDyn.fresh with hold := some ⟨.s1, .ordinary, false⟩, entry := .due }
    let e : ZoneDyn := { ZoneDyn.fresh with hold := some ⟨.s1, .ordinary, true⟩, dwell := .due }
    site.handling = none ∧ (site.setZone 0 (some d)).zones.get 0 = some d ∧ d.entry = .due ∧
    (site.ctx.get .s1).link ≠ .offline ∧ (site.setZone 0 (some e)).zones.get 0 = some e ∧
    e.dwell = .due := by decide

/-- A BOOK before its lead, at its lead and at its start, for a crane and for the supervisor. -/
theorem witness_BookIsAdmitted :
    let f (start lead : Nat) : WireBook := ⟨1, 0, 0, 0, 0, 0, start, 60, lead, 0, 0, 0⟩
    let r (start lead : Nat) : BookRequest := ⟨[0], .timed, start, 60, lead⟩
    nothingDue site = true ∧ site.clock.timeSet = true ∧ (site.ctx.get .s1).link = .online ∧
    acceptBook (f 1100 50) = some (r 1100 50) ∧ acceptBook (f 1050 50) = some (r 1050 50) ∧
    acceptBook (f 1000 0) = some (r 1000 0) ∧ Station.ofNumber? 1 = some .s1 ∧
    (site.bookingFor .s1 false (r 1050 50)).spanBegin = 1000 ∧
    (site.bookingFor .s1 false (r 1000 0)).start = site.clock.time ∧
    site.clock.time < (site.bookingFor .s1 false (r 1100 50)).spanBegin := by decide

/-- Each of those requests passes the checks of the plan and the table. -/
theorem witness_BookIsAdmitted_bookable :
    bookable site .s1 true ⟨[0], .timed, 1100, 60, 50⟩ ∧
    bookable site .s1 false ⟨[0], .onLoad 3600, 1000, 60, 0⟩ := by
  constructor <;> refine ⟨by decide, by decide, by decide, by decide, ?_, by decide⟩
  · rintro ⟨w, h⟩; cases h
  · intro; decide

/-- The supervisor's BOOK, refused by each check of R156 with the checks before it passed: at the boundary values
(a start of 999 at the time 1000, a table of 48, a booking whose span begins one second before the end of the
other's). -/
theorem witness_BookIsAdmitted_refused :
    let f (zone mode start : Nat) : WireBook := ⟨1, zone, 0, 0, 0, mode, start, 60, 0, 0, 0, 0⟩
    let gives (k : Nat) (g : WireBook) (s : State) (code : Code) (x : Data) : Prop :=
      nothingDue s = true ∧ bookingTableKept s = true ∧
        onLink (after (.supervisorBook 7 k 0 g) s) .supervisor = [.answerSL 7 0x28 code x]
    let bare (r : StationRec) (z : ZoneRec) : State :=
      { site with plan := { site.plan with live := { sitePlan with
          stations := sitePlan.stations.set .s1 r, zones := sitePlan.zones.set 0 z } } }
    let full : State := booked ((List.range 48).map fun i =>
      { lift .pending with number := i + 1, station := .s2, zones := [1], start := 5000 + 60 * i, lead := 0 })
    gives 1 (f 0 0 1000) { site with clock := { site.clock with timeSet := false } } .timeUnset .empty ∧
    gives 7 (f 0 0 1000) site .range .empty ∧ gives 1 (f 64 0 1000) site .range .empty ∧
    gives 3 (f 0 0 1000) site .disabled .empty ∧ gives 1 (f 2 0 1000) site .noZone .empty ∧
    gives 1 (f 0 0 1000) (bare crane ⟨true, [⟨.s2, 0, 0, 0⟩]⟩) .notMember (.zone 0) ∧
    gives 1 (f 0 0 1000) full .full .empty ∧ gives 1 (f 0 0 999) site .late .empty ∧
    gives 1 (f 0 1 1000) (bare { crane with loadStart := false } pair) .loadStart .empty ∧
    gives 1 (f 0 0 1159) (booked [lift .pending]) .overlap (.booking 5) := by decide

theorem witness_CancelEndsTheBooking :
    nothingDue (booked [lift .lead]) = true ∧ 5 ≠ 0 ∧
    (booked [lift .lead]).booking? 5 = some (lift .lead) ∧ (lift .lead).state ≠ .pending ∧
    ((booked [lift .lead]).ctx.get (lift .lead).station).link = .online ∧
    (lift .lead).locked = false := by decide

theorem witness_ExtendSetsThePendingAmount :
    let w : Window := ⟨1060, 60, none, [0], false⟩
    let b := lift (.active w)
    let c := lift (.blocked { w with passed := [] })
    nothingDue (booked [b]) = true ∧ 5 ≠ 0 ∧ (-3600 : Int) ≤ -3600 ∧ (3600 : Int) ≤ 3600 ∧
    (booked [b]).booking? 5 = some b ∧ b.state = .active w ∧ (booked [c]).booking? 5 = some c ∧
    (∀ o ∈ (booked [b]).bookings, o.number ≠ 5 → b.sharesWith o = true → 4661 ≤ o.spanBegin) ∧
    (site.ctx.get b.station).link = .online ∧ b.locked = false := by decide

theorem witness_LockedAndForeignBookingsAreRefused :
    let b := { lift .lead with locked := true }
    nothingDue (booked [b]) = true ∧ (site.ctx.get .s1).link = .online ∧
    (site.ctx.get .s2).link = .online ∧ (booked [b]).booking? 5 = some b ∧ b.station ≠ .s2 ∧
    b.station = .s1 ∧ b.locked = true ∧ (booked [b]).booking? 6 = none := by decide

/-- EXTEND of an unlocked booking of one's own: an amount of 3601, the number 0, a number not in the table that is
and is not the last ended booking, a booking in LEAD, and one whose projected end, 1061, lies one second after the
span of another begins. -/
theorem witness_LockedAndForeignBookingsAreRefused_extend :
    let gives (number : Nat) (amount : Int) (s : State) (code : Code) (x : Data) : Prop :=
      nothingDue s = true ∧ bookingTableKept s = true ∧
        onLink (after (.extend .s1 number amount) s) (.crane .s1) = [.answer 0x08 code x] ∧
        onLink (after (.supervisorExtend 7 number amount) s) .supervisor = [.answerSL 7 0x2A code x]
    let w : Window := ⟨1060, 60, none, [0], false⟩
    let ended := site.setCtx .s1 { onlineCtx with lastEnded := some ⟨6, .done⟩ }
    let next := { lift .pending with number := 6, start := 1110 }
    gives 5 3601 (booked [lift .lead]) .range .empty ∧ gives 0 0 (booked [lift .lead]) .range .empty ∧
    gives 6 0 ended .late .empty ∧ gives 4 0 ended .noBooking .empty ∧
    gives 5 0 (booked [lift .lead]) .notInWindow .empty ∧
    gives 5 0 (booked [lift (.active w), next]) .overlap (.booking 6) := by decide

/-- A booking whose lead begins now, and one whose start is now: TIMED at NORMAL and at HOLD, and ON_LOAD. -/
theorem witness_BookingLeadsAndStarts :
    let p := { lift .pending with start := 1050 }
    let l := { lift .lead with start := 1000, lead := 0 }
    let o := { l with mode := .onLoad 0 }
    let windy := { booked [l] with
      wind := site.wind.set .s1 { WindCtx.reset with stage := .hold } }
    (booked [p]).booking? 5 = some p ∧ leadDue (booked [p]) p = true ∧
    (booked [l]).booking? 5 = some l ∧ startDue (booked [l]) l = true ∧
    ((booked [l]).wind.get l.station).stage = .normal ∧ (windy.wind.get l.station).stage = .hold ∧
    (booked [o]).booking? 5 = some o ∧ o.mode = .onLoad 0 ∧ startDue (booked [o]) o = true ∧
    (∀ c ∈ (booked [p, l]).bookings, c.endDue 1000 = none) ∧
    (∀ c ∈ (booked [l]).bookings, leadDue (booked [l]) c = false) ∧
    (∀ c ∈ (booked [l]).bookings, c.number < 5 → startDue (booked [l]) c = false) := by decide

theorem witness_BookingWindowsRunOut :
    let w : Window := ⟨1000, 1, none, [0], true⟩
    let a := { lift .armed with start := 999, mode := .onLoad 0 }
    let d := lift (.deferred 1000)
    (booked [lift (.active w)]).booking? 5 = some (lift (.active w)) ∧ w.due = true ∧
    (booked [lift (.blocked w)]).booking? 5 = some (lift (.blocked w)) ∧
    (booked [a]).booking? 5 = some a ∧ a.start + acceptOf a.mode < 1000 ∧
    (booked [d]).booking? 5 = some d ∧ d.state = .deferred 1000 ∧ 1000 ≤ site.clock.time ∧
    (∀ c ∈ (booked [a]).bookings, c.inWindow = true → c.endDue 1000 = none) ∧
    (∀ c ∈ (booked [d]).bookings, c.inWindow = true → c.endDue 1000 = none) := by decide

theorem witness_TickCountsAndRamps :
    site.takeDue = site ∧ { site with clock := { site.clock with phase := 19 } }.takeDue =
      { site with clock := { site.clock with phase := 19 } } := by decide

theorem witness_TimeMarkIsJudgedByItsPhase :
    let mark (s : State) : State := s.setPlan { s.plan with pendingCommit := .atMark }
    let off := { site with clock := { site.clock with realign := false } }
    let used := (heldByTwo.setStaged { sitePlan with zones := sitePlan.zones.set 0 ⟨false, []⟩ })
    19 < 20 ∧ site.clock.phase < 20 ∧ site.plan.pendingCommit ≠ .atMark ∧
    (mark site).plan.pendingCommit = .atMark ∧ (mark site).inUseCheck = none ∧
    (mark site).clock.realign = true ∧ (mark site).plan.staged.site.realign = true ∧
    (mark off).clock.realign = false ∧ (mark off).inUseCheck = none ∧
    (mark used).inUseCheck ≠ none ∧ (mark used).plan.commitFailed = false := by decide

theorem witness_SupervisorSetsTimeAndSettings :
    maxTime ≤ maxTime ∧ 0 ≤ maxTime ∧ site.bookings = [] ∧ (booked [lift .pending]).bookings ≠ [] ∧
    65535 ≤ 65535 := by decide

/-- Each of the three values at the first number out of range. -/
theorem witness_SupervisorSetsTimeAndSettings_refused :
    let gives (i : Instr) (cmd : Nat) : Prop :=
      onLink (after i site) .supervisor = [.answerSL 7 cmd .range .empty]
    gives (.setTime 7 (maxTime + 1)) 0x20 ∧ gives (.setSiteDerate 7 65536) 0x21 ∧
    gives (.setRealign 7 2) 0x22 := by decide

/-- The window's closing due with an enrolment held, with nothing listed, and with an ASSIGN listed; an echo
wait over; the run watch at 8; a CHECKING record at 40 cycles of its first and third attempt; an IDENTITY
record silent at 8. -/
theorem witness_LineAndSensorTimersRunOut :
    let line (l : LineRec) : State := { site with line := l }
    let w := { site.line with windowCount := 8 }
    let record (r : SensorRec) : State := site.setSensor .a1 r
    let checking (k : Nat) : SensorRec :=
      { SensorRec.blank with state := .starting .checking, attempts := k, attemptCycles := 40 }
    (line { w with enrolHeld := true }).line.closeDue = true ∧
    (line w).line.closeDue = true ∧ w.enrolHeld = false ∧ w.commands = [] ∧
    (line { w with commands := [.assign .a1] }).line.closeDue = true ∧
    [LineCommand.assign .a1].contains .run = false ∧
    (line { w with echoWait := some (.a1, .due) }).line.echoWait = some (.a1, .due) ∧
    { site with enrolTag := some 9 }.enrolTag = some 9 ∧ site.enrolTag = none ∧
    (line { w with runWatch := some 8 }).line.runWatch = some 8 ∧
    ((record (checking 1)).sensors.get .a1).checkingDue = true ∧ (checking 1).attempts < 3 ∧
    ((record (checking 3)).sensors.get .a1).checkingDue = true ∧ 3 ≤ (checking 3).attempts ∧
    ((record { SensorRec.blank with state := .starting .identity,
                                    attemptCycles := 8 }).sensors.get .a1).silentDue = true := by
  decide

theorem witness_LineCommandsAreTaken :
    let line (st : LineState) : State := { site with line := { site.line with state := st } }
    Addr.ofNumber? 4 = some .a4 ∧ site.line.windowOpen = true ∧ site.line.echoWait = none ∧
    site.line.commands = [] ∧ (site.sensors.get .a4).state = .absent ∧
    site.line.state = .enrolling ∧ (line .off).line.state = .off ∧ (line .running).line.state ≠ .off ∧
    (line .running).line.state = .running ∧ (∀ p, (site.sensors.get .a4).state ≠ .starting p) :=
  ⟨by decide, by decide, by decide, by decide, by decide, by decide, by decide, by decide, by decide,
    fun p h => by cases h⟩

/-- The refusals of the line commands, with the checks before each passed. -/
theorem witness_LineCommandsAreTaken_refused :
    let line (st : LineState) (cs : List LineCommand) : State :=
      { site with line := { site.line with state := st, commands := cs } }
    let gives (i : Instr) (cmd : Nat) (s : State) (code : Code) : Prop :=
      onLink (after i s) .supervisor = [.answerSL 7 cmd code .empty]
    let busy := line .enrolling [.run, .assign .a3]
    let taken := site.setSensor .a4 { SensorRec.blank with state := .assigned }
    let starts := (line .running []).setSensor .a4
      { SensorRec.blank with state := .starting .awaitingCommand }
    gives (.enrolNext 7 5) 0x18 site .range ∧ gives (.enrolNext 7 0) 0x18 site .range ∧
    gives (.enrolNext 7 4) 0x18 (site.setLine { site.line with windowOpen := false }) .closed ∧
    gives (.enrolNext 7 4) 0x18 busy .busy ∧ gives (.enrolNext 7 4) 0x18 taken .inUse ∧
    gives (.runLine 7) 0x19 (line .running []) .lineState ∧ gives (.runLine 7) 0x19 busy .busy ∧
    gives (.startLine 7) 0x1B site .lineState ∧ gives (.sensorRestart 7 5) 0x1C site .range ∧
    gives (.sensorRestart 7 4) 0x1C site .lineState ∧ gives (.sensorRestart 7 4) 0x1C starts .busy := by
  decide

/-- The echo and another word for an enrolled address; a watched ABSENT record; records in IDENTITY with no word and
with seven, in CHECKING with and without a READY, in FIRST_SPEED, in a first and a third attempt; and a speed, a
SENSOR_FAULT and a miss for records in RUNNING below and at the third miss, and in FAULT below and at the eighth
good reply. -/
theorem witness_RunningSensorsFollowTheirReplies :
    let slot (v : Nat) : Slot := bitsOf 10 v ++ check3 (bitsOf 10 v)
    let r (st : SensorState) (miss good : Nat) : SensorRec :=
      { SensorRec.blank with state := st, missRun := miss, goodRun := good }
    let s (words ready attempts : Nat) : SensorRec :=
      { SensorRec.blank with state := .starting .identity, identity := List.replicate words 5,
                             readyRun := ready, attempts := attempts, attemptCycles := 38 }
    { site.line with state := .running }.state = .running ∧ site.line.echoWait = none ∧
    site.line.state = .enrolling ∧ readSlot (slot 3) = .value Addr.a3.number ∧
    readSlot (slot 4) ≠ .value Addr.a3.number ∧ (site.sensors.get .a3).state = .absent ∧
    readSlot (List.replicate 13 true) = .badCheck ∧ 7 < 8 ∧
    (s 0 0 1).identity.length < 7 ∧ (s 7 0 1).identity.length = 7 ∧ (s 7 0 1).attemptCycles < 39 ∧
    (s 7 0 1).identity ≠ [] ∧ (s 0 0 1).identity = [] ∧ (s 0 1 3).readyRun = 1 ∧
    { s 7 1 1 with attemptCycles := 39 }.attemptCycles ≤ 39 ∧ 1 ≤ (s 7 1 1).readyRun ∧
    (s 0 0 2).attempts < 3 ∧ 3 ≤ (s 0 0 3).attempts ∧ (readSlot (slot 1002)).cls = .ready ∧
    (readSlot (slot 1001)).cls = .busy ∧
    (readSlot (slot 999)).cls = .speed 999 ∧ (readSlot (slot 1010)).cls = .sensorFault ∧
    (readSlot []).cls = .missing ∧ (r .running 1 0).missRun < 2 ∧ 2 ≤ (r .running 2 0).missRun ∧
    (r .fault 3 6).goodRun < 7 ∧ 7 ≤ (r .fault 3 7).goodRun := by decide

/-- A reading at its fourth tick and one whose cycle is over; figures that qualify for HOLD, with one
evaluation to go and more; and a drop condition. -/
theorem witness_HandOverEvaluatesEveryStation :
    ({ site with cycle := some ⟨.ordinary, 4⟩ }.cycle) = some ⟨.ordinary, 4⟩ ∧ 4 ≤ 4 ∧ 5 ≤ 5 ∧
    (site.station .s1).enabled = true ∧ (site.station .s3).enabled = false ∧
    greatestFigures (site.runningFigures .s1) = none ∧
    highestQualifying crane (200, 0) = .hold ∧ Stage.normal.rank < Stage.hold.rank ∧
    crane.persistence ≤ 3 + 1 ∧ 2 + 1 < crane.persistence ∧
    highestQualifying crane (149, 99) = .normal ∧ Stage.normal.rank ≤ Stage.caution.rank ∧
    129 + crane.hysteresis < crane.gustAt.caution ∧ site.siteStop = false := by decide

/-- A hand-over without figures raises a station to HOLD, and under a site stop to SHUTDOWN with a booking in
window. -/
theorem witness_HandOverEvaluatesEveryStation_told :
    let due (s : State) : State := { s with cycle := some ⟨.ordinary, 4⟩ }
    let stopped := due { lifting with siteStop := true }
    (due site).handling = none ∧ bookingTableKept (due site) = true ∧
    ((due site).wind.get .s1).stage = .normal ∧
    (((due site).endReading (.const []) 0).wind.get .s1).stage = .hold ∧
    stopped.handling = none ∧ bookingTableKept stopped = true ∧ (stopped.ctx.get .s1).link ≠ .offline ∧
    ((stopped.endReading (.const []) 0).wind.get .s1).stage = .shutdown := by decide

/-- A stage that changes for a station with one booking in window, and with one DEFERRED whose window end lies
ahead and is reached. -/
theorem witness_HandOverEvaluatesEveryStation_change :
    let d (e : Nat) : State := { booked [lift (.deferred e)] with
      wind := site.wind.set .s1 { WindCtx.reset with stage := .hold } }
    lifting.handling = none ∧ bookingTableKept lifting = true ∧
    (lifting.wind.get .s1).stage ≠ .shutdown ∧ (lifting.ctx.get .s1).link ≠ .offline ∧
    (∀ b ∈ lifting.bookings, b.station = .s1 ∧ b.inWindow = true) ∧
    (lift .lead).mode = .timed ∧ (d 1060).handling = none ∧ bookingTableKept (d 1060) = true ∧
    ((d 1060).wind.get .s1).stage ≠ .normal ∧ lift (.deferred 1060) ∈ (d 1060).bookings ∧
    (d 1060).clock.time < 1060 ∧ lift (.deferred 1000) ∈ (d 1000).bookings ∧
    1000 ≤ (d 1000).clock.time := by decide

theorem witness_DropDwellAndClearanceTimerRunOut :
    ({ WindCtx.reset with stage := .hold, dropStart := some 0, dropDue := true } : WindCtx).dropDue =
      true ∧
    ({ VaneCtx.reset with vane := .clearing, timer := .due } : VaneCtx).timer = .due ∧
    ({ VaneCtx.reset with vane := .clearing, timer := .due } : VaneCtx).overdue = false := by decide

/-- The sequence in force for a BRAKED station with the clear condition met, and with a zone of it held by another
with a booking in window; and a CLEARING station with its zones clear, at rest and not. -/
theorem witness_DropDwellAndClearanceTimerRunOut_clearance :
    let windy (s : State) : State :=
      { s with wind := s.wind.set .s2 { WindCtx.reset with stage := .shutdown } }
    let still := { windy site with lim := site.lim.set .s2 .reset }
    let clearing := { site with vane := site.vane.set .s2 { VaneCtx.reset with vane := .clearing } }
    still.handling = none ∧ bookingTableKept still = true ∧
    (windy lifting).handling = none ∧ bookingTableKept (windy lifting) = true ∧
    ((windy lifting).vane.get .s2).vane = .braked ∧ (still.vane.get .s2).vane = .braked ∧ still.inForce .s2 = true ∧
    still.clearCondition .s2 = true ∧
    (windy lifting).inForce .s2 = true ∧ (windy lifting).clearCondition .s2 = false ∧
    (0 : Zone) ∈ (windy lifting).memberZones .s2 ∧ (windy lifting).holder 0 = some .s1 ∧
    ((windy lifting).ctx.get .s1).link ≠ .offline ∧
    (∀ b ∈ (windy lifting).bookings, b.station = .s1 ∧ b.inWindow = true ∧ 0 ∈ b.zones) ∧
    (clearing.vane.get .s2).vane = .clearing ∧ clearing.zonesClearFor .s2 = true ∧
    (clearing.lim.get .s2).vWind ≠ 0 ∧ Station.s2 ∈ clearing.members 0 ∧
    (({ clearing with lim := site.lim.set .s2 .reset }).lim.get .s2).vWind = 0 := by decide

theorem witness_SiteStopHoldsEveryStation :
    (site.station .s1).enabled = true ∧ (site.station .s3).enabled = false ∧
    ({ crane with mode := .advisory } : StationRec).mode = .advisory ∧
    ({ VaneCtx.reset with vane := .clear, vc := true } : VaneCtx).vane = .clear := by decide

/-- An entry in CLEAR, in ACTIVE, and in LATCHED of both latching kinds. -/
theorem witness_AcknowledgementActsOnItsEntry :
    AlarmKind.ofPriority? 3 = some .unsafeVane ∧ AlarmKind.unsafeVane.entry? 6 = some (.unsafeVane .s6) ∧
    (site.alarms.get (.unsafeVane .s6)).state = .clear ∧
    ((site.alarms.set (.unsafeVane .s6) ⟨.active, false⟩).get (.unsafeVane .s6)).state ≠ .clear ∧
    ((site.alarms.set (.unsafeVane .s6) ⟨.latched, false⟩).get (.unsafeVane .s6)).state = .latched ∧
    AlarmKind.unsafeVane.latchClass = .latching ∧
    AlarmKind.ofPriority? 9 = some .sensorFailed ∧
    AlarmKind.sensorFailed.entry? 4 = some (.sensorFailed .a4) ∧
    AlarmKind.sensorFailed.latchClass = .sensorLatching := by decide

/-- Kinds 0 and 14, and scopes out of range for a station, a sensor and a site kind; and their neighbours in
range, whose entries are CLEAR. -/
theorem witness_AcknowledgementActsOnItsEntry_refused :
    let gives (priority scope : Nat) (code : Code) : Prop :=
      onLink (after (.ackAlarm 7 priority scope) site) .supervisor = [.answerSL 7 0x38 code .empty]
    gives 0 0 .range ∧ gives 14 0 .range ∧ gives 2 1 .range ∧ gives 3 0 .range ∧ gives 8 7 .range ∧
    gives 9 0 .range ∧ gives 10 5 .range ∧ gives 11 1 .range ∧
    gives 2 0 .noAlarm ∧ gives 3 6 .noAlarm ∧ gives 8 1 .noAlarm ∧ gives 10 4 .noAlarm ∧
    gives 13 0 .noAlarm := by decide

/-- A good store and a bad one, with SSTOP withdrawn and asserted. -/
theorem witness_PowerOnLoadsThePlan :
    let s := site.setPlan { site.plan with
      store := ⟨⟨sitePlan, 57, Config.storeCheck sitePlan 57⟩, false⟩ }
    (s.plan.store.marker = false ∧ s.plan.store.content.check =
      Config.storeCheck s.plan.store.content.image s.plan.store.content.revision) ∧
    ¬ (site.plan.store.marker = false) ∧ site.sstopPin = false ∧
    { site with sstopPin := true }.sstopPin = true := ⟨⟨rfl, rfl⟩, by decide, by decide, by decide⟩

theorem witness_RestartKeepsPlanAndTime :
    { site with enrolTag := some 9 }.enrolTag = some 9 ∧
    site.sstopPin = false ∧ { site with sstopPin := true }.sstopPin = true ∧
    (site.station .s1).enabled = true := by decide

/-- Frames that are refused, a link with frames waiting and one without, and frames with a bad check that hold
nothing, the start of a frame, and a whole frame. -/
theorem witness_LinksRefuseHuntAndSend :
    [(9 : Byte), 0x30].length = 2 ∧ [(9 : Byte)].length < 2 ∧
    (site.tx.get .supervisor).waiting = [] ∧
    ({ sending := none, waiting := [.alert ⟨.siteStop, 0, 0⟩] } : Tx).waiting =
      .alert ⟨.siteStop, 0, 0⟩ :: [] ∧
    (∀ b ∈ [(0xA5 : Byte), 1, 0x40, 0, 0].tail, b ≠ 0xA5#8) ∧
    huntAgain [0xA5, 3, 0xA5, 9].tail = ([], some [9]) ∧
    huntAgain ([0xA5, 4] ++ envelope [0x03, 0]).tail = ([⟨0x03, [0]⟩], none) ∧
    isBadCheckFrame ([0xA5, 4] ++ envelope [0x03, 0]) = true := by decide

end Sys2Proof.Tests
end

section
/-! Which operations of the units leave the Plan Unit alone. Ticks, expiries, wind cycles and site stops
write nothing that the Plan Unit holds (R1); a commit that takes effect writes it once, in `replaceLive`, and
then tells the other units, which do not write it again (R12). -/

namespace Sys2Proof.Machine

open Sys2Proof.Safety

/-! ### What the shared work leaves alone -/

theorem plan_of_zoneWork {s t : State} (h : zoneWork s t) : t.plan = s.plan := by
  obtain ⟨written, -⟩ := h
  rw [written]

theorem plan_of_holderWork {s t : State} (h : holderWork s t) : t.plan = s.plan :=
  plan_of_zoneWork (zoneWork_of_holderWork h)

theorem plan_foldl {β : Type} {f : State → β → State} (h : ∀ s b, (f s b).plan = s.plan)
    (s : State) (bs : List β) : (bs.foldl f s).plan = s.plan := by
  induction bs generalizing s with
  | nil => rfl
  | cons b bs ih => exact (ih (f s b)).trans (h s b)

@[simp] theorem State.choose_plan (s : State) : s.choose.2.plan = s.plan := rfl

@[simp] theorem State.notify_plan (s : State) (n : Station) (x : Notice) :
    (s.notify n x).plan = s.plan := plan_of_holderWork (holderWork_notify s n x)

@[simp] theorem State.alarmBegins_plan (s : State) (i : AlarmId) :
    (s.alarmBegins i).plan = s.plan := plan_of_holderWork (holderWork_alarmBegins s i)

@[simp] theorem State.alarmEnds_plan (s : State) (i : AlarmId) :
    (s.alarmEnds i).plan = s.plan := plan_of_holderWork (holderWork_alarmEnds s i)

@[simp] theorem State.alarmIs_plan (s : State) (i : AlarmId) (b : Bool) :
    (s.alarmIs i b).plan = s.plan := plan_of_holderWork (holderWork_alarmIs s i b)

@[simp] theorem State.recompute_plan (s : State) (n : Station) : (s.recompute n).plan = s.plan :=
  plan_of_holderWork (holderWork_recompute s n)

@[simp] theorem State.reevalPermit_plan (s : State) (n : Station) :
    (s.reevalPermit n).plan = s.plan := plan_of_holderWork (holderWork_reevalPermit s n)

@[simp] theorem State.judgeClear_plan (s : State) (n : Station) :
    (s.judgeClear n).plan = s.plan := plan_of_holderWork (holderWork_judgeClear s n)

@[simp] theorem State.setVWind_plan (s : State) (n : Station) (v : Nat) :
    (s.setVWind n v).plan = s.plan := by
  simp only [State.setVWind]
  split <;> simp

/-! ### Expiries of the units (R30, R32, R55, R57, R135) -/

@[simp] theorem State.expireReport_plan (s : State) (n : Station) :
    (s.expireReport n).plan = s.plan := by
  simp only [State.expireReport]
  split <;> simp

@[simp] theorem State.staleEnds_plan (s : State) (n : Station) (was : LinkState) :
    (s.staleEnds n was).plan = s.plan := by
  simp only [State.staleEnds]
  split <;> simp

theorem zoneWork_loseWaits (s : State) (n : Station) : zoneWork s (s.loseWaits n) :=
  zoneWork_trans
    (zoneWork_trans (zoneWork_foldl (fun s z => zoneWork_modZone s z _) s _)
      (zoneWork_foldl zoneWork_serve _ _))
    (zoneWork_serveMemberZones _ n)

@[simp] theorem State.expireLink_plan (s : State) (n : Station) :
    (s.expireLink n).plan = s.plan := by
  simp only [State.expireLink]
  split <;> simp [plan_of_zoneWork (zoneWork_loseWaits _ n)]

theorem zoneWork_expireEntry (s : State) (z : Zone) : zoneWork s (s.expireEntry z) := by
  unfold State.expireEntry
  split
  · split
    · exact zoneWork_trans
        (zoneWork_trans (zoneWork_modZone s z _)
          (zoneWork_of_holderWork (holderWork_trans (holderWork_notify _ _ _)
            (holderWork_holderChanged _ z))))
        (zoneWork_serveAt _ z _)
    · exact zoneWork_refl s
  · exact zoneWork_refl s

theorem zoneWork_expireDwell (s : State) (z : Zone) : zoneWork s (s.expireDwell z) := by
  unfold State.expireDwell
  split
  · split
    · exact zoneWork_trans
        (zoneWork_trans (zoneWork_modZone s z _)
          (zoneWork_of_holderWork (holderWork_holderChanged _ z)))
        (zoneWork_serveAt _ z _)
    · exact zoneWork_refl s
  · exact zoneWork_refl s

theorem holderWork_expireClearance (s : State) (n : Station) :
    holderWork s (s.expireClearance n) := by
  simp only [State.expireClearance]
  split
  · exact holderWork_trans (holderWork_setVane s n _) (holderWork_setOverdue _ n true)
  · exact holderWork_refl s

/-! ### Stages (R115 .. R124) -/

@[simp] theorem State.stageToldBookings_plan (s : State) (n : Station) (stage : Stage) :
    (s.stageToldBookings n stage).plan = s.plan :=
  plan_of_zoneWork (zoneWork_stageToldBookings s n stage)

@[simp] theorem State.judgeSequence_plan (s : State) (n : Station) :
    (s.judgeSequence n).plan = s.plan := plan_of_zoneWork (zoneWork_judgeSequence s n)

@[simp] theorem State.changeStage_plan (s : State) (n : Station) (stage : Stage) (first : Bool) :
    (s.changeStage n stage first).plan = s.plan := by
  simp only [State.changeStage, State.tellStage]
  split
  · rfl
  · split <;> simp

@[simp] theorem State.takeFall_plan (s : State) (n : Station) : (s.takeFall n).plan = s.plan := by
  simp only [State.takeFall, State.fall]
  split
  · split <;> simp
  · rfl

@[simp] theorem State.formFigures_plan (s : State) (n : Station) :
    (s.formFigures n).plan = s.plan := by
  simp only [State.formFigures]
  split <;> simp

@[simp] theorem State.evaluateDrop_plan (s : State) (n : Station) (f : Nat × Nat) :
    (s.evaluateDrop n f).plan = s.plan := by
  simp only [State.evaluateDrop]
  split
  · split <;> simp
  · simp

@[simp] theorem State.evaluateRaise_plan (s : State) (n : Station) (f : Nat × Nat) (first : Bool) :
    (s.evaluateRaise n f first).plan = s.plan := by
  unfold State.evaluateRaise
  extract_lets r w q count
  split <;> simp

@[simp] theorem State.evaluateStation_plan (s : State) (n : Station) (first : Bool) :
    (s.evaluateStation n first).plan = s.plan := by
  simp only [State.evaluateStation]
  split
  case isFalse => rfl
  case isTrue =>
    split
    · simp
    · split
      · split <;> simp
      · simp

@[simp] theorem State.handOver_plan (s : State) (k : Nat) : (s.handOver k).plan = s.plan :=
  plan_foldl (fun s n => s.evaluateStation_plan n _) s _

@[simp] theorem State.stopStation_plan (s : State) (n : Station) (first : Bool) :
    (s.stopStation n first).plan = s.plan := by
  simp only [State.stopStation]
  split <;> simp

@[simp] theorem State.takeSiteStop_plan (s : State) (k : Nat) :
    (s.takeSiteStop k).plan = s.plan :=
  (plan_foldl (fun s n => s.stopStation_plan n (bookingFirst k n)) _ _).trans
    (State.alarmBegins_plan _ _)

/-! ### The wind line (R91 .. R109) -/

@[simp] theorem State.putRecord_plan (s : State) (a : Addr) (r : SensorRec) :
    (s.putRecord a r).plan = s.plan := by
  simp only [State.putRecord]
  split <;> split <;> split <;> simp

@[simp] theorem State.listCommand_plan (s : State) (c : LineCommand) :
    (s.listCommand c).plan = s.plan := by
  simp only [State.listCommand]
  split <;> simp

@[simp] theorem State.runRecord_plan (s : State) (a : Addr) : (s.runRecord a).plan = s.plan := by
  simp only [State.runRecord]
  split <;> simp

@[simp] theorem State.commandSent_plan (s : State) (c : LineCommand) :
    (s.commandSent c).plan = s.plan := by
  cases c with
  | assign a => rfl
  | run => exact plan_foldl State.runRecord_plan _ _
  | runTo a =>
    simp only [State.commandSent]
    split <;> simp

@[simp] theorem State.sendCommand_plan (s : State) (c : LineCommand) :
    (s.sendCommand c).plan = s.plan := State.commandSent_plan _ c

@[simp] theorem State.startCycle_plan (s : State) : s.startCycle.plan = s.plan := by
  simp only [State.startCycle]
  split <;> simp

@[simp] theorem State.closeWindow_plan (s : State) : s.closeWindow.plan = s.plan := by
  simp only [State.closeWindow]
  split
  · split
    · rfl
    · split <;> simp
  · rfl

@[simp] theorem State.answerEnrol_plan (s : State) (code : Code) :
    (s.answerEnrol code).plan = s.plan := by
  simp only [State.answerEnrol]
  split <;> rfl

@[simp] theorem State.readEcho_plan (s : State) (slots : PerAddr Slot) :
    (s.readEcho slots).plan = s.plan := by
  simp only [State.readEcho]
  split
  · split <;> simp
  · rfl

@[simp] theorem State.expireEcho_plan (s : State) : s.expireEcho.plan = s.plan := by
  simp only [State.expireEcho]
  split <;> simp

@[simp] theorem State.stopWatch_plan (s : State) : s.stopWatch.plan = s.plan := by
  simp only [State.stopWatch]
  split <;> rfl

@[simp] theorem State.failAttempt_plan (s : State) (a : Addr) :
    (s.failAttempt a).plan = s.plan := by
  simp only [State.failAttempt]
  split <;> simp

@[simp] theorem State.expireChecking_plan (s : State) (a : Addr) :
    (s.expireChecking a).plan = s.plan := by
  simp only [State.expireChecking]
  split <;> simp

@[simp] theorem State.expireCheckingBelow_plan (s : State) (a : Addr) :
    (s.expireCheckingBelow a).plan = s.plan := plan_foldl State.expireChecking_plan s _

@[simp] theorem State.expireSilent_plan (s : State) (a : Addr) :
    (s.expireSilent a).plan = s.plan := by
  simp only [State.expireSilent]
  split <;> simp

@[simp] theorem State.findWatched_plan (s : State) (a : Addr) (x : Reply) :
    (s.findWatched a x).plan = s.plan := by
  simp only [State.findWatched]
  split
  · split <;> simp
  · rfl

@[simp] theorem State.readAttempt_plan (s : State) (a : Addr) (moved : Option SensorRec) :
    (s.readAttempt a moved).plan = s.plan := by
  cases moved <;> simp [State.readAttempt]

@[simp] theorem State.readAddr_plan (slots : PerAddr Slot) (s : State) (a : Addr) :
    (State.readAddr slots s a).plan = s.plan := by
  simp only [State.readAddr]
  split <;> simp

@[simp] theorem State.readSlots_plan (s : State) (kind : CycleKind) (slots : PerAddr Slot) :
    (s.readSlots kind slots).plan = s.plan := by
  unfold State.readSlots
  split
  · simp
  · exact (plan_foldl (State.readAddr_plan slots) _ _).trans (s.readEcho_plan slots)
  · rfl

@[simp] theorem State.takeCycleEnds_plan (s : State) : s.takeCycleEnds.plan = s.plan :=
  calc s.takeCycleEnds.plan
    _ = (Addr.all.foldl State.expireChecking s.expireEcho.stopWatch).plan :=
        plan_foldl State.expireSilent_plan _ _
    _ = s.expireEcho.stopWatch.plan := plan_foldl State.expireChecking_plan _ _
    _ = s.plan := by simp

@[simp] theorem State.endReading_plan (s : State) (slots : PerAddr Slot) (k : Nat) :
    (s.endReading slots k).plan = s.plan := by
  simp only [State.endReading]
  split
  · split <;> simp
  · rfl

/-! ### Ticks and time marks (R147 .. R151)

The clock reaches the Plan Unit in two places: a second boundary makes an AT_TIME commit due, and what is due
is taken before the next tick (R11). -/

/-- No commit is waiting for the site time. -/
def PlanUnit.awaitsNoTime (p : PlanUnit) : Prop :=
  ∀ target due, p.pendingCommit ≠ .atTime target due

theorem PlanUnit.awaitsNoTime_of_absent {p : PlanUnit} (h : p.pendingCommit = .absent) :
    p.awaitsNoTime := by simp [PlanUnit.awaitsNoTime, h]

theorem PlanUnit.awaitsNoTime_of_atMark {p : PlanUnit} (h : p.pendingCommit = .atMark) :
    p.awaitsNoTime := by simp [PlanUnit.awaitsNoTime, h]

theorem PlanUnit.awaitsNoTime_of_eq {p q : PlanUnit} (e : q = p) (h : p.awaitsNoTime) :
    q.awaitsNoTime := by rw [e]; exact h

theorem PlanUnit.boundary_of_awaitsNoTime {p : PlanUnit} (h : p.awaitsNoTime) (now : Nat) :
    p.boundary now = p := by
  unfold PlanUnit.boundary
  split
  · exact absurd ‹_› (h _ _)
  · rfl
  · rfl

theorem State.atTimeMoment_of_awaitsNoTime {s : State} (h : s.plan.awaitsNoTime) :
    s.atTimeMoment = s := by
  unfold State.atTimeMoment
  split
  · exact absurd ‹_› (h _ _)
  · rfl

/-- What is due leaves the plan alone, but for the moment of an AT_TIME commit, which comes last. -/
theorem State.takeExpiries_plan {s : State} (h : s.plan.awaitsNoTime) :
    s.takeExpiries.plan = s.plan := by
  have reports := plan_foldl State.expireReport_plan s Station.all
  have links := (plan_foldl State.expireLink_plan _ Station.all).trans reports
  have entries := (plan_of_zoneWork (zoneWork_foldl zoneWork_expireEntry _ Zone.all)).trans links
  have dwells := (plan_of_zoneWork (zoneWork_foldl zoneWork_expireDwell _ Zone.all)).trans entries
  have clearances :=
    (plan_of_holderWork (holderWork_foldl holderWork_expireClearance _ Station.all)).trans dwells
  have falls := (plan_foldl State.takeFall_plan _ Station.all).trans clearances
  have bookings := (plan_of_zoneWork (zoneWork_settleBookings _)).trans falls
  have moment := State.atTimeMoment_of_awaitsNoTime (PlanUnit.awaitsNoTime_of_eq bookings h)
  exact (congrArg State.plan moment).trans bookings

@[simp] theorem State.takeReading_plan (s : State) : s.takeReading.plan = s.plan := by
  simp only [State.takeReading]
  split
  · split <;> simp
  · rfl

theorem State.takeDue_plan {s : State} (h : s.plan.awaitsNoTime) : s.takeDue.plan = s.plan := by
  simp [State.takeDue, State.takeLine, State.takeExpiries_plan h]

@[simp] theorem State.limitTick_plan (s : State) (n : Station) :
    (s.limitTick n).plan = s.plan := by
  simp only [State.limitTick]
  split <;> simp

@[simp] theorem State.tickEvent_plan (s : State) : s.tickEvent.plan = s.plan :=
  plan_foldl State.limitTick_plan _ _

@[simp] theorem State.tickCycle_plan (s : State) : s.tickCycle.plan = s.plan := by
  simp only [State.tickCycle]
  split
  · split <;> simp
  · rfl

@[simp] theorem State.countDrop_plan (s : State) (n : Station) :
    (s.countDrop n).plan = s.plan := by
  simp only [State.countDrop]
  split
  · split <;> rfl
  · rfl

/-- The counts of a second boundary at the zones and the stations. -/
theorem plan_countZone_countDrop (s : State) :
    (Station.all.foldl State.countDrop (Zone.all.foldl State.countZone s)).plan = s.plan :=
  (plan_foldl State.countDrop_plan _ _).trans
    (plan_of_zoneWork (zoneWork_foldl (fun s z => zoneWork_modZone s z _) _ _))

theorem State.secondBoundary_plan {s : State} (h : s.plan.awaitsNoTime) :
    s.secondBoundary.plan = s.plan := by
  unfold State.secondBoundary
  simp only [State.countBookings, State.setBookings_plan, State.setPlan_plan]
  generalize hd : Station.all.foldl State.countDrop _ = drops
  have kept : drops.plan = s.plan := by
    rw [← hd, plan_countZone_countDrop]
    rfl
  exact (PlanUnit.boundary_of_awaitsNoTime (PlanUnit.awaitsNoTime_of_eq kept h) _).trans kept

theorem State.takeTick_plan {s : State} (h : s.plan.awaitsNoTime) (phase : Nat) (boundary : Bool) :
    (s.takeTick phase boundary).plan = s.plan := by
  have counted := State.secondBoundary_plan
    (s := { s.setClock { s.clock with phase := phase } with tickInterval := tickLength }) h
  cases boundary with
  | false => simp [State.takeTick]
  | true => simpa [State.takeTick] using counted

theorem State.tick_plan {s : State} (h : s.plan.awaitsNoTime) : s.tick.plan = s.plan := by
  have due := State.takeDue_plan h
  simp only [State.tick]
  rw [State.takeTick_plan (PlanUnit.awaitsNoTime_of_eq due h), due]

@[simp] theorem State.endCycle_plan (s : State) : s.endCycle.plan = s.plan := rfl

theorem State.rephase_plan {s : State} (h : s.plan.awaitsNoTime) (boundary : Bool) :
    (s.rephase boundary).plan = s.plan := by
  have due := (s.takeDue.endCycle_plan).trans (State.takeDue_plan h)
  simp only [State.rephase, State.rephaseNow]
  rw [State.takeTick_plan (PlanUnit.awaitsNoTime_of_eq due h), due]

theorem State.markInStep_plan {s : State} (h : s.plan.awaitsNoTime) (sinceTick : Nat) :
    (s.markInStep sinceTick).plan = s.plan := by
  unfold State.markInStep
  generalize ht : (if s.clock.slip = true then _ else s) = t
  have kept : t.plan = s.plan := by
    rw [← ht]
    split <;> simp
  simp only
  split
  · split
    · exact kept
    · exact (State.tick_plan (PlanUnit.awaitsNoTime_of_eq kept h)).trans kept
  · exact kept

theorem State.markSlipped_plan {s : State} (h : s.plan.awaitsNoTime) (phase : Nat) :
    (s.markSlipped phase).plan = s.plan := by
  unfold State.markSlipped
  simp only
  generalize ht : (if s.clock.slip = true then _ else _) = t
  have kept : t.plan = s.plan := by
    rw [← ht]
    split <;> simp
  split
  · exact (State.rephase_plan (PlanUnit.awaitsNoTime_of_eq kept h) _).trans kept
  · exact kept

/-- The Site Clock's own part of a time mark leaves the plan alone. -/
theorem State.judgeMark_plan {s : State} (h : s.plan.awaitsNoTime) (phase sinceTick : Nat) :
    (s.judgeMark phase sinceTick).plan = s.plan := by
  unfold State.judgeMark
  split
  · exact State.markInStep_plan h sinceTick
  · exact State.markSlipped_plan h phase

/-! ### A commit that takes effect (R12, R13) -/

@[simp] theorem State.clearStationEntries_plan (s : State) (n : Station) :
    (s.clearStationEntries n).plan = s.plan :=
  plan_foldl (fun s i => s.setEntry_plan i .cleared) s _

@[simp] theorem State.commitStation_plan (s : State) (n : Station) :
    (s.commitStation n).plan = s.plan := State.clearStationEntries_plan _ n

@[simp] theorem State.commitArbiter_plan (s : State) (changed : List Zone)
    (disabled : List Station) : (s.commitArbiter changed disabled).plan = s.plan := by
  unfold State.commitArbiter
  extract_lets zones arbiters
  have zonesPlan : zones.plan = s.plan := plan_foldl (f := State.recreateZone) (fun _ _ => rfl) s _
  have arbitersPlan : arbiters.plan = zones.plan :=
    plan_foldl (f := fun s n => s.setArb n .reset) (fun _ _ => rfl) zones _
  rw [plan_of_holderWork (holderWork_foldl holderWork_reevalConflict _ _), arbitersPlan, zonesPlan]

@[simp] theorem State.commitBookings_plan (s : State) : s.commitBookings.plan = s.plan := by
  refine plan_of_zoneWork (zoneWork_overBookings s _ fun s b => ?_)
  split
  · exact zoneWork_endBooking s b _
  · exact zoneWork_refl s

@[simp] theorem State.commitWind_plan (s : State) (disabled enabled : List Station) (k : Nat) :
    (s.commitWind disabled enabled k).plan = s.plan := by
  simp only [State.commitWind]
  have resets := plan_foldl (f := fun s n => s.setWind n .reset) (fun _ _ => rfl) s
    (disabled ++ enabled)
  split
  · exact (plan_foldl (fun s n => s.changeStage_plan n _ _) _ _).trans resets
  · exact resets

@[simp] theorem State.commitBoth_plan (s : State) (disabled enabled : List Station) (k : Nat) :
    (s.commitBoth disabled enabled k).plan = s.plan := by
  simp only [State.commitBoth]
  split <;> simp

@[simp] theorem State.commitSpeed_plan (disabled : List Station) (s : State) (n : Station) :
    (State.commitSpeed disabled s n).plan = s.plan := by
  simp only [State.commitSpeed]
  split
  · simp
  · split <;> simp

@[simp] theorem State.commitLimits_plan (s : State) (disabled : List Station) :
    (s.commitLimits disabled).plan = s.plan :=
  (plan_foldl State.recompute_plan _ _).trans (plan_foldl (State.commitSpeed_plan disabled) s _)

@[simp] theorem State.commitVane_plan (s : State) (n : Station) :
    (s.commitVane n).plan = s.plan := by
  simp only [State.commitVane]
  split <;> simp

@[simp] theorem State.commitShutdown_plan (s : State) (disabled : List Station) (k : Nat) :
    (s.commitShutdown disabled k).plan = s.plan :=
  (plan_foldl State.commitVane_plan _ _).trans 
    (plan_foldl (f := fun s n => s.setVane n .reset) (fun _ _ => rfl) s _)

/-- After the Plan Unit's own part of a commit no other block writes the plan. -/
theorem State.commitEffect_plan (s : State) (k : Nat) :
    (s.commitEffect k).plan = s.replaceLive.plan := by
  simp only [State.commitEffect]
  rw [plan_foldl State.reevalPermit_plan]
  simp only [State.commitShutdown_plan, State.commitLimits_plan, State.commitBoth_plan,
    State.commitArbiter_plan]
  exact plan_foldl State.commitStation_plan _ _

theorem State.replaceLive_plan (s : State) :
    s.replaceLive.plan =
      { s.plan with live := s.plan.staged, revision := (s.plan.revision + 1) % 65536,
                    pendingCommit := .absent, invalid := false, commitFailed := false } := rfl

@[simp] theorem State.commitNow_pendingCommit (s : State) :
    s.commitNow.plan.pendingCommit = .absent := by
  rw [State.commitNow, State.commitEffect_plan, State.replaceLive_plan]

/-- A pending commit that comes to its moment is pending no more: it takes effect or is abandoned (R11). -/
@[simp] theorem State.commitMoment_pendingCommit (s : State) :
    s.commitMoment.plan.pendingCommit = .absent := by
  unfold State.commitMoment
  split
  · exact s.commitNow_pendingCommit
  · simp only
    split <;> simp

end Sys2Proof.Machine
end

section
/-! A pending commit and its end: CANCEL_COMMIT (R14), and the two moments after which no commit is pending
(R11, R152). -/

namespace Sys2Proof.Machine

open Sys2Proof.Safety

/-! ### What the commands answer -/

@[simp] theorem replied_plan (l : Link) (f : Frame) (s : State) : (replied l f s).plan = s.plan := rfl

theorem State.commitPending_iff (s : State) :
    s.commitPending = true ↔ s.plan.pendingCommit ≠ .absent := by simp [State.commitPending]

theorem exec_cancelCommit_of_pending {s : State} (h : s.plan.pendingCommit ≠ .absent) (tag : Nat) :
    exec (.cancelCommit tag) s = .next (replied .supervisor (.answerSL tag 0x06 .ok .empty)
      (s.setPlan { s.plan with pendingCommit := .absent })) :=
  congrArg Host.Outcome.next <| State.command_answers s tag 0x06 State.cancelCommit <|
    if_pos ((State.commitPending_iff _).mpr h)

theorem exec_cancelCommit_of_absent {s : State} (h : s.plan.pendingCommit = .absent) (tag : Nat) :
    exec (.cancelCommit tag) s =
      .next (replied .supervisor (.answerSL tag 0x06 .notPending .empty) s) :=
  congrArg Host.Outcome.next <| State.command_answers s tag 0x06 State.cancelCommit <|
    if_neg fun pending => (State.commitPending_iff _).mp pending h

/-- Without a commit pending the staged plan is not frozen: RESTAGE copies the live plan into it (R7). -/
theorem exec_restage_of_absent {s : State} (h : s.plan.pendingCommit = .absent) (tag : Nat) :
    exec (.restage tag) s = .next (replied .supervisor (.answerSL tag 0x04 .ok .empty)
      (s.setPlan { s.plan with staged := s.plan.live })) :=
  congrArg Host.Outcome.next <| State.command_answers s tag 0x04 State.restage <|
    if_neg fun pending => (State.commitPending_iff _).mp pending h

/-! ### The moments of a commit -/

theorem exec_atTimeCommitMoment_of_due {s : State} {target : Nat}
    (h : s.plan.pendingCommit = .atTime target true) :
    exec .atTimeCommitMoment s = .next s.commitMoment := by
  have moment : s.atTimeMoment = s.commitMoment := by rw [State.atTimeMoment, h]
  exact congrArg Host.Outcome.next moment

theorem exec_atTimeCommitMoment_of_awaitsNoTime {s : State} (h : s.plan.awaitsNoTime) :
    exec .atTimeCommitMoment s = .next s :=
  congrArg Host.Outcome.next (State.atTimeMoment_of_awaitsNoTime h)

theorem State.atMarkMoment_of_atMark {s : State} (h : s.plan.pendingCommit = .atMark) :
    s.atMarkMoment = s.commitMoment := by rw [State.atMarkMoment, h]

/-- A mark that finds no commit pending leaves the plan alone. -/
theorem plan_of_timeMark_of_absent {s u : State} {sinceTick : Nat}
    (h : s.plan.pendingCommit = .absent) (mark : exec (.timeMark sinceTick) s = .next u) :
    u.plan = s.plan := by
  have noMark : s.plan.pendingCommit ≠ .atMark := by rw [h]; nofun
  have judged : exec (.timeMark sinceTick) s =
      .next (s.judgeMark (markPhase s.clock.phase s.tickInterval sinceTick) sinceTick) := by
    simp only [exec, execTimeMark, State.takeMark, if_neg noMark]
  rw [judged] at mark
  cases mark
  exact State.judgeMark_plan (PlanUnit.awaitsNoTime_of_absent h) _ _

/-- A mark takes the moment of an AT_MARK commit, in either order of the clock and the Plan Unit (R152): the
clock's part before the moment leaves the commit pending, and after it finds none. -/
theorem State.takeMark_pendingCommit {s : State} (h : s.plan.pendingCommit = .atMark)
    (phase sinceTick : Nat) (clockFirst : Bool) :
    (s.takeMark phase sinceTick clockFirst).plan.pendingCommit = .absent := by
  have waits := PlanUnit.awaitsNoTime_of_atMark h
  have judged := State.judgeMark_plan waits phase sinceTick
  simp only [State.takeMark, if_pos h]
  cases clockFirst with
  | true =>
    generalize ht : (if s.markBoundary phase = true then _ else _) = t
    have kept : t.plan = s.plan := by
      rw [← ht]
      split
      · exact (State.takeExpiries_plan (PlanUnit.awaitsNoTime_of_eq judged waits)).trans judged
      · exact judged
    simp [State.atMarkMoment_of_atMark (s := t) (by rw [kept, h])]
  | false =>
    have taken : s.atMarkMoment.plan.pendingCommit = .absent := by
      simp [State.atMarkMoment_of_atMark h]
    simp [State.judgeMark_plan (PlanUnit.awaitsNoTime_of_absent taken), taken]

theorem pendingCommit_of_timeMark_of_atMark {s t : State} {sinceTick : Nat}
    (h : s.plan.pendingCommit = .atMark) (mark : exec (.timeMark sinceTick) s = .next t) :
    t.plan.pendingCommit = .absent := by
  simp only [exec, execTimeMark, if_pos h, Host.Outcome.next.injEq] at mark
  rw [← mark]
  exact State.takeMark_pendingCommit (s := s.choose.2) h _ _ _

/-- Settles O27: the answers follow from `cancelCommit` and `restage` over the pending-commit record, and the
moments from what a time mark and a commit's moment leave of it. -/
theorem cancelCommitTakesThePendingCommitAway :
    Obligations.CancelCommitTakesThePendingCommitAway := by
  unfold Obligations.CancelCommitTakesThePendingCommitAway
  intro s tag
  refine ⟨fun pending => ?_, fun absent => exec_cancelCommit_of_absent absent tag, ?_, ?_⟩
  · have absent : (replied .supervisor (.answerSL tag 0x06 .ok .empty)
        (s.setPlan { s.plan with pendingCommit := .absent })).plan.pendingCommit = .absent := rfl
    exact ⟨exec_cancelCommit_of_pending pending tag, exec_restage_of_absent absent tag,
      exec_atTimeCommitMoment_of_awaitsNoTime (PlanUnit.awaitsNoTime_of_absent absent),
      fun _ _ mark => plan_of_timeMark_of_absent absent mark⟩
  · intro target t due moment
    rw [exec_atTimeCommitMoment_of_due due] at moment
    cases moment
    exact exec_cancelCommit_of_absent s.commitMoment_pendingCommit tag
  · intro sinceTick t atMark mark
    exact exec_cancelCommit_of_absent (pendingCommit_of_timeMark_of_atMark atMark mark) tag

end Sys2Proof.Machine
end

section
/-! The empty plan (R20): the checks it passes as a staged plan, and the power-on that makes it live. -/

namespace Sys2Proof.Machine

/-! ### Staging (R3, R5) -/

/-- What STAGE_STATION carries for a station of the empty plan. -/
abbrev emptyStationFields : WireStation := readWireStation (stationRecBytes emptyStation)

theorem emptyStationFields_inRange : stationFieldsOk emptyStationFields = true := by decide

theorem readStation_emptyStationFields : readStation emptyStationFields = emptyStation := by decide

theorem emptyStation_consistent : stationConsistent emptyStation = true := by decide

theorem acceptStation_emptyStation : acceptStation emptyStationFields = some emptyStation := by
  simp [acceptStation, emptyStationFields_inRange, readStation_emptyStationFields,
    emptyStation_consistent]

/-- A disabled zone record without members passes the staging checks, which ask for two members of an enabled
zone alone (R5). -/
theorem acceptZone_disabled_memberless :
    acceptZone (readWireZone (zoneRecBytes { enabled := false, members := [] })) =
      some { enabled := false, members := [] } := by decide

/-! ### The checks of a commit (R9, R10) -/

theorem firstFailing_eq_none {station : Station → Bool} {zone : Zone → Bool}
    (hs : ∀ n, station n = false) (hz : ∀ z, zone z = false) : firstFailing station zone = none := by
  have noStation : Station.all.find? station = none := by simp [hs]
  have noZone : Zone.all.find? zone = none := by simp [hz]
  simp [firstFailing, noStation, noZone]

/-- A staged plan that enables nothing passes the cross-record check (R9). -/
theorem State.crossCheck_of_disabled {s : State}
    (hs : ∀ n, (s.plan.staged.stations.get n).enabled = false)
    (hz : ∀ z, (s.plan.staged.zones.get z).enabled = false) : s.crossCheck = none :=
  firstFailing_eq_none (fun n => by simp [stationCrossFails, hs n])
    (fun z => by simp [zoneCrossFails, hz z])

/-- A staged plan that is the live plan passes the in-use check (R10): it disables no station and changes no
zone. -/
theorem State.inUseCheck_of_unchanged {s : State} (h : s.plan.staged = s.plan.live) :
    s.inUseCheck = none :=
  firstFailing_eq_none (fun n => by simp [State.stationInUse, State.station, h])
    (fun z => by simp [State.zoneInUse, State.zoneChanged, h])

/-! ### Power-on (R19) -/

@[simp] theorem State.takeLevel_plan (s : State) : s.takeLevel.plan = s.plan := by
  unfold State.takeLevel
  split <;> simp

@[simp] theorem State.powerOn_plan (s : State) : s.powerOn.plan = s.plan.load := by
  simp only [State.powerOn, State.takeLevel_plan]
  split
  · rw [State.alarmBegins_plan]; rfl
  · rfl

theorem PlanUnit.load_live_of_bad {p : PlanUnit} (h : p.store.good = false) :
    p.load.live = emptyPlan := by simp [PlanUnit.load, h]

/-- Settles O5: the values and the staging checks are read off one record of each class, the commit checks
hold of any plan that enables nothing and is live already, and the load decides what a power-on leaves. -/
theorem emptyPlanStandsAsTheManualGivesIt : Obligations.EmptyPlanStandsAsTheManualGivesIt := by
  unfold Obligations.EmptyPlanStandsAsTheManualGivesIt
  have stations (n : Station) : emptyPlan.stations.get n = emptyStation := PerStation.get_const _ n
  have zones (z : Zone) : emptyPlan.zones.get z = { enabled := false, members := [] } :=
    PerZone.get_const _ z
  refine ⟨fun n => ?values, zones, rfl, fun n => ?station, fun z => ?zone, by decide, ?checks, ?load⟩
  case values =>
    rw [stations]
    decide
  case station =>
    rw [stations]
    exact acceptStation_emptyStation
  case zone =>
    rw [zones]
    exact acceptZone_disabled_memberless
  case checks =>
    intro s live staged
    exact ⟨State.crossCheck_of_disabled (fun n => by rw [staged, stations]; rfl)
        (fun z => by rw [staged, zones]),
      State.inUseCheck_of_unchanged (staged.trans live.symm)⟩
  case load =>
    intro s bad
    exact ⟨s.powerOn, rfl, by rw [State.powerOn_plan, PlanUnit.load_live_of_bad bad]⟩

end Sys2Proof.Machine
end

section
/-! The motion permit of a station (R39) through the work of every unit: what a permit's inputs are, which
writes leave them alone, and where the permit is re-evaluated after a write that does not (R40). Each lemma
takes a station whose permit follows its inputs and shows that it does so after the operation. -/

namespace Sys2Proof.Machine

open Sys2Proof.Safety

/-! ### The permit and its inputs -/

theorem permitFollows_iff {s : State} {m : Station} :
    permitFollows s m = true ↔ (s.ctx.get m).mp = s.permit m := beq_iff_eq

/-- The seven conditions of R39, as the permit condition spells them. -/
theorem State.permit_iff (s : State) (m : Station) :
    s.permit m = true ↔
      (s.ctx.get m).link = .online ∧ s.plan.invalid = false ∧ (s.station m).enabled = true ∧
        (s.arb.get m).intrusion = false ∧ (s.vane.get m).unsafeLatched = false ∧
        (s.arb.get m).conflict = false ∧ 0 < (s.lim.get m).vWind := by
  simp [State.permit, permitCondition, and_assoc]

/-- A fold of operations that each keep the permit of a station keeps it. -/
theorem permitFollows_foldl {β : Type} {m : Station} {f : State → β → State}
    (keeps : ∀ {s : State} (b : β), permitFollows s m = true → permitFollows (f s b) m = true)
    {s : State} (bs : List β) (h : permitFollows s m = true) :
    permitFollows (bs.foldl f s) m = true := by
  induction bs generalizing s with
  | nil => exact h
  | cons b bs ih => exact ih (keeps b h)

section Writes

variable (s : State) (m : Station)

/-! ### Writes of one record

The zone table, the wind line, the stages, the clock, the bookings, the alarms and the links are no inputs of a
permit: after a write of one of these the permit follows by the same fact as before it, and the proofs below
give that fact. Two such writes are stated for rewriting. -/

theorem permitFollows_setBookings (bs : List Booking) :
    permitFollows (s.setBookings bs) m = permitFollows s m := rfl

theorem permitFollows_setRx (l : Link) (r : Rx) :
    permitFollows (s.setRx l r) m = permitFollows s m := rfl

variable {s m}

/-! A station's own records hold inputs of its permit, and of no other station's. -/

theorem permitFollows_setCtx_of_ne (h : permitFollows s m = true) {n : Station} (ne : m ≠ n)
    {c : StationCtx} : permitFollows (s.setCtx n c) m = true := by
  simpa [permitFollows, State.permit, State.station, ne] using h

theorem permitFollows_setArb_of_ne (h : permitFollows s m = true) {n : Station} (ne : m ≠ n)
    {c : ArbiterCtx} : permitFollows (s.setArb n c) m = true := by
  simpa [permitFollows, State.permit, State.station, ne] using h

theorem permitFollows_setVane_of_ne (h : permitFollows s m = true) {n : Station} (ne : m ≠ n)
    {c : VaneCtx} : permitFollows (s.setVane n c) m = true := by
  simpa [permitFollows, State.permit, State.station, ne] using h

theorem permitFollows_setLim_of_ne (h : permitFollows s m = true) {n : Station} (ne : m ≠ n)
    {l : LimitCtx} : permitFollows (s.setLim n l) m = true := by
  simpa [permitFollows, State.permit, State.station, ne] using h

/-! Of those records, and of the Plan Unit's, only some fields are inputs. -/

theorem permitFollows_setPlan (h : permitFollows s m = true) {p : PlanUnit}
    (live : p.live = s.plan.live := by rfl) (valid : p.invalid = s.plan.invalid := by rfl) :
    permitFollows (s.setPlan p) m = true := by
  simpa [permitFollows, State.permit, State.station, live, valid] using h

theorem permitFollows_setCtx (h : permitFollows s m = true) {n : Station} {c : StationCtx}
    (link : c.link = (s.ctx.get n).link := by rfl) (mp : c.mp = (s.ctx.get n).mp := by rfl) :
    permitFollows (s.setCtx n c) m = true := by
  by_cases e : m = n
  · subst e
    simpa [permitFollows, State.permit, State.station, link, mp] using h
  · exact permitFollows_setCtx_of_ne h e

theorem permitFollows_setArb (h : permitFollows s m = true) {n : Station} {c : ArbiterCtx}
    (intrusion : c.intrusion = (s.arb.get n).intrusion := by rfl)
    (conflict : c.conflict = (s.arb.get n).conflict := by rfl) :
    permitFollows (s.setArb n c) m = true := by
  by_cases e : m = n
  · subst e
    simpa [permitFollows, State.permit, State.station, intrusion, conflict] using h
  · exact permitFollows_setArb_of_ne h e

theorem permitFollows_setVane (h : permitFollows s m = true) {n : Station} {c : VaneCtx}
    (latch : c.unsafeLatched = (s.vane.get n).unsafeLatched := by rfl) :
    permitFollows (s.setVane n c) m = true := by
  by_cases e : m = n
  · subst e
    simpa [permitFollows, State.permit, State.station, latch] using h
  · exact permitFollows_setVane_of_ne h e

/-- Of v_wind a permit sees only whether it is 0. -/
theorem permitFollows_setLim (h : permitFollows s m = true) {n : Station} {l : LimitCtx}
    (zero : l.vWind = 0 ↔ (s.lim.get n).vWind = 0) : permitFollows (s.setLim n l) m = true := by
  by_cases e : m = n
  · subst e
    simpa [permitFollows, State.permit, State.station, permitCondition, Nat.pos_iff_ne_zero, zero]
      using h
  · exact permitFollows_setLim_of_ne h e

/-! ### Re-evaluation (R40) -/

theorem permitFollows_recompute (h : permitFollows s m = true) (n : Station) :
    permitFollows (s.recompute n) m = true := by
  obtain ⟨l, computed, vWind⟩ := s.recompute_cases n
  rw [computed]
  exact permitFollows_setLim h (by rw [vWind])

/-- A permit that has been re-evaluated follows its inputs, whatever they were. -/
theorem permitFollows_reevalPermit_self (s : State) (n : Station) :
    permitFollows (s.reevalPermit n) n = true := by
  rcases s.reevalPermit_cases n with ⟨same, e⟩ | ⟨-, e⟩ <;> rw [e]
  · exact permitFollows_iff.mpr same.symm
  · refine permitFollows_recompute (permitFollows_iff.mpr ?_) n
    simp [State.permit, State.station]

/-- Work that ends by re-evaluating the permit of a station needs to keep the permits of the others alone. -/
theorem permitFollows_reevalPermit {n : Station}
    (others : m ≠ n → permitFollows s m = true) : permitFollows (s.reevalPermit n) m = true := by
  by_cases ne : m = n
  · subst ne
    exact permitFollows_reevalPermit_self s m
  · rcases s.reevalPermit_cases n with ⟨-, e⟩ | ⟨-, e⟩ <;> rw [e]
    · exact others ne
    · exact permitFollows_recompute (permitFollows_setCtx_of_ne (others ne) ne) n

/-- When every permit has been re-evaluated, every permit follows. -/
theorem permitFollows_foldl_reevalPermit {ns : List Station} (mem : m ∈ ns) (s : State) :
    permitFollows (ns.foldl State.reevalPermit s) m = true := by
  induction ns generalizing s with
  | nil => cases mem
  | cons n ns ih =>
    rcases List.mem_cons.mp mem with e | later
    · subst e
      exact permitFollows_foldl (fun _ h => permitFollows_reevalPermit fun _ => h) ns
        (permitFollows_reevalPermit_self s m)
    · exact ih later _

end Writes

section Shared

variable {s : State} {m : Station} (h : permitFollows s m = true)
include h

/-! ### Frames and alarms -/

theorem permitFollows_raise (l : Link) (f : Frame) : permitFollows (s.raise l f) m = true := by
  unfold State.raise
  split <;> exact h

theorem permitFollows_notify (n : Station) (x : Notice) : permitFollows (s.notify n x) m = true := by
  unfold State.notify
  split
  · exact h
  · exact permitFollows_raise h _ _

theorem permitFollows_alarmBegins (i : AlarmId) : permitFollows (s.alarmBegins i) m = true := by
  simp only [State.alarmBegins]
  split
  · exact permitFollows_raise (s := s.setEntry i _) h _ _
  · exact h

theorem permitFollows_alarmEnds (i : AlarmId) : permitFollows (s.alarmEnds i) m = true := h

theorem permitFollows_alarmIs (i : AlarmId) (b : Bool) :
    permitFollows (s.alarmIs i b) m = true := by
  unfold State.alarmIs
  split
  · exact permitFollows_alarmBegins h i
  · exact permitFollows_alarmEnds h i

omit h in
/-- A request keeps a permit that its work keeps; its answer and the frames held back are no input. -/
theorem permitFollows_handle {l : Link} {work : State → State × Option Frame}
    (keeps : ∀ {t : State}, permitFollows t m = true → permitFollows (work t).1 m = true)
    (h : permitFollows s m = true) : permitFollows (s.handle l work) m = true :=
  keeps (t := { s.setRx l .hunting with handling := some l, held := [] }) h

omit h in
theorem permitFollows_craneRequest {n : Station} {kind : Byte}
    {work : State → State × Code × Data}
    (keeps : ∀ {t : State}, permitFollows t m = true → permitFollows (work t).1 m = true)
    (h : permitFollows s m = true) : permitFollows (s.craneRequest n kind work) m = true :=
  permitFollows_handle keeps h

omit h in
theorem permitFollows_onlineRequest {n : Station} {kind : Byte}
    {work : State → State × Code × Data}
    (keeps : ∀ {t : State}, permitFollows t m = true → permitFollows (work t).1 m = true)
    (h : permitFollows s m = true) : permitFollows (s.onlineRequest n kind work) m = true := by
  refine permitFollows_craneRequest (fun {t} ht => ?_) h
  split
  · exact keeps ht
  · exact ht

omit h in
theorem permitFollows_command {tag cmd : Nat} {work : State → State × Code × Data}
    (keeps : ∀ {t : State}, permitFollows t m = true → permitFollows (work t).1 m = true)
    (h : permitFollows s m = true) : permitFollows (s.command tag cmd work) m = true :=
  permitFollows_handle keeps h

/-! ### v_wind and the clear condition (R83, R134) -/

theorem permitFollows_setOverdue (v : Station) (b : Bool) :
    permitFollows (s.setOverdue v b) m = true := by
  simp only [State.setOverdue]
  split
  · exact h
  · exact permitFollows_alarmIs (permitFollows_setVane h) _ b

theorem permitFollows_judgeClear (v : Station) : permitFollows (s.judgeClear v) m = true := by
  simp only [State.judgeClear]
  split
  · exact permitFollows_setOverdue (permitFollows_setVane h) v false
  · exact h

theorem permitFollows_judgeSwingLine (v : Station) (z : Zone) :
    permitFollows (s.judgeSwingLine v z) m = true := by
  simp only [State.judgeSwingLine]
  split
  · exact permitFollows_setVane h
  · exact h

theorem permitFollows_holderTold (z : Zone) : permitFollows (s.holderTold z) m = true :=
  permitFollows_foldl (fun v h => permitFollows_judgeSwingLine (permitFollows_judgeClear h v) v z)
    _ h

/-- Setting v_wind tells the Station Unit of a crossing of 0, which alone is an input of the permit. -/
theorem permitFollows_setVWind (n : Station) (v : Nat) :
    permitFollows (s.setVWind n v) m = true := by
  simp only [State.setVWind]
  split
  case isTrue same => exact permitFollows_setLim h same.symm.to_iff
  case isFalse crossing =>
    exact permitFollows_judgeClear
      (permitFollows_reevalPermit fun ne => permitFollows_setLim_of_ne h ne) n

theorem permitFollows_limitTick (n : Station) : permitFollows (s.limitTick n) m = true := by
  simp only [State.limitTick]
  split
  · exact permitFollows_recompute (permitFollows_setVWind h n _) n
  · exact h

/-! ### The latches of the Zone Arbiter (R59, R60, R68) -/

theorem permitFollows_latchIntrusion (n : Station) :
    permitFollows (s.latchIntrusion n) m = true := by
  simp only [State.latchIntrusion]
  split
  · exact h
  · exact permitFollows_reevalPermit fun ne =>
      permitFollows_alarmBegins (permitFollows_setArb_of_ne h ne) _

theorem permitFollows_reevalConflict (n : Station) :
    permitFollows (s.reevalConflict n) m = true := by
  simp only [State.reevalConflict]
  split
  · exact h
  · exact permitFollows_reevalPermit fun ne =>
      permitFollows_alarmIs (permitFollows_setArb_of_ne h ne) _ _

theorem permitFollows_recoveryTest (n : Station) :
    permitFollows (s.recoveryTest n) m = true := by
  simp only [State.recoveryTest]
  split
  · exact permitFollows_reevalPermit fun ne =>
      permitFollows_alarmEnds (permitFollows_setArb_of_ne h ne) _
  · exact h

theorem permitFollows_holderChanged (z : Zone) : permitFollows (s.holderChanged z) m = true :=
  permitFollows_foldl (fun n h => permitFollows_reevalConflict h n) _
    (permitFollows_holderTold h z)

/-! ### Zones -/

theorem permitFollows_modZone (z : Zone) (f : ZoneDyn → ZoneDyn) :
    permitFollows (s.modZone z f) m = true := by
  rw [s.modZone_frame z f]
  exact h

theorem permitFollows_bookingPassed (num : Nat) (z : Zone) :
    permitFollows (s.bookingPassed num z) m = true := by
  unfold State.bookingPassed
  split <;> exact h

theorem permitFollows_granted (z : Zone) (n : Station) (kind : GrantKind) :
    permitFollows (s.granted z n kind) m = true :=
  permitFollows_recoveryTest (permitFollows_holderChanged (permitFollows_notify h n _) z) n

theorem permitFollows_grantOrdinary (z : Zone) (n : Station) :
    permitFollows (s.grantOrdinary z n) m = true :=
  permitFollows_granted (permitFollows_modZone h z _) z n _

theorem permitFollows_grantBooked (z : Zone) (n : Station) :
    permitFollows (s.grantBooked z n) m = true :=
  permitFollows_granted (permitFollows_modZone h z _) z n _

theorem permitFollows_serve (z : Zone) : permitFollows (s.serve z) m = true := by
  unfold State.serve
  split
  case h_1 => exact h
  case h_2 d _ =>
    split
    case h_1 => exact h
    case h_2 =>
      split
      · split
        · exact permitFollows_bookingPassed (permitFollows_grantBooked h z _) _ z
        · exact h
      · exact h
    case h_3 =>
      split
      · exact h
      · exact permitFollows_grantOrdinary h z _
    case h_4 => exact h

theorem permitFollows_serveMemberZones (n : Station) :
    permitFollows (s.serveMemberZones n) m = true :=
  permitFollows_foldl (fun z h => permitFollows_serve h z) _ h

theorem permitFollows_serveAt (z : Zone) (n : Station) : permitFollows (s.serveAt z n) m = true :=
  permitFollows_serveMemberZones (permitFollows_serve h z) n

theorem permitFollows_adoptZone (z : Zone) (n : Station) :
    permitFollows (s.adoptZone z n) m = true := by
  have ordinary := permitFollows_granted
    (permitFollows_modZone h z fun d => d.give ⟨n, .ordinary, true⟩ .stopped) z n .ordinary
  unfold State.adoptZone
  split
  · split
    · exact permitFollows_granted (permitFollows_bookingPassed (permitFollows_modZone h z _) _ z)
        z n .booked
    · exact ordinary
  · exact ordinary

theorem permitFollows_adopt (n : Station) : permitFollows (s.adopt n) m = true := by
  refine permitFollows_foldl (fun {s} z h => ?_) _ h
  unfold State.adoptOne
  split
  · exact h
  · split
    · exact permitFollows_adoptZone h z n
    · exact permitFollows_latchIntrusion h n

theorem permitFollows_loseWaits (n : Station) : permitFollows (s.loseWaits n) m = true :=
  permitFollows_serveMemberZones
    (permitFollows_foldl (fun z h => permitFollows_serve h z) _
      (permitFollows_foldl (fun z h => permitFollows_modZone h z _) _ h)) n

theorem permitFollows_sweepAdd (v : Station) : permitFollows (s.sweepAdd v) m = true :=
  permitFollows_foldl (fun z h => permitFollows_modZone h z _) _ h

theorem permitFollows_sweepRemove (v : Station) : permitFollows (s.sweepRemove v) m = true :=
  permitFollows_foldl (fun n h => permitFollows_reevalConflict h n) _
    (permitFollows_serveMemberZones
      (permitFollows_foldl (fun z h => permitFollows_modZone h z _) _ h) v)

/-! ### Judging a report (R58) -/

theorem permitFollows_judgeEntry (n : Station) : permitFollows (s.judgeEntry n) m = true := by
  refine permitFollows_foldl (fun {s} z h => ?_) _ h
  split
  · exact permitFollows_modZone h z _
  · exact h

theorem permitFollows_judgeIntrusion (n : Station) :
    permitFollows (s.judgeIntrusion n) m = true := by
  unfold State.judgeIntrusion
  split
  · exact h
  · exact permitFollows_latchIntrusion h n

theorem permitFollows_judgeDwells (n : Station) : permitFollows (s.judgeDwells n) m = true :=
  permitFollows_foldl (fun z h => permitFollows_modZone h z _) _ h

theorem permitFollows_judgeConflicts (n : Station) :
    permitFollows (s.judgeConflicts n) m = true :=
  permitFollows_foldl (fun n h => permitFollows_reevalConflict h n) _ h

theorem permitFollows_judgeReport (n : Station) (joined : Bool) :
    permitFollows (s.judgeReport n joined) m = true := by
  unfold State.judgeReport
  extract_lets adopted entered judged dwelt
  have adoptedFollows : permitFollows adopted m = true := by
    unfold adopted
    split
    · exact permitFollows_adopt h n
    · exact h
  have enteredFollows : permitFollows entered m = true := permitFollows_judgeEntry adoptedFollows n
  have judgedFollows : permitFollows judged m = true := by
    unfold judged
    split
    · exact enteredFollows
    · exact permitFollows_judgeIntrusion enteredFollows n
  exact permitFollows_recoveryTest
    (permitFollows_judgeConflicts (permitFollows_judgeDwells judgedFollows n) n) n

/-! ### Requests for zones (R48, R50, R51, R66, R67) and the zone timers (R55, R57) -/

theorem permitFollows_holdOpen (z : Zone) (d : ZoneDyn) (c : Station) :
    permitFollows (s.holdOpen z d c).1 m = true := by
  unfold State.holdOpen
  split
  · exact permitFollows_grantOrdinary h z c
  · exact permitFollows_modZone h z _

/-- Every refusal of HOLD leaves the state; what remains opens the zone or queues for it. -/
theorem permitFollows_holdZone (c : Station) (zone : Nat) :
    permitFollows (s.holdZone c zone).1 m = true := by
  fun_cases State.holdZone s c zone
  case case9 => exact permitFollows_holdOpen h _ _ c
  case case10 => exact permitFollows_holdOpen h _ _ c
  all_goals exact h

theorem permitFollows_withdrawZone (c : Station) (zone : Nat) :
    permitFollows (s.withdrawZone c zone).1 m = true := by
  unfold State.withdrawZone
  split
  · exact h
  · split
    · exact permitFollows_serveAt (permitFollows_modZone h _ _) _ c
    · exact h

theorem permitFollows_releaseZone (c : Station) (zone : Nat) :
    permitFollows (s.releaseZone c zone).1 m = true := by
  fun_cases State.releaseZone s c zone
  case case5 z _ _ _ _ _ =>
    exact permitFollows_holderChanged (permitFollows_serveAt (permitFollows_modZone h z _) z c) z
  all_goals exact h

theorem permitFollows_forceRelease (zone : Nat) :
    permitFollows (s.forceRelease zone).1 m = true := by
  fun_cases State.forceRelease s zone
  case case4 =>
    exact permitFollows_serveAt (permitFollows_holderChanged
      (permitFollows_notify (permitFollows_modZone h _ _) _ _) _) _ _
  all_goals exact h

theorem permitFollows_recoverZone (n : Station) (z : Zone) :
    permitFollows (State.recoverZone n s z) m = true := by
  unfold State.recoverZone
  split
  · exact permitFollows_adoptZone h z n
  · exact permitFollows_modZone h z _

theorem permitFollows_recoverStation (number : Nat) :
    permitFollows (s.recoverStation number).1 m = true := by
  unfold State.recoverStation
  split
  · exact h
  case h_2 n _ =>
    split
    · exact h
    · extract_lets recovered c requested
      have recoveredFollows : permitFollows recovered m = true :=
        permitFollows_foldl (fun z h => permitFollows_recoverZone h n z) _ h
      have requestedFollows : permitFollows requested m = true :=
        permitFollows_recoveryTest (permitFollows_setArb recoveredFollows) n
      split <;> exact requestedFollows

theorem permitFollows_expireEntry (z : Zone) : permitFollows (s.expireEntry z) m = true := by
  unfold State.expireEntry
  split
  · split
    · exact permitFollows_serveAt (permitFollows_holderChanged
        (permitFollows_notify (permitFollows_modZone h z _) _ _) z) z _
    · exact h
  · exact h

theorem permitFollows_expireDwell (z : Zone) : permitFollows (s.expireDwell z) m = true := by
  unfold State.expireDwell
  split
  · split
    · exact permitFollows_serveAt (permitFollows_holderChanged (permitFollows_modZone h z _) z) z _
    · exact h
  · exact h

/-! ### Bookings (R156 .. R174) -/

theorem permitFollows_reserve (num : Nat) (zs : List Zone) :
    permitFollows (s.reserve num zs) m = true :=
  permitFollows_foldl (fun z h => permitFollows_modZone h z _) _ h

theorem permitFollows_liftReservations (zs : List Zone) :
    permitFollows (s.liftReservations zs) m = true :=
  permitFollows_foldl (fun z h => permitFollows_serve h z) _
    (permitFollows_foldl (fun z h => permitFollows_modZone h z _) _ h)

theorem permitFollows_openZone (n : Station) (z : Zone) :
    permitFollows (State.openZone n s z) m = true := by
  unfold State.openZone
  split
  · split <;> exact permitFollows_modZone h z _
  · split
    · exact permitFollows_modZone h z _
    · exact permitFollows_grantBooked h z n

theorem permitFollows_openBooking (b : Booking) (remaining ends : Nat) :
    permitFollows (s.openBooking b remaining ends) m = true :=
  permitFollows_foldl (s := s.putBooking _) (fun z h => permitFollows_openZone h b.station z) _ h

theorem permitFollows_endBooking (b : Booking) (e : Ending) :
    permitFollows (s.endBooking b e) m = true := by
  unfold State.endBooking
  extract_lets ended lifted r c written told reported
  have endedFollows : permitFollows ended m = true :=
    permitFollows_foldl (fun z h => permitFollows_modZone h z _) _ h
  have liftedFollows : permitFollows lifted m = true := by
    unfold lifted
    split
    · exact endedFollows
    · exact permitFollows_serveMemberZones (permitFollows_liftReservations endedFollows _) _
  have writtenFollows : permitFollows written m = true :=
    permitFollows_setCtx liftedFollows
  have reportedFollows : permitFollows reported m = true :=
    permitFollows_raise (permitFollows_notify writtenFollows _ _) _ _
  split <;> exact reportedFollows

theorem permitFollows_leadBooking (b : Booking) : permitFollows (s.leadBooking b) m = true :=
  permitFollows_reserve (s := s.putBooking _) h _ _

theorem permitFollows_startBooking (b : Booking) : permitFollows (s.startBooking b) m = true := by
  unfold State.startBooking
  split
  · exact h
  · split
    · exact h
    · exact h
    · exact permitFollows_openBooking h b _ _
    · exact permitFollows_openBooking h b _ _

omit h in
/-- A step of the booking timeline keeps a permit that it keeps at each booking. -/
theorem permitFollows_overBookings {f : State → Booking → State}
    (keeps : ∀ {t : State} (b : Booking),
      permitFollows t m = true → permitFollows (f t b) m = true)
    (sel : Nat → Bool) (h : permitFollows s m = true) :
    permitFollows (s.overBookings sel f) m = true := by
  refine permitFollows_foldl (fun {t} num ht => ?_) _ h
  split
  · exact keeps _ ht
  · exact ht

theorem permitFollows_stepRemaining (b : Booking) :
    permitFollows (s.stepRemaining b) m = true := by
  unfold State.stepRemaining
  split
  · split
    · exact permitFollows_endBooking h b _
    · exact h
  · exact h

theorem permitFollows_stepExpiry (b : Booking) : permitFollows (s.stepExpiry b) m = true := by
  unfold State.stepExpiry
  split
  · exact h
  · split
    · exact permitFollows_endBooking h b _
    · exact h

theorem permitFollows_stepLead (b : Booking) : permitFollows (s.stepLead b) m = true := by
  unfold State.stepLead
  split
  · exact permitFollows_leadBooking h b
  · exact h

theorem permitFollows_stepStart (b : Booking) : permitFollows (s.stepStart b) m = true := by
  unfold State.stepStart
  split
  · exact permitFollows_startBooking h b
  · exact h

theorem permitFollows_allRemaining : permitFollows s.allRemaining m = true :=
  permitFollows_overBookings (fun b h => permitFollows_stepRemaining h b) _ h

theorem permitFollows_allEnds : permitFollows s.allEnds m = true :=
  permitFollows_overBookings (fun b h => permitFollows_stepExpiry h b) _
    (permitFollows_allRemaining h)

theorem permitFollows_allLeads : permitFollows s.allLeads m = true :=
  permitFollows_overBookings (fun b h => permitFollows_stepLead h b) _ (permitFollows_allEnds h)

theorem permitFollows_settleBookings : permitFollows s.settleBookings m = true :=
  permitFollows_overBookings (fun b h => permitFollows_stepStart h b) _ (permitFollows_allLeads h)

omit h in
theorem permitFollows_bookingTurn {before : State → State} {f : State → Booking → State}
    (first : ∀ {t : State}, permitFollows t m = true → permitFollows (before t) m = true)
    (keeps : ∀ {t : State} (b : Booking),
      permitFollows t m = true → permitFollows (f t b) m = true)
    (num : Nat) (due : State → Booking → Bool) (h : permitFollows s m = true) :
    permitFollows (s.bookingTurn num before f due) m = true := by
  unfold State.bookingTurn
  split
  · split
    · exact permitFollows_overBookings keeps _ (first h)
    · exact h
  · exact h

theorem permitFollows_admitLift (b : Booking) : permitFollows (s.admitLift b) m = true := by
  unfold State.admitLift
  extract_lets table entered led
  have enteredFollows : permitFollows entered m = true := h
  have ledFollows : permitFollows led m = true := permitFollows_leadBooking enteredFollows b
  split
  · split
    · exact permitFollows_startBooking ledFollows _
    · exact ledFollows
  · exact enteredFollows

theorem permitFollows_bookInRange (n : Station) (bySupervisor locked : Bool) (r : BookRequest) :
    permitFollows (s.bookInRange n bySupervisor locked r).1 m = true := by
  fun_cases State.bookInRange s n bySupervisor locked r
  case case8 => exact permitFollows_admitLift h _
  all_goals exact h

theorem permitFollows_bookLift (n : Station) (bySupervisor locked : Bool) (f : WireBook) :
    permitFollows (s.bookLift n bySupervisor locked f).1 m = true := by
  unfold State.bookLift
  split
  · exact h
  · split
    · exact h
    · exact permitFollows_bookInRange h n _ _ _

theorem permitFollows_supervisorBookLift (station locked : Nat) (f : WireBook) :
    permitFollows (s.supervisorBookLift station locked f).1 m = true := by
  fun_cases State.supervisorBookLift s station locked f
  case case4 => exact permitFollows_bookLift h _ _ _ f
  all_goals exact h

theorem permitFollows_cancelLift (crane : Option Station) (num : Nat) :
    permitFollows (s.cancelLift crane num).1 m = true := by
  fun_cases State.cancelLift s crane num
  case case4 => exact permitFollows_endBooking h _ _
  all_goals exact h

theorem permitFollows_extendLift (crane : Option Station) (num : Nat) (amount : Int) :
    permitFollows (s.extendLift crane num amount).1 m = true := by
  fun_cases State.extendLift s crane num amount <;> exact h

theorem permitFollows_lockLift (num : Nat) (locked : Bool) :
    permitFollows (s.lockLift num locked).1 m = true := by
  unfold State.lockLift
  split <;> exact h

theorem permitFollows_loadRise (n : Station) : permitFollows (s.loadRise n) m = true := by
  unfold State.loadRise
  split
  · split
    · exact permitFollows_openBooking h _ _ _
    · exact permitFollows_openBooking h _ _ _
    · exact h
    · exact h
  · exact h

theorem permitFollows_bookingStageTold (stage : Stage) (b : Booking) :
    permitFollows (State.bookingStageTold stage s b) m = true := by
  have lapses (e : Nat) : permitFollows
      (if e ≤ s.clock.time then s.endBooking b .lapsedDeferred
        else s.openBooking b (e - s.clock.time) e) m = true := by
    split
    · exact permitFollows_endBooking h b _
    · exact permitFollows_openBooking h b _ _
  unfold State.bookingStageTold
  split
  · exact permitFollows_endBooking h b _
  · exact permitFollows_endBooking h b _
  · exact lapses _
  · exact lapses _
  · exact h

theorem permitFollows_stageToldBookings (n : Station) (stage : Stage) :
    permitFollows (s.stageToldBookings n stage) m = true :=
  permitFollows_overBookings (fun b h => permitFollows_bookingStageTold h stage b) _ h

/-! ### The shutdown sequence (R131 .. R139) -/

theorem permitFollows_requestClearance (v : Station) (zh : Zone × Station) :
    permitFollows (State.requestClearance v s zh) m = true := by
  refine permitFollows_notify ?_ _ _
  unfold State.abortForClearance
  split
  · exact permitFollows_endBooking h _ _
  · exact h

theorem permitFollows_clearNeighbours (v : Station) :
    permitFollows (s.clearNeighbours v) m = true := by
  have asked : permitFollows ((s.othersHolding v).foldl (State.requestClearance v) s) m = true :=
    permitFollows_foldl (fun zh h => permitFollows_requestClearance h v zh) _ h
  exact permitFollows_judgeClear
    (permitFollows_setOverdue (permitFollows_setVane asked) v false) v

theorem permitFollows_judgeSequence (v : Station) :
    permitFollows (s.judgeSequence v) m = true := by
  have begins : permitFollows (s.beginSequence v) m = true :=
    permitFollows_clearNeighbours (permitFollows_setVane h) v
  have ends : permitFollows (s.endSequence v) m = true :=
    permitFollows_serveMemberZones
      (permitFollows_setOverdue (permitFollows_setVane h) v false) v
  unfold State.judgeSequence
  split
  · split
    · exact begins
    · exact h
  · split
    · exact h
    · exact ends
  · split
    · exact h
    · exact ends
  · exact h

theorem permitFollows_expireClearance (v : Station) :
    permitFollows (s.expireClearance v) m = true := by
  simp only [State.expireClearance]
  split
  · exact permitFollows_setOverdue (permitFollows_setVane h) v true
  · exact h

/-! ### The swing and a release out of turn (R137 .. R142) -/

theorem permitFollows_beginSwing (v : Station) : permitFollows (s.beginSwing v) m = true := by
  have swept := permitFollows_sweepAdd h v
  exact permitFollows_serveMemberZones (permitFollows_setVane swept) v

/-- Unsafe vane latched is set at the start of a release out of turn and the permit re-evaluated at its end; between
the two the station's own permit need not follow. -/
theorem permitFollows_unsafeRelease (v : Station) :
    permitFollows (s.unsafeRelease v) m = true := by
  unfold State.unsafeRelease
  extract_lets wasClearing c latched swept d vaning opened
  refine permitFollows_reevalPermit fun ne => ?_
  have latchedFollows : permitFollows latched m = true :=
    permitFollows_setVane_of_ne h ne
  have sweptFollows : permitFollows swept m = true :=
    permitFollows_sweepAdd (permitFollows_alarmBegins latchedFollows _) v
  have vaningFollows : permitFollows vaning m = true :=
    permitFollows_setVane_of_ne sweptFollows ne
  unfold opened
  split
  · exact permitFollows_serveMemberZones (permitFollows_setOverdue vaningFollows v false) v
  · exact vaningFollows

theorem permitFollows_swingToClearance (v : Station) :
    permitFollows (s.swingToClearance v) m = true := by
  unfold State.swingToClearance
  extract_lets c t
  refine permitFollows_sweepRemove ?_ v
  unfold t
  split
  · exact permitFollows_setVane h
  · exact permitFollows_clearNeighbours (permitFollows_setVane h) v

theorem permitFollows_returnToService (v : Station) :
    permitFollows (s.returnToService v) m = true :=
  permitFollows_sweepRemove (permitFollows_adopt (permitFollows_setVane h) v) v

theorem permitFollows_unsafeCleared (v : Station) :
    permitFollows (s.unsafeCleared v) m = true := by
  unfold State.unsafeCleared
  split
  · exact permitFollows_reevalPermit fun ne => permitFollows_setVane_of_ne h ne
  · exact h

theorem permitFollows_endSwing (v : Station) : permitFollows (s.endSwing v) m = true := by
  refine permitFollows_unsafeCleared (permitFollows_alarmEnds ?_ _) v
  split
  · exact permitFollows_swingToClearance h v
  · exact permitFollows_returnToService h v

theorem permitFollows_takeBrake (v : Station) (released : Bool) :
    permitFollows (s.takeBrake v released) m = true := by
  unfold State.takeBrake
  extract_lets c t
  have taken : permitFollows t m = true := permitFollows_setVane h
  split
  · exact permitFollows_beginSwing taken v
  · exact permitFollows_unsafeRelease taken v
  · exact permitFollows_unsafeRelease taken v
  · exact permitFollows_endSwing taken v
  all_goals exact taken

end Shared

end Sys2Proof.Machine
end

section
/-! The motion permit through the wind line, the stages, the Station Unit, the Plan Unit, the Site Clock and the
resets, and through every command: each step keeps each permit (R39). -/

namespace Sys2Proof.Machine

open Sys2Proof.Safety

section Units

variable {s : State} {m : Station} (h : permitFollows s m = true)
include h

/-! ### Stages (R115 .. R124) -/

theorem permitFollows_changeStage (n : Station) (stage : Stage) (first : Bool) :
    permitFollows (s.changeStage n stage first) m = true := by
  simp only [State.changeStage, State.tellStage]
  split
  · exact h
  · have told : permitFollows ((s.setWind n { s.wind.get n with stage }).notify n
        (.wind stage (s.wind.get n).stage)) m = true := permitFollows_notify (s := s.setWind n _) h n _
    split
    · exact permitFollows_judgeSequence (permitFollows_stageToldBookings told n stage) n
    · exact permitFollows_stageToldBookings (permitFollows_judgeSequence told n) n stage

theorem permitFollows_formFigures (n : Station) : permitFollows (s.formFigures n) m = true := by
  simp only [State.formFigures]
  split
  · exact h
  · exact permitFollows_alarmIs (s := s.setWind n _) h _ _

theorem permitFollows_evaluateDrop (n : Station) (f : Nat × Nat) :
    permitFollows (s.evaluateDrop n f) m = true := by
  simp only [State.evaluateDrop]
  split
  · split <;> exact h
  · exact h

theorem permitFollows_evaluateRaise (n : Station) (f : Nat × Nat) (first : Bool) :
    permitFollows (s.evaluateRaise n f first) m = true := by
  unfold State.evaluateRaise
  extract_lets r w q count
  split
  · exact permitFollows_changeStage (s := s.setWind n _) h n q first
  · exact permitFollows_evaluateDrop (s := s.setWind n _) h n f

theorem permitFollows_evaluateStation (n : Station) (first : Bool) :
    permitFollows (s.evaluateStation n first) m = true := by
  unfold State.evaluateStation
  split
  case isFalse => exact h
  case isTrue =>
    extract_lets formed w settled
    have formedFollows : permitFollows formed m = true := permitFollows_formFigures h n
    have changes (stage : Stage) :
        permitFollows ((formed.setWind n w.settled).changeStage n stage first) m = true :=
      permitFollows_changeStage (s := formed.setWind n _) formedFollows n stage first
    split
    · exact changes .shutdown
    · split
      · split
        · exact changes .hold
        · exact changes .hold
        · exact formedFollows
        · exact formedFollows
      · exact permitFollows_evaluateRaise formedFollows n _ first

theorem permitFollows_handOver (k : Nat) : permitFollows (s.handOver k) m = true :=
  permitFollows_foldl (fun n h => permitFollows_evaluateStation h n _) _ h

theorem permitFollows_countDrop (n : Station) : permitFollows (s.countDrop n) m = true := by
  simp only [State.countDrop]
  split
  · split <;> exact h
  · exact h

theorem permitFollows_fall (n : Station) (first : Bool) :
    permitFollows (s.fall n first) m = true := by
  simp only [State.fall]
  split
  · exact permitFollows_changeStage (s := s.setWind n _) h n _ first
  · exact h

theorem permitFollows_stopStation (n : Station) (first : Bool) :
    permitFollows (s.stopStation n first) m = true := by
  unfold State.stopStation
  split
  · exact permitFollows_judgeSequence
      (permitFollows_changeStage (s := s.setWind n _) h n .shutdown first) n
  · exact h

theorem permitFollows_takeSiteStop (k : Nat) : permitFollows (s.takeSiteStop k) m = true :=
  permitFollows_foldl (fun n h => permitFollows_stopStation h n _) _
    (permitFollows_alarmBegins (s := { s with siteStop := true }) h _)

theorem permitFollows_leaveSiteStop (k : Nat) : permitFollows (s.leaveSiteStop k) m = true :=
  permitFollows_foldl (fun n h => permitFollows_judgeSequence h n) _
    (permitFollows_alarmEnds (s := { s with siteStop := false }) h _)

/-! ### The wind line (R91 .. R111) -/

theorem permitFollows_putRecord (a : Addr) (r : SensorRec) :
    permitFollows (s.putRecord a r) m = true := by
  unfold State.putRecord
  extract_lets old written fault failed
  have writtenFollows : permitFollows written m = true := h
  have faultFollows : permitFollows fault m = true := by
    unfold fault
    split
    · exact writtenFollows
    · exact permitFollows_alarmIs writtenFollows _ _
  have failedFollows : permitFollows failed m = true := by
    unfold failed
    split
    · exact faultFollows
    · exact permitFollows_alarmIs faultFollows _ _
  split <;> exact failedFollows

theorem permitFollows_listCommand (c : LineCommand) :
    permitFollows (s.listCommand c) m = true := by
  unfold State.listCommand
  split <;> exact h

theorem permitFollows_runRecord (a : Addr) : permitFollows (s.runRecord a) m = true := by
  simp only [State.runRecord]
  split
  · exact permitFollows_putRecord h a _
  · exact h

theorem permitFollows_commandSent (c : LineCommand) :
    permitFollows (s.commandSent c) m = true := by
  cases c with
  | assign a => exact h
  | run =>
    exact permitFollows_foldl (s := s.setLine _) (fun a h => permitFollows_runRecord h a) _ h
  | runTo a =>
    simp only [State.commandSent]
    split
    · exact permitFollows_putRecord h a _
    · exact h

theorem permitFollows_sendCommand (c : LineCommand) :
    permitFollows (s.sendCommand c) m = true :=
  permitFollows_commandSent (by exact h) c

theorem permitFollows_startCycle : permitFollows s.startCycle m = true := by
  unfold State.startCycle
  extract_lets _ l t
  split
  · exact h
  · exact h
  · exact permitFollows_sendCommand (by exact h) _

theorem permitFollows_closeWindow : permitFollows s.closeWindow m = true := by
  unfold State.closeWindow
  split
  · extract_lets _ closed
    have closedFollows : permitFollows closed m = true := h
    split
    · exact closedFollows
    · split
      · exact permitFollows_sendCommand closedFollows _
      · exact permitFollows_listCommand closedFollows _
  · exact h

theorem permitFollows_answerEnrol (code : Code) :
    permitFollows (s.answerEnrol code) m = true := by
  unfold State.answerEnrol
  split <;> exact h

theorem permitFollows_readEcho (slots : PerAddr Slot) :
    permitFollows (s.readEcho slots) m = true := by
  unfold State.readEcho
  split
  · split
    · exact permitFollows_answerEnrol (permitFollows_putRecord (by exact h) _ _) _
    · exact h
  · exact h

theorem permitFollows_expireEcho : permitFollows s.expireEcho m = true := by
  unfold State.expireEcho
  split
  · exact permitFollows_answerEnrol (by exact h) _
  · exact h

theorem permitFollows_stopWatch : permitFollows s.stopWatch m = true := by
  unfold State.stopWatch
  split <;> exact h

theorem permitFollows_failAttempt (a : Addr) : permitFollows (s.failAttempt a) m = true := by
  simp only [State.failAttempt]
  split
  · exact permitFollows_listCommand (permitFollows_putRecord h a _) _
  · exact permitFollows_putRecord h a _

theorem permitFollows_expireChecking (a : Addr) :
    permitFollows (s.expireChecking a) m = true := by
  unfold State.expireChecking
  split
  · exact permitFollows_failAttempt h a
  · exact h

theorem permitFollows_expireCheckingBelow (a : Addr) :
    permitFollows (s.expireCheckingBelow a) m = true :=
  permitFollows_foldl (fun b h => permitFollows_expireChecking h b) _ h

theorem permitFollows_expireSilent (a : Addr) : permitFollows (s.expireSilent a) m = true := by
  unfold State.expireSilent
  split
  · exact permitFollows_putRecord h a _
  · exact h

theorem permitFollows_findWatched (a : Addr) (x : Reply) :
    permitFollows (s.findWatched a x) m = true := by
  simp only [State.findWatched]
  split
  · split
    · exact permitFollows_putRecord h a _
    · exact h
  · exact h

theorem permitFollows_readAttempt (a : Addr) (moved : Option SensorRec) :
    permitFollows (s.readAttempt a moved) m = true := by
  cases moved with
  | some r => exact permitFollows_putRecord h a _
  | none =>
    exact permitFollows_failAttempt (s := (s.expireCheckingBelow a).setSensor a _)
      (permitFollows_expireCheckingBelow h a) a

theorem permitFollows_readAddr (slots : PerAddr Slot) (a : Addr) :
    permitFollows (State.readAddr slots s a) m = true := by
  unfold State.readAddr
  extract_lets x found r
  have foundFollows : permitFollows found m = true := permitFollows_findWatched h a x
  split
  · exact permitFollows_readAttempt foundFollows a _
  · exact permitFollows_readAttempt foundFollows a _
  · exact permitFollows_readAttempt foundFollows a _
  · exact permitFollows_putRecord foundFollows a _
  · exact permitFollows_putRecord foundFollows a _
  all_goals exact foundFollows

theorem permitFollows_readSlots (kind : CycleKind) (slots : PerAddr Slot) :
    permitFollows (s.readSlots kind slots) m = true := by
  have echo := permitFollows_readEcho h slots
  unfold State.readSlots
  split
  · exact echo
  · exact permitFollows_foldl (fun a h => permitFollows_readAddr h slots a) _ echo
  · exact h

theorem permitFollows_takeCycleEnds : permitFollows s.takeCycleEnds m = true :=
  permitFollows_foldl (fun a h => permitFollows_expireSilent h a) _
    (permitFollows_foldl (fun a h => permitFollows_expireChecking h a) _
      (permitFollows_stopWatch (permitFollows_expireEcho h)))

theorem permitFollows_endReading (slots : PerAddr Slot) (k : Nat) :
    permitFollows (s.endReading slots k) m = true := by
  unfold State.endReading
  split
  case h_1 c _ =>
    extract_lets _ handed
    have slotsRead := permitFollows_readSlots h c.kind slots
    have handedFollows : permitFollows handed m = true := permitFollows_handOver (by exact slotsRead) k
    split
    · exact permitFollows_startCycle (permitFollows_takeCycleEnds handedFollows)
    · exact handedFollows
  case h_2 => exact h

theorem permitFollows_blankRecords : permitFollows s.blankRecords m = true :=
  permitFollows_foldl (fun a h => permitFollows_putRecord h a _) _ h

theorem permitFollows_powerUpLine : permitFollows s.powerUpLine m = true :=
  permitFollows_blankRecords (s := s.cutCycle) h

theorem permitFollows_stopPower : permitFollows s.stopPower m = true :=
  permitFollows_blankRecords (permitFollows_answerEnrol (s := s.cutCycle.setLine .stopped) h _)

theorem permitFollows_enrolNext (tag addr : Nat) :
    permitFollows (s.enrolNext tag addr).1 m = true := by
  unfold State.enrolNext
  split
  · exact permitFollows_listCommand
      (s := { s.setLine { s.line with enrolHeld := true } with enrolTag := some tag }) h _
  · exact h
  · exact h

theorem permitFollows_runLine : permitFollows s.runLine.1 m = true := by
  unfold State.runLine
  split
  · exact h
  · exact h
  · split
    · exact h
    · exact permitFollows_listCommand h _

theorem permitFollows_stopLine : permitFollows s.stopLine.1 m = true := by
  unfold State.stopLine
  split
  · exact h
  · exact permitFollows_stopPower h
  · exact permitFollows_stopPower h

theorem permitFollows_startLine : permitFollows s.startLine.1 m = true := by
  unfold State.startLine
  split
  · exact permitFollows_powerUpLine h
  · exact h
  · exact h

theorem permitFollows_sensorRestart (addr : Nat) :
    permitFollows (s.sensorRestart addr).1 m = true := by
  fun_cases State.sensorRestart s addr
  case case4 => exact permitFollows_listCommand (permitFollows_putRecord h _ _) _
  all_goals exact h

/-! ### Joining, reports and loss (R25 .. R32)

Each changes the link state of its station first and re-evaluates the permit at its end (log entry 23). -/

theorem permitFollows_staleEnds (n : Station) (was : LinkState) :
    permitFollows (s.staleEnds n was) m = true := by
  unfold State.staleEnds
  split <;> exact h

theorem permitFollows_join (n : Station) : permitFollows (s.join n) m = true :=
  permitFollows_reevalPermit fun ne =>
    permitFollows_setVWind (permitFollows_staleEnds (permitFollows_setCtx_of_ne h ne) n _) n 0

theorem permitFollows_hello (n : Station) (identity : Nat) :
    permitFollows (s.hello n identity).1 m = true := by
  unfold State.hello
  split
  · exact h
  · exact permitFollows_join h n

theorem permitFollows_reportJudged_of_ne {n : Station} (ne : m ≠ n) :
    permitFollows (s.reportJudged n) m = true :=
  permitFollows_judgeReport (permitFollows_staleEnds (permitFollows_setCtx_of_ne h ne) n _) n _

omit h in
theorem permitFollows_restartReport {n : Station} (others : m ≠ n → permitFollows s m = true) :
    permitFollows (s.restartReport n) m = true :=
  permitFollows_reevalPermit fun ne => permitFollows_setCtx_of_ne (others ne) ne

theorem permitFollows_report (n : Station) (angle : Angle) (radius profile : Nat)
    (loaded released : Bool) :
    permitFollows (s.report n angle radius profile loaded released) m = true := by
  unfold State.report
  extract_lets c rises reported braked risen
  have reportedFollows : permitFollows reported m = true := permitFollows_setCtx h
  have brakedFollows : permitFollows braked m = true := permitFollows_takeBrake reportedFollows n _
  have risenFollows : permitFollows risen m = true := by
    unfold risen
    split
    · exact permitFollows_loadRise brakedFollows n
    · exact brakedFollows
  exact permitFollows_recompute
    (permitFollows_restartReport fun ne => permitFollows_reportJudged_of_ne risenFollows ne) n

theorem permitFollows_position (n : Station) (angle : Angle) (radius profile : Nat)
    (loaded released : Bool) :
    permitFollows (s.position n angle radius profile loaded released).1 m = true := by
  unfold State.position
  split
  · exact h
  · exact permitFollows_report h n angle radius profile loaded released

theorem permitFollows_beforeReport (n : Station) (loaded : Bool) :
    permitFollows (s.beforeReport n loaded) m = true := by
  unfold State.beforeReport
  split
  · exact permitFollows_settleBookings h
  · exact h

theorem permitFollows_expireReport (n : Station) : permitFollows (s.expireReport n) m = true := by
  simp only [State.expireReport]
  split
  · exact permitFollows_reevalPermit fun ne =>
      permitFollows_alarmBegins (permitFollows_setCtx_of_ne h ne) _
  · exact h

theorem permitFollows_expireLink (n : Station) : permitFollows (s.expireLink n) m = true := by
  simp only [State.expireLink]
  split
  · exact permitFollows_setVWind
      (permitFollows_loseWaits
        (permitFollows_reevalPermit fun ne =>
          permitFollows_staleEnds (permitFollows_setCtx_of_ne h ne) n _) n) n 0
  · exact h

/-! ### The plan (R3 .. R17)

A commit that takes effect ends by re-evaluating every permit (R12); no other work writes the live plan. -/

theorem permitFollows_stageStation (number : Nat) (fields : WireStation) :
    permitFollows (s.stageStation number fields).1 m = true := by
  unfold State.stageStation
  split
  · exact h
  · split <;> exact h

theorem permitFollows_stageZone (number : Nat) (fields : WireZone) :
    permitFollows (s.stageZone number fields).1 m = true := by
  unfold State.stageZone
  split
  · exact h
  · split <;> exact h

theorem permitFollows_stageSite (clearanceTimeout siteDerate realign : Nat) :
    permitFollows (s.stageSite clearanceTimeout siteDerate realign).1 m = true := by
  unfold State.stageSite
  split
  · exact h
  · split <;> exact h

theorem permitFollows_restage : permitFollows s.restage.1 m = true := by
  unfold State.restage
  split <;> exact h

omit h in
/-- After a commit has taken effect every permit follows, whatever stood before. -/
theorem permitFollows_commitNow (s : State) (m : Station) :
    permitFollows s.commitNow m = true := by
  unfold State.commitNow State.commitEffect
  extract_lets
  exact permitFollows_foldl_reevalPermit (Station.mem_all m) _

theorem permitFollows_commitChecked (mode : CommitMode) :
    permitFollows (s.commitChecked mode).1 m = true := by
  fun_cases State.commitChecked s mode
  case case3 =>
    dsimp only
    exact permitFollows_commitNow s m
  all_goals exact h

theorem permitFollows_commit (mode target : Nat) :
    permitFollows (s.commit mode target).1 m = true := by
  fun_cases State.commit s mode target
  case case5 => exact permitFollows_commitChecked h _
  case case6 => exact permitFollows_commitChecked h _
  case case7 => exact permitFollows_commitChecked h _
  all_goals exact h

theorem permitFollows_commitMoment : permitFollows s.commitMoment m = true := by
  unfold State.commitMoment
  split
  · exact permitFollows_commitNow s m
  · extract_lets _ abandoned
    have abandonedFollows : permitFollows abandoned m = true := h
    split
    · exact abandonedFollows
    · exact permitFollows_alarmBegins abandonedFollows _

theorem permitFollows_atTimeMoment : permitFollows s.atTimeMoment m = true := by
  unfold State.atTimeMoment
  split
  · exact permitFollows_commitMoment h
  · exact h

theorem permitFollows_atMarkMoment : permitFollows s.atMarkMoment m = true := by
  unfold State.atMarkMoment
  split
  · exact permitFollows_commitMoment h
  · exact h
  · exact h

theorem permitFollows_cancelCommit : permitFollows s.cancelCommit.1 m = true := by
  unfold State.cancelCommit
  split <;> exact h

theorem permitFollows_storePlan : permitFollows s.storePlan.1 m = true := by
  unfold State.storePlan
  split <;> exact h

theorem permitFollows_endWrite (found : StoreContent) :
    permitFollows (s.endWrite found) m = true := by
  unfold State.endWrite
  split
  · split
    · exact h
    · extract_lets _ failed
      have failedFollows : permitFollows failed m = true := h
      split
      · exact failedFollows
      · exact permitFollows_alarmBegins failedFollows _
  · exact h

/-! ### Ticks and time marks (R147 .. R152) -/

theorem permitFollows_takeFall (n : Station) : permitFollows (s.takeFall n) m = true := by
  unfold State.takeFall
  split
  · exact permitFollows_fall (s := s.choose.2) h n _
  · exact h

theorem permitFollows_takeExpiries : permitFollows s.takeExpiries m = true := by
  unfold State.takeExpiries
  extract_lets reports links entries dwells clearances falls
  have reportsFollow : permitFollows reports m = true :=
    permitFollows_foldl (fun n h => permitFollows_expireReport h n) _ h
  have linksFollow : permitFollows links m = true :=
    permitFollows_foldl (fun n h => permitFollows_expireLink h n) _ reportsFollow
  have entriesFollow : permitFollows entries m = true :=
    permitFollows_foldl (fun z h => permitFollows_expireEntry h z) _ linksFollow
  have dwellsFollow : permitFollows dwells m = true :=
    permitFollows_foldl (fun z h => permitFollows_expireDwell h z) _ entriesFollow
  have clearancesFollow : permitFollows clearances m = true :=
    permitFollows_foldl (fun n h => permitFollows_expireClearance h n) _ dwellsFollow
  have fallsFollow : permitFollows falls m = true :=
    permitFollows_foldl (fun n h => permitFollows_takeFall h n) _ clearancesFollow
  exact permitFollows_atTimeMoment (permitFollows_settleBookings fallsFollow)

theorem permitFollows_takeReading : permitFollows s.takeReading m = true := by
  unfold State.takeReading
  split
  · split
    · exact permitFollows_endReading (s := s.choose.2) h _ _
    · exact h
  · exact h

theorem permitFollows_takeDue : permitFollows s.takeDue m = true :=
  permitFollows_takeCycleEnds (s := s.takeExpiries.takeReading.closeWindow)
    (permitFollows_closeWindow (permitFollows_takeReading (permitFollows_takeExpiries h)))

/-- The report timers are no inputs of a permit. -/
theorem permitFollows_tickEvent : permitFollows s.tickEvent m = true := by
  refine permitFollows_foldl (fun n h => permitFollows_limitTick h n) _ ?_
  simpa [permitFollows, State.permit, State.station, StationCtx.tick] using h

omit h in
theorem PlanUnit.boundary_live (p : PlanUnit) (now : Nat) : (p.boundary now).live = p.live := by
  unfold PlanUnit.boundary
  split
  · split <;> rfl
  · rfl
  · rfl

omit h in
theorem PlanUnit.boundary_invalid (p : PlanUnit) (now : Nat) :
    (p.boundary now).invalid = p.invalid := by
  unfold PlanUnit.boundary
  split
  · split <;> rfl
  · rfl
  · rfl

/-- The timers a second boundary counts are no inputs of a permit. -/
theorem permitFollows_secondBoundary : permitFollows s.secondBoundary m = true := by
  unfold State.secondBoundary
  extract_lets _ timed counted zones drops
  have countedFollows : permitFollows counted m = true := by
    simpa [counted, timed, permitFollows, State.permit, State.station, StationCtx.boundary,
      VaneCtx.count] using h
  have zonesFollows : permitFollows zones m = true :=
    permitFollows_foldl (fun z h => permitFollows_modZone h z _) _ countedFollows
  have dropsFollows : permitFollows drops m = true :=
    permitFollows_foldl (fun n h => permitFollows_countDrop h n) _ zonesFollows
  rw [State.countBookings, permitFollows_setBookings]
  exact permitFollows_setPlan dropsFollows (PlanUnit.boundary_live _ _) (PlanUnit.boundary_invalid _ _)

theorem permitFollows_tickCycle : permitFollows s.tickCycle m = true := by
  unfold State.tickCycle
  split
  · split
    · exact h
    · exact permitFollows_startCycle h
  · exact h

theorem permitFollows_takeTick (phase : Nat) (boundary : Bool) :
    permitFollows (s.takeTick phase boundary) m = true := by
  unfold State.takeTick
  extract_lets _ _ phased counted
  have phasedFollows : permitFollows phased m = true := h
  refine permitFollows_tickCycle (permitFollows_tickEvent ?_)
  unfold counted
  split
  · exact permitFollows_secondBoundary phasedFollows
  · exact phasedFollows

theorem permitFollows_tick : permitFollows s.tick m = true := by
  unfold State.tick
  extract_lets due phase
  exact permitFollows_takeTick (permitFollows_takeDue h) phase _

theorem permitFollows_rephaseNow (boundary : Bool) :
    permitFollows (s.rephaseNow boundary) m = true :=
  permitFollows_takeTick (s := s.endCycle) h 0 boundary

theorem permitFollows_setTime (t : Nat) : permitFollows (s.setTime t).1 m = true := by
  have moved : permitFollows (s.moveTime t) m = true := by
    unfold State.moveTime
    extract_lets
    exact permitFollows_rephaseNow (by exact h) false
  unfold State.setTime
  split
  · exact h
  · split
    · dsimp only
      exact moved
    · exact h

theorem permitFollows_markInStep (sinceTick : Nat) :
    permitFollows (s.markInStep sinceTick) m = true := by
  unfold State.markInStep
  extract_lets _ inStep
  have inStepFollows : permitFollows inStep m = true := by
    unfold inStep
    split <;> exact h
  split
  · split
    · exact inStepFollows
    · exact permitFollows_tick inStepFollows
  · exact inStepFollows

theorem permitFollows_markSlipped (phase : Nat) :
    permitFollows (s.markSlipped phase) m = true := by
  unfold State.markSlipped
  extract_lets c recorded slipped
  have recordedFollows : permitFollows recorded m = true := h
  have slippedFollows : permitFollows slipped m = true := by
    unfold slipped
    split
    · exact recordedFollows
    · exact permitFollows_alarmBegins recordedFollows _
  split
  · exact permitFollows_rephaseNow (permitFollows_takeDue slippedFollows) _
  · exact slippedFollows

theorem permitFollows_judgeMark (phase sinceTick : Nat) :
    permitFollows (s.judgeMark phase sinceTick) m = true := by
  unfold State.judgeMark
  split
  · exact permitFollows_markInStep h sinceTick
  · exact permitFollows_markSlipped h phase

theorem permitFollows_takeMark (phase sinceTick : Nat) (clockFirst : Bool) :
    permitFollows (s.takeMark phase sinceTick clockFirst) m = true := by
  unfold State.takeMark
  split
  · split
    · extract_lets judged
      have judgedFollows : permitFollows judged m = true :=
        permitFollows_judgeMark h phase sinceTick
      refine permitFollows_atMarkMoment ?_
      split
      · exact permitFollows_takeExpiries judgedFollows
      · exact judgedFollows
    · exact permitFollows_judgeMark (permitFollows_atMarkMoment h) phase sinceTick
  · exact permitFollows_judgeMark h phase sinceTick

theorem permitFollows_setSiteDerate (value : Nat) :
    permitFollows (s.setSiteDerate value).1 m = true := by
  unfold State.setSiteDerate
  split <;> exact h

theorem permitFollows_setRealign (value : Nat) :
    permitFollows (s.setRealign value).1 m = true := by
  unfold State.setRealign
  split <;> exact h

/-! ### Queries and acknowledgements (R35, R36, R181 .. R187) -/

theorem permitFollows_listZones (n : Station) (first : Nat) :
    permitFollows (s.listZones n first).1 m = true := by
  unfold State.listZones
  split <;> exact h

theorem permitFollows_queryStation (station : Nat) :
    permitFollows (s.queryStation station).1 m = true := by
  unfold State.queryStation
  split <;> exact h

theorem permitFollows_queryZone (zone : Nat) : permitFollows (s.queryZone zone).1 m = true := by
  unfold State.queryZone
  split
  · exact h
  · split <;> exact h

theorem permitFollows_queryBookings (first filter : Nat) :
    permitFollows (s.queryBookings first filter).1 m = true := by
  unfold State.queryBookings
  split <;> exact h

theorem permitFollows_querySensor (addr : Nat) :
    permitFollows (s.querySensor addr).1 m = true := by
  unfold State.querySensor
  split <;> exact h

theorem permitFollows_readRecord (image cls number : Nat) :
    permitFollows (s.readRecord image cls number).1 m = true := by
  unfold State.readRecord
  split <;> exact h

theorem permitFollows_ackEntry (i : AlarmId) : permitFollows (s.ackEntry i).1 m = true := by
  unfold State.ackEntry
  extract_lets e f
  split
  · exact h
  · unfold State.toldAcked
    split
    · exact permitFollows_unsafeCleared (s := s.setEntry _ f) h _
    · exact h

theorem permitFollows_ackAlarm (priority scope : Nat) :
    permitFollows (s.ackAlarm priority scope).1 m = true := by
  unfold State.ackAlarm
  split
  · exact permitFollows_ackEntry h _
  · exact h

/-! ### Resets (R19, R184)

Every station is OFFLINE with its permit withdrawn, so every permit follows whatever stood before. -/

theorem permitFollows_takeLevel : permitFollows s.takeLevel m = true := by
  unfold State.takeLevel
  split
  · exact permitFollows_takeSiteStop (s := s.choose.2) h _
  · exact h

omit h in
theorem permitFollows_of_ctx_reset {s : State} (reset : s.ctx = .const .reset) (m : Station) :
    permitFollows s m = true := by
  simp [permitFollows, State.permit, permitCondition, reset, StationCtx.reset]

omit h in
theorem permitFollows_powerOn (s : State) (m : Station) : permitFollows s.powerOn m = true := by
  have cold : permitFollows s.cold.handOnSettings m = true := permitFollows_of_ctx_reset rfl m
  refine permitFollows_takeLevel ?_
  split
  · exact permitFollows_alarmBegins cold _
  · exact cold

omit h in
theorem permitFollows_restart (s : State) (m : Station) : permitFollows s.restart.1 m = true :=
  permitFollows_takeLevel (permitFollows_of_ctx_reset rfl m)

end Units

/-! ### Every command -/

/-- A crane's request for the Booking Engine, after the outstanding steps of the boundary. -/
theorem permitFollows_bookingRequest {s : State} {m n : Station} {kind : Byte}
    {work : State → State × Code × Data}
    (keeps : ∀ {t : State}, permitFollows t m = true → permitFollows (work t).1 m = true)
    (h : permitFollows s m = true) : permitFollows (s.bookingRequest n kind work) m = true := by
  refine permitFollows_onlineRequest keeps ?_
  split
  · exact permitFollows_settleBookings h
  · exact h

theorem permitFollows_bookingCommand {s : State} {m : Station} {tag cmd : Nat}
    {work : State → State × Code × Data}
    (keeps : ∀ {t : State}, permitFollows t m = true → permitFollows (work t).1 m = true)
    (h : permitFollows s m = true) : permitFollows (s.bookingCommand tag cmd work) m = true :=
  permitFollows_command keeps (permitFollows_settleBookings h)

/-- If an outcome is a next state, the permit of a station follows in it. -/
def nextFollows (m : Station) (o : Host.Outcome State Fault Refusal) : Prop :=
  ∀ t, o = .next t → permitFollows t m = true

theorem nextFollows_next {t : State} {m : Station} (h : permitFollows t m = true) :
    nextFollows m (.next t) := by
  intro u e
  cases e
  exact h

theorem permitFollows_afterMeaning {s : State} {m : Station}
    {o : Host.Outcome State Fault Refusal} (h : permitFollows s m = true)
    (next : nextFollows m o) : permitFollows (afterMeaning s o) m = true := by
  cases o with
  | next t => exact next t rfl
  | fault f => exact h
  | refused r => exact h

section Commands

variable {s : State} {m : Station} (h : permitFollows s m = true)
include h

theorem nextFollows_timeMark (sinceTick : Nat) : nextFollows m (execTimeMark sinceTick s) := by
  refine nextFollows_next ?_
  split
  · exact permitFollows_takeMark (s := s.choose.2) h _ _ _
  · exact permitFollows_takeMark h _ _ _

theorem nextFollows_setTime (tag time : Nat) : nextFollows m (execSetTime tag time s) := by
  refine nextFollows_next (permitFollows_command (fun ht => permitFollows_setTime ht time) ?_)
  split
  · exact permitFollows_takeDue h
  · exact h

theorem nextFollows_windCycleReadingEnd (slots : PerAddr Slot) :
    nextFollows m (execWindCycleReadingEnd slots s) := by
  refine nextFollows_next ?_
  split
  · exact permitFollows_endReading (s := s.choose.2) h slots _
  · exact h

theorem nextFollows_checkingTimeout (a : Addr) : nextFollows m (execCheckingTimeout a s) := by
  refine nextFollows_next ?_
  split
  · exact permitFollows_expireChecking (permitFollows_expireCheckingBelow h a) a
  · exact h

theorem nextFollows_bookingRemainingExpiry (number : Nat) :
    nextFollows m (execBookingRemainingExpiry number s) :=
  nextFollows_next (permitFollows_bookingTurn (before := id) (fun ht => ht)
    (fun b ht => permitFollows_stepRemaining ht b) number _ h)

/-- Every command but the frame that fails its check, which holds other commands. -/
theorem nextFollows_exec_of_ne {i : Instr} (ne : ∀ link frame, i ≠ .badCheckFrame link frame) :
    nextFollows m (exec i s) := by
  cases i with
  | badCheckFrame link frame => exact absurd rfl (ne link frame)
  | powerOn => exact nextFollows_next (permitFollows_powerOn s m)
  | restart tag =>
    exact nextFollows_next (permitFollows_command (fun _ => permitFollows_restart _ m) h)
  | tick => exact nextFollows_next (permitFollows_tick h)
  | windowClose => exact nextFollows_next (permitFollows_closeWindow h)
  | windCycleReadingEnd slots => exact nextFollows_windCycleReadingEnd h slots
  | echoWaitExpiry => exact nextFollows_next (permitFollows_expireEcho h)
  | runWatchEnd => exact nextFollows_next (permitFollows_stopWatch h)
  | checkingTimeout a => exact nextFollows_checkingTimeout h a
  | sensorSilent a => exact nextFollows_next (permitFollows_expireSilent h a)
  | dropDwellExpiry n => exact nextFollows_next (permitFollows_takeFall h n)
  | sstopAsserted =>
    exact nextFollows_next
      (permitFollows_takeSiteStop (s := { s.choose.2 with sstopPin := true }) h _)
  | sstopWithdrawn =>
    exact nextFollows_next
      (permitFollows_leaveSiteStop (s := { s.choose.2 with sstopPin := false }) h _)
  | clearanceTimerExpiry n => exact nextFollows_next (permitFollows_expireClearance h n)
  | hello n identity =>
    exact nextFollows_next
      (permitFollows_craneRequest (fun ht => permitFollows_hello ht n identity) h)
  | position n angle radius profile loaded released =>
    exact nextFollows_next (permitFollows_craneRequest
      (fun ht => permitFollows_position ht n angle radius profile loaded released)
      (permitFollows_beforeReport h n loaded))
  | hold n zone =>
    exact nextFollows_next
      (permitFollows_onlineRequest (fun ht => permitFollows_holdZone ht n zone) h)
  | release n zone =>
    exact nextFollows_next
      (permitFollows_onlineRequest (fun ht => permitFollows_releaseZone ht n zone) h)
  | withdraw n zone =>
    exact nextFollows_next
      (permitFollows_onlineRequest (fun ht => permitFollows_withdrawZone ht n zone) h)
  | book n fields =>
    exact nextFollows_next (permitFollows_bookingRequest
      (fun ht => permitFollows_bookLift ht n false false fields) h)
  | cancel n number =>
    exact nextFollows_next (permitFollows_bookingRequest
      (fun ht => permitFollows_cancelLift ht (some n) number) h)
  | extend n number amount =>
    exact nextFollows_next (permitFollows_bookingRequest
      (fun ht => permitFollows_extendLift ht (some n) number amount) h)
  | myZones n first =>
    exact nextFollows_next
      (permitFollows_onlineRequest (fun ht => permitFollows_listZones ht n first) h)
  | myBookings n first =>
    exact nextFollows_next (permitFollows_onlineRequest (fun ht => ht) h)
  | badKind link kind payload =>
    exact nextFollows_next (permitFollows_handle (fun ht => ht) h)
  | badLength link kind payload =>
    exact nextFollows_next (permitFollows_handle (fun ht => ht) h)
  | waitingFrameSent link => exact nextFollows_next (by exact h)
  | reportTimerExpiry n => exact nextFollows_next (permitFollows_expireReport h n)
  | linkDwellExpiry n => exact nextFollows_next (permitFollows_expireLink h n)
  | entryTimerExpiry z => exact nextFollows_next (permitFollows_expireEntry h z)
  | releaseDwellExpiry z => exact nextFollows_next (permitFollows_expireDwell h z)
  | bookingLead number =>
    exact nextFollows_next (permitFollows_bookingTurn (fun ht => permitFollows_allEnds ht)
      (fun b ht => permitFollows_stepLead ht b) number _ h)
  | bookingStart number =>
    exact nextFollows_next (permitFollows_bookingTurn (fun ht => permitFollows_allLeads ht)
      (fun b ht => permitFollows_stepStart ht b) number _ h)
  | bookingRemainingExpiry number => exact nextFollows_bookingRemainingExpiry h number
  | acceptWindowExpiry number =>
    exact nextFollows_next (permitFollows_bookingTurn (fun ht => permitFollows_allRemaining ht)
      (fun b ht => permitFollows_stepExpiry ht b) number _ h)
  | deferredWindowExpiry number =>
    exact nextFollows_next (permitFollows_bookingTurn (fun ht => permitFollows_allRemaining ht)
      (fun b ht => permitFollows_stepExpiry ht b) number _ h)
  | timeMark sinceTick => exact nextFollows_timeMark h sinceTick
  | atTimeCommitMoment => exact nextFollows_next (permitFollows_atTimeMoment h)
  | storeWriteEnd found => exact nextFollows_next (permitFollows_endWrite h found)
  | stageStation tag number fields =>
    exact nextFollows_next
      (permitFollows_command (fun ht => permitFollows_stageStation ht number fields) h)
  | stageZone tag number fields =>
    exact nextFollows_next
      (permitFollows_command (fun ht => permitFollows_stageZone ht number fields) h)
  | stageSite tag clearanceTimeout siteDerate realign =>
    exact nextFollows_next (permitFollows_command
      (fun ht => permitFollows_stageSite ht clearanceTimeout siteDerate realign) h)
  | restage tag =>
    exact nextFollows_next (permitFollows_command (fun ht => permitFollows_restage ht) h)
  | commit tag mode target =>
    exact nextFollows_next
      (permitFollows_command (fun ht => permitFollows_commit ht mode target) h)
  | cancelCommit tag =>
    exact nextFollows_next (permitFollows_command (fun ht => permitFollows_cancelCommit ht) h)
  | store tag =>
    exact nextFollows_next (permitFollows_command (fun ht => permitFollows_storePlan ht) h)
  | forceRelease tag zone =>
    exact nextFollows_next
      (permitFollows_command (fun ht => permitFollows_forceRelease ht zone) h)
  | recover tag station =>
    exact nextFollows_next
      (permitFollows_command (fun ht => permitFollows_recoverStation ht station) h)
  | enrolNext tag addr =>
    exact nextFollows_next
      (permitFollows_handle (fun ht => permitFollows_enrolNext ht tag addr) h)
  | runLine tag =>
    exact nextFollows_next (permitFollows_command (fun ht => permitFollows_runLine ht) h)
  | stopLine tag =>
    exact nextFollows_next (permitFollows_command (fun ht => permitFollows_stopLine ht) h)
  | startLine tag =>
    exact nextFollows_next (permitFollows_command (fun ht => permitFollows_startLine ht) h)
  | sensorRestart tag addr =>
    exact nextFollows_next
      (permitFollows_command (fun ht => permitFollows_sensorRestart ht addr) h)
  | setTime tag time => exact nextFollows_setTime h tag time
  | setSiteDerate tag value =>
    exact nextFollows_next
      (permitFollows_command (fun ht => permitFollows_setSiteDerate ht value) h)
  | setRealign tag value =>
    exact nextFollows_next (permitFollows_command (fun ht => permitFollows_setRealign ht value) h)
  | supervisorBook tag station locked fields =>
    exact nextFollows_next (permitFollows_bookingCommand
      (fun ht => permitFollows_supervisorBookLift ht station locked fields) h)
  | supervisorCancel tag number =>
    exact nextFollows_next (permitFollows_bookingCommand
      (fun ht => permitFollows_cancelLift ht none number) h)
  | supervisorExtend tag number amount =>
    exact nextFollows_next (permitFollows_bookingCommand
      (fun ht => permitFollows_extendLift ht none number amount) h)
  | lock tag number =>
    exact nextFollows_next
      (permitFollows_bookingCommand (fun ht => permitFollows_lockLift ht number true) h)
  | unlock tag number =>
    exact nextFollows_next
      (permitFollows_bookingCommand (fun ht => permitFollows_lockLift ht number false) h)
  | queryStation tag station =>
    exact nextFollows_next
      (permitFollows_command (fun ht => permitFollows_queryStation ht station) h)
  | queryZone tag zone =>
    exact nextFollows_next (permitFollows_command (fun ht => permitFollows_queryZone ht zone) h)
  | queryBookings tag first filter =>
    exact nextFollows_next
      (permitFollows_command (fun ht => permitFollows_queryBookings ht first filter) h)
  | querySensor tag addr =>
    exact nextFollows_next (permitFollows_command (fun ht => permitFollows_querySensor ht addr) h)
  | queryTime tag => exact nextFollows_next (permitFollows_command (fun ht => ht) h)
  | queryPlan tag => exact nextFollows_next (permitFollows_command (fun ht => ht) h)
  | readRecord tag image cls number =>
    exact nextFollows_next
      (permitFollows_command (fun ht => permitFollows_readRecord ht image cls number) h)
  | queryAlarms tag => exact nextFollows_next (permitFollows_command (fun ht => ht) h)
  | ackAlarm tag priority scope =>
    exact nextFollows_next
      (permitFollows_command (fun ht => permitFollows_ackAlarm ht priority scope) h)
  | zeroLengthCollectionEnd link =>
    exact nextFollows_next (by exact h)

omit h in
/-- A frame found inside a failed one is handled as its command is, and is never such a frame itself (R193). -/
theorem State.takeFrame_cases (s : State) (i : Instr) :
    s.takeFrame i = s ∨ ((∀ link frame, i ≠ .badCheckFrame link frame) ∧
      s.takeFrame i = afterMeaning s (exec i s)) := by
  cases i with
  | powerOn | tick | windowClose | windCycleReadingEnd | echoWaitExpiry | runWatchEnd
  | checkingTimeout | sensorSilent | dropDwellExpiry | sstopAsserted | sstopWithdrawn
  | clearanceTimerExpiry | badCheckFrame | waitingFrameSent | reportTimerExpiry | linkDwellExpiry
  | entryTimerExpiry | releaseDwellExpiry | bookingLead | bookingStart | bookingRemainingExpiry
  | acceptWindowExpiry | deferredWindowExpiry | timeMark | atTimeCommitMoment | storeWriteEnd
  | zeroLengthCollectionEnd => exact .inl rfl
  | _ => exact .inr ⟨nofun, rfl⟩

theorem permitFollows_takeFrame (i : Instr) : permitFollows (s.takeFrame i) m = true := by
  rcases s.takeFrame_cases i with same | ⟨ne, handled⟩
  · rwa [same]
  · rw [handled]
    exact permitFollows_afterMeaning h (nextFollows_exec_of_ne h ne)

theorem permitFollows_rehunt (l : Link) (bytes : List Byte) :
    permitFollows (s.rehunt l bytes) m = true := by
  unfold State.rehunt
  extract_lets hunted
  rw [permitFollows_setRx]
  exact permitFollows_foldl (fun i h => permitFollows_takeFrame h i) _ (by exact h)

theorem nextFollows_exec (i : Instr) : nextFollows m (exec i s) := by
  by_cases failed : ∃ link frame, i = .badCheckFrame link frame
  · obtain ⟨link, frame, rfl⟩ := failed
    exact nextFollows_next (permitFollows_rehunt h link frame.tail)
  · exact nextFollows_exec_of_ne h fun link frame e => failed ⟨link, frame, e⟩

theorem nextFollows_step : nextFollows m (step s) := by
  unfold step
  split
  · exact nextFollows_next h
  case h_2 c rest _ => exact nextFollows_exec (s := { s with pending := rest }) h c

end Commands

/-- Settles O7: every unit's work keeps each permit that follows its inputs, since what writes an input of a
permit re-evaluates that permit before its end; the permit condition is R39's conjunction. -/
theorem motionPermitFollowsItsConditions : Obligations.MotionPermitFollowsItsConditions := by
  unfold Obligations.MotionPermitFollowsItsConditions
  intro s t follows taken n
  have mp : (t.ctx.get n).mp = t.permit n :=
    permitFollows_iff.mp (nextFollows_step (follows n) t taken)
  rw [mp]
  exact t.permit_iff n

end Sys2Proof.Machine
end

section
/-! ATTN and the alarm table (R190) through the frames, the limits, the Zone Arbiter, the Booking Engine and the
Shutdown Unit. The alarm table is written entry by entry, and each such write sets ATTN afresh; every other write
leaves both alone. So each lemma takes a state whose ATTN follows its table and shows that it does so after the
operation, and names no entry. -/

namespace Sys2Proof.Machine

open Sys2Proof.Safety

/-! ### What ATTN says -/

/-- ATTN is what R190 makes of the alarm table: `attnFollows` as an equation. -/
def AttnFollows (s : State) : Prop := s.attn = attnOf s.alarms

theorem attnFollows_iff {s : State} : attnFollows s = true ↔ AttnFollows s := beq_iff_eq

theorem Entry.callsAttention_iff (e : Entry) :
    e.callsAttention = true ↔ (e.state = .active ∧ e.ack = false) ∨ e.state = .latched := by
  obtain ⟨state, ack⟩ := e
  cases state <;> simp [Entry.callsAttention]

/-- The condition of R190: the part's list of entries misses none. -/
theorem attnOf_iff (t : AlarmTable) :
    attnOf t = true ↔
      ∃ i, ((t.get i).state = .active ∧ (t.get i).ack = false) ∨ (t.get i).state = .latched := by
  simp [attnOf, Entry.callsAttention_iff]

/-! ### Writes of the alarm table

After one of these ATTN follows, whatever stood before. -/

theorem attnFollows_setEntry (s : State) (i : AlarmId) (e : Entry) : AttnFollows (s.setEntry i e) :=
  rfl

theorem AttnFollows.raise {s : State} (h : AttnFollows s) (l : Link) (f : Frame) :
    AttnFollows (s.raise l f) := by
  unfold State.raise
  split <;> exact h

theorem attnFollows_alarmBegins (s : State) (i : AlarmId) : AttnFollows (s.alarmBegins i) := by
  have entered := attnFollows_setEntry s i (s.alarms.get i).begins
  simp only [State.alarmBegins]
  split
  · exact entered.raise _ _
  · exact entered

theorem attnFollows_alarmEnds (s : State) (i : AlarmId) : AttnFollows (s.alarmEnds i) :=
  attnFollows_setEntry s i _

theorem attnFollows_alarmIs (s : State) (i : AlarmId) (b : Bool) : AttnFollows (s.alarmIs i b) := by
  unfold State.alarmIs
  split
  · exact attnFollows_alarmBegins s i
  · exact attnFollows_alarmEnds s i

section Shared

variable {s : State} (h : AttnFollows s)
include h

/-- A choice of operations that each keep ATTN keeps it. -/
theorem AttnFollows.ite {c : Prop} [Decidable c] {t : State} (ht : AttnFollows t) :
    AttnFollows (if c then s else t) := by
  split
  · exact h
  · exact ht

/-- A fold of operations that each keep ATTN keeps it. -/
theorem AttnFollows.foldl {β : Type} {f : State → β → State}
    (keeps : ∀ {s : State} (b : β), AttnFollows s → AttnFollows (f s b)) (bs : List β) :
    AttnFollows (bs.foldl f s) := by
  induction bs generalizing s with
  | nil => exact h
  | cons b bs ih => exact ih (keeps b h)

/-! ### Writes of other records -/

theorem AttnFollows.setCtx {n : Station} {c : StationCtx} : AttnFollows (s.setCtx n c) := h

theorem AttnFollows.setArb {n : Station} {c : ArbiterCtx} : AttnFollows (s.setArb n c) := h

theorem AttnFollows.setLim {n : Station} {l : LimitCtx} : AttnFollows (s.setLim n l) := h

theorem AttnFollows.setWind {n : Station} {c : WindCtx} : AttnFollows (s.setWind n c) := h

theorem AttnFollows.setVane {n : Station} {c : VaneCtx} : AttnFollows (s.setVane n c) := h

theorem AttnFollows.setSensor {a : Addr} {r : SensorRec} : AttnFollows (s.setSensor a r) := h

theorem AttnFollows.setLine {l : LineRec} : AttnFollows (s.setLine l) := h

theorem AttnFollows.setPlan {p : PlanUnit} : AttnFollows (s.setPlan p) := h

theorem AttnFollows.setBookings {bs : List Booking} : AttnFollows (s.setBookings bs) := h

theorem AttnFollows.putBooking {b : Booking} : AttnFollows (s.putBooking b) := h

/-- The next free choice is the model's own record. -/
theorem AttnFollows.choose : AttnFollows s.choose.2 := h

/-! ### Frames and requests -/

theorem AttnFollows.notify (n : Station) (x : Notice) : AttnFollows (s.notify n x) :=
  .ite h (h.raise _ _)

/-- A request keeps ATTN when its work does; its answer and the frames held back are no alarm. -/
theorem AttnFollows.handle {l : Link} {work : State → State × Option Frame}
    (keeps : ∀ {t : State}, AttnFollows t → AttnFollows (work t).1) :
    AttnFollows (s.handle l work) :=
  keeps (t := { s.setRx l .hunting with handling := some l, held := [] }) h

theorem AttnFollows.craneRequest {n : Station} {kind : Byte} {work : State → State × Code × Data}
    (keeps : ∀ {t : State}, AttnFollows t → AttnFollows (work t).1) :
    AttnFollows (s.craneRequest n kind work) :=
  h.handle keeps

theorem AttnFollows.onlineRequest {n : Station} {kind : Byte} {work : State → State × Code × Data}
    (keeps : ∀ {t : State}, AttnFollows t → AttnFollows (work t).1) :
    AttnFollows (s.onlineRequest n kind work) := by
  refine h.craneRequest fun {t} ht => ?_
  split
  · exact keeps ht
  · exact ht

theorem AttnFollows.command {tag cmd : Nat} {work : State → State × Code × Data}
    (keeps : ∀ {t : State}, AttnFollows t → AttnFollows (work t).1) :
    AttnFollows (s.command tag cmd work) :=
  h.handle keeps

/-! ### Limits, the motion permit and the clear condition (R73, R83, R134) -/

theorem AttnFollows.recompute (n : Station) : AttnFollows (s.recompute n) := by
  obtain ⟨l, computed, -⟩ := s.recompute_cases n
  rw [computed]
  exact h.setLim

theorem AttnFollows.reevalPermit (n : Station) : AttnFollows (s.reevalPermit n) := by
  rcases s.reevalPermit_cases n with ⟨-, e⟩ | ⟨-, e⟩ <;> rw [e]
  · exact h
  · exact h.setCtx.recompute n

theorem AttnFollows.setOverdue (v : Station) (b : Bool) : AttnFollows (s.setOverdue v b) :=
  .ite h (attnFollows_alarmIs _ _ b)

theorem AttnFollows.judgeClear (v : Station) : AttnFollows (s.judgeClear v) :=
  .ite (h.setVane.setOverdue v false) h

theorem AttnFollows.judgeSwingLine (v : Station) (z : Zone) : AttnFollows (s.judgeSwingLine v z) :=
  .ite h.setVane h

theorem AttnFollows.holderTold (z : Zone) : AttnFollows (s.holderTold z) :=
  h.foldl (fun v h => (h.judgeClear v).judgeSwingLine v z) _

theorem AttnFollows.setVWind (n : Station) (v : Nat) : AttnFollows (s.setVWind n v) :=
  .ite h.setLim ((h.setLim.reevalPermit n).judgeClear n)

theorem AttnFollows.limitTick (n : Station) : AttnFollows (s.limitTick n) :=
  .ite ((h.setVWind n _).recompute n) h

/-! ### The latches of the Zone Arbiter (R59, R60, R68) -/

theorem AttnFollows.latchIntrusion (n : Station) : AttnFollows (s.latchIntrusion n) :=
  .ite h ((attnFollows_alarmBegins _ _).reevalPermit n)

theorem AttnFollows.reevalConflict (n : Station) : AttnFollows (s.reevalConflict n) :=
  .ite h ((attnFollows_alarmIs _ _ _).reevalPermit n)

theorem AttnFollows.recoveryTest (n : Station) : AttnFollows (s.recoveryTest n) :=
  .ite ((attnFollows_alarmEnds _ _).reevalPermit n) h

theorem AttnFollows.holderChanged (z : Zone) : AttnFollows (s.holderChanged z) :=
  (h.holderTold z).foldl (fun n h => h.reevalConflict n) _

/-! ### Zones -/

theorem AttnFollows.modZone (z : Zone) (f : ZoneDyn → ZoneDyn) : AttnFollows (s.modZone z f) := by
  rw [s.modZone_frame z f]
  exact h

theorem AttnFollows.bookingPassed (num : Nat) (z : Zone) : AttnFollows (s.bookingPassed num z) := by
  unfold State.bookingPassed
  split <;> exact h

theorem AttnFollows.granted (z : Zone) (n : Station) (kind : GrantKind) :
    AttnFollows (s.granted z n kind) :=
  ((h.notify n _).holderChanged z).recoveryTest n

theorem AttnFollows.grantOrdinary (z : Zone) (n : Station) : AttnFollows (s.grantOrdinary z n) :=
  (h.modZone z _).granted z n _

theorem AttnFollows.grantBooked (z : Zone) (n : Station) : AttnFollows (s.grantBooked z n) :=
  (h.modZone z _).granted z n _

/-- Serving a zone leaves the state, or grants to the reserving booking or to the head of the wait list. -/
theorem AttnFollows.serve (z : Zone) : AttnFollows (s.serve z) := by
  unfold State.serve
  split
  · exact h
  · split
    case h_2 =>
      split
      · exact .ite ((h.grantBooked z _).bookingPassed _ z) h
      · exact h
    case h_3 => exact .ite h (h.grantOrdinary z _)
    all_goals exact h

theorem AttnFollows.serveMemberZones (n : Station) : AttnFollows (s.serveMemberZones n) :=
  h.foldl (fun z h => h.serve z) _

theorem AttnFollows.serveAt (z : Zone) (n : Station) : AttnFollows (s.serveAt z n) :=
  (h.serve z).serveMemberZones n

theorem AttnFollows.adoptZone (z : Zone) (n : Station) : AttnFollows (s.adoptZone z n) := by
  unfold State.adoptZone
  split
  · exact .ite (((h.modZone z _).bookingPassed _ z).granted z n _) ((h.modZone z _).granted z n _)
  · exact (h.modZone z _).granted z n _

theorem AttnFollows.adoptOne (n : Station) (z : Zone) : AttnFollows (State.adoptOne n s z) :=
  .ite h (.ite (h.adoptZone z n) (h.latchIntrusion n))

theorem AttnFollows.adopt (n : Station) : AttnFollows (s.adopt n) :=
  h.foldl (fun z h => h.adoptOne n z) _

theorem AttnFollows.loseWaits (n : Station) : AttnFollows (s.loseWaits n) :=
  ((h.foldl (fun z h => h.modZone z _) _).foldl (fun z h => h.serve z) _).serveMemberZones n

theorem AttnFollows.sweepAdd (v : Station) : AttnFollows (s.sweepAdd v) :=
  h.foldl (fun z h => h.modZone z _) _

/-! ### Judging a report (R58) -/

theorem AttnFollows.judgeEntry (n : Station) : AttnFollows (s.judgeEntry n) :=
  h.foldl (fun z h => .ite (h.modZone z _) h) _

theorem AttnFollows.judgeIntrusion (n : Station) : AttnFollows (s.judgeIntrusion n) :=
  .ite h (h.latchIntrusion n)

theorem AttnFollows.judgeDwells (n : Station) : AttnFollows (s.judgeDwells n) :=
  h.foldl (fun z h => h.modZone z _) _

theorem AttnFollows.judgeConflicts (n : Station) : AttnFollows (s.judgeConflicts n) :=
  h.foldl (fun n h => h.reevalConflict n) _

theorem AttnFollows.judgeReport (n : Station) (joined : Bool) :
    AttnFollows (s.judgeReport n joined) := by
  unfold State.judgeReport
  extract_lets adopted entered judged dwelt
  have adoptedFollows : AttnFollows adopted := .ite (h.adopt n) h
  have enteredFollows : AttnFollows entered := adoptedFollows.judgeEntry n
  have judgedFollows : AttnFollows judged := .ite enteredFollows (enteredFollows.judgeIntrusion n)
  exact ((judgedFollows.judgeDwells n).judgeConflicts n).recoveryTest n

/-! ### Requests for zones (R48, R50, R51, R66, R67) and the zone timers (R55, R57)

A refusal leaves the state as it is. -/

theorem AttnFollows.holdOpen (z : Zone) (d : ZoneDyn) (c : Station) :
    AttnFollows (s.holdOpen z d c).1 := by
  unfold State.holdOpen
  split
  · exact h.grantOrdinary z c
  · exact h.modZone z _

theorem AttnFollows.holdZone (c : Station) (zone : Nat) : AttnFollows (s.holdZone c zone).1 := by
  fun_cases State.holdZone s c zone
  case case9 => exact h.holdOpen _ _ c
  case case10 => exact h.holdOpen _ _ c
  all_goals exact h

theorem AttnFollows.withdrawZone (c : Station) (zone : Nat) :
    AttnFollows (s.withdrawZone c zone).1 := by
  unfold State.withdrawZone
  split
  · exact h
  · split
    · exact (h.modZone _ _).serveAt _ c
    · exact h

theorem AttnFollows.releaseZone (c : Station) (zone : Nat) :
    AttnFollows (s.releaseZone c zone).1 := by
  fun_cases State.releaseZone s c zone
  case case5 z _ _ _ _ _ => exact ((h.modZone z _).serveAt z c).holderChanged z
  all_goals exact h

theorem AttnFollows.forceRelease (zone : Nat) : AttnFollows (s.forceRelease zone).1 := by
  fun_cases State.forceRelease s zone
  case case4 => exact (((h.modZone _ _).notify _ _).holderChanged _).serveAt _ _
  all_goals exact h

theorem AttnFollows.recoverZone (n : Station) (z : Zone) : AttnFollows (State.recoverZone n s z) :=
  .ite (h.adoptZone z n) (h.modZone z _)

theorem AttnFollows.recoverStation (number : Nat) : AttnFollows (s.recoverStation number).1 := by
  unfold State.recoverStation
  split
  · exact h
  case h_2 n _ =>
    split
    · exact h
    · extract_lets recovered c tested
      have testedFollows : AttnFollows tested :=
        AttnFollows.recoveryTest (s := recovered.setArb n _)
          (h.foldl (fun z h => h.recoverZone n z) _) n
      split <;> exact testedFollows

theorem AttnFollows.expireEntry (z : Zone) : AttnFollows (s.expireEntry z) := by
  unfold State.expireEntry
  split
  · split
    · exact (((h.modZone z _).notify _ _).holderChanged z).serveAt z _
    · exact h
  · exact h

theorem AttnFollows.expireDwell (z : Zone) : AttnFollows (s.expireDwell z) := by
  unfold State.expireDwell
  split
  · split
    · exact ((h.modZone z _).holderChanged z).serveAt z _
    · exact h
  · exact h

/-! ### Bookings (R156 .. R174) -/

theorem AttnFollows.reserve (num : Nat) (zs : List Zone) : AttnFollows (s.reserve num zs) :=
  h.foldl (fun z h => h.modZone z _) _

theorem AttnFollows.liftReservations (zs : List Zone) : AttnFollows (s.liftReservations zs) :=
  (h.foldl (fun z h => h.modZone z _) _).foldl (fun z h => h.serve z) _

theorem AttnFollows.openZone (n : Station) (z : Zone) : AttnFollows (State.openZone n s z) := by
  unfold State.openZone
  split
  · split <;> exact h.modZone z _
  · exact .ite (h.modZone z _) (h.grantBooked z n)

theorem AttnFollows.openBooking (b : Booking) (remaining ends : Nat) :
    AttnFollows (s.openBooking b remaining ends) :=
  h.putBooking.foldl (fun z h => h.openZone b.station z) _

theorem AttnFollows.endBooking (b : Booking) (e : Ending) : AttnFollows (s.endBooking b e) := by
  unfold State.endBooking
  extract_lets ended lifted r c written told reported
  have endedFollows : AttnFollows ended := h.foldl (fun z h => h.modZone z _) _
  have liftedFollows : AttnFollows lifted :=
    .ite endedFollows ((endedFollows.liftReservations _).serveMemberZones _)
  have reportedFollows : AttnFollows reported := (liftedFollows.setCtx.notify _ _).raise _ _
  split <;> exact reportedFollows

theorem AttnFollows.leadBooking (b : Booking) : AttnFollows (s.leadBooking b) :=
  h.putBooking.reserve _ _

theorem AttnFollows.startBooking (b : Booking) : AttnFollows (s.startBooking b) := by
  unfold State.startBooking
  split
  · exact h
  · split
    · exact h
    · exact h
    · exact h.openBooking b _ _
    · exact h.openBooking b _ _

/-- A step of the booking timeline keeps ATTN when it does so at each booking. -/
theorem AttnFollows.overBookings {f : State → Booking → State}
    (keeps : ∀ {t : State} (b : Booking), AttnFollows t → AttnFollows (f t b)) (sel : Nat → Bool) :
    AttnFollows (s.overBookings sel f) := by
  refine h.foldl (fun {t} num ht => ?_) _
  split
  · exact keeps _ ht
  · exact ht

theorem AttnFollows.stepRemaining (b : Booking) : AttnFollows (s.stepRemaining b) := by
  unfold State.stepRemaining
  split
  · split
    · exact h.endBooking b _
    · exact h
  · exact h

theorem AttnFollows.stepExpiry (b : Booking) : AttnFollows (s.stepExpiry b) := by
  unfold State.stepExpiry
  split
  · exact h
  · split
    · exact h.endBooking b _
    · exact h

theorem AttnFollows.stepLead (b : Booking) : AttnFollows (s.stepLead b) :=
  .ite (h.leadBooking b) h

theorem AttnFollows.stepStart (b : Booking) : AttnFollows (s.stepStart b) :=
  .ite (h.startBooking b) h

theorem AttnFollows.allRemaining : AttnFollows s.allRemaining :=
  h.overBookings (fun b h => h.stepRemaining b) _

theorem AttnFollows.allEnds : AttnFollows s.allEnds :=
  h.allRemaining.overBookings (fun b h => h.stepExpiry b) _

theorem AttnFollows.allLeads : AttnFollows s.allLeads :=
  h.allEnds.overBookings (fun b h => h.stepLead b) _

theorem AttnFollows.settleBookings : AttnFollows s.settleBookings :=
  h.allLeads.overBookings (fun b h => h.stepStart b) _

theorem AttnFollows.bookingTurn {before : State → State} {f : State → Booking → State}
    (first : AttnFollows (before s))
    (keeps : ∀ {t : State} (b : Booking), AttnFollows t → AttnFollows (f t b))
    (num : Nat) (due : State → Booking → Bool) : AttnFollows (s.bookingTurn num before f due) := by
  unfold State.bookingTurn
  split
  · exact .ite (first.overBookings keeps _) h
  · exact h

theorem AttnFollows.admitLift (b : Booking) : AttnFollows (s.admitLift b) := by
  unfold State.admitLift
  extract_lets table entered led
  have enteredFollows : AttnFollows entered := h
  have ledFollows : AttnFollows led := enteredFollows.leadBooking b
  split
  · exact .ite (ledFollows.startBooking _) ledFollows
  · exact enteredFollows

theorem AttnFollows.bookInRange (n : Station) (bySupervisor locked : Bool) (r : BookRequest) :
    AttnFollows (s.bookInRange n bySupervisor locked r).1 := by
  fun_cases State.bookInRange s n bySupervisor locked r
  case case8 => exact h.admitLift _
  all_goals exact h

theorem AttnFollows.bookLift (n : Station) (bySupervisor locked : Bool) (f : WireBook) :
    AttnFollows (s.bookLift n bySupervisor locked f).1 := by
  unfold State.bookLift
  split
  · exact h
  · split
    · exact h
    · exact h.bookInRange n _ _ _

theorem AttnFollows.supervisorBookLift (station locked : Nat) (f : WireBook) :
    AttnFollows (s.supervisorBookLift station locked f).1 := by
  fun_cases State.supervisorBookLift s station locked f
  case case4 => exact h.bookLift _ _ _ f
  all_goals exact h

theorem AttnFollows.cancelLift (crane : Option Station) (num : Nat) :
    AttnFollows (s.cancelLift crane num).1 := by
  fun_cases State.cancelLift s crane num
  case case4 => exact h.endBooking _ _
  all_goals exact h

theorem AttnFollows.extendLift (crane : Option Station) (num : Nat) (amount : Int) :
    AttnFollows (s.extendLift crane num amount).1 := by
  fun_cases State.extendLift s crane num amount <;> exact h

theorem AttnFollows.lockLift (num : Nat) (locked : Bool) :
    AttnFollows (s.lockLift num locked).1 := by
  unfold State.lockLift
  split <;> exact h

theorem AttnFollows.loadRise (n : Station) : AttnFollows (s.loadRise n) := by
  unfold State.loadRise
  split
  · split
    · exact h.openBooking _ _ _
    · exact h.openBooking _ _ _
    · exact h
    · exact h
  · exact h

theorem AttnFollows.bookingStageTold (stage : Stage) (b : Booking) :
    AttnFollows (State.bookingStageTold stage s b) := by
  have lapses (e : Nat) : AttnFollows
      (if e ≤ s.clock.time then s.endBooking b .lapsedDeferred
        else s.openBooking b (e - s.clock.time) e) :=
    .ite (h.endBooking b _) (h.openBooking b _ _)
  unfold State.bookingStageTold
  split
  · exact h.endBooking b _
  · exact h.endBooking b _
  · exact lapses _
  · exact lapses _
  · exact h

theorem AttnFollows.stageToldBookings (n : Station) (stage : Stage) :
    AttnFollows (s.stageToldBookings n stage) :=
  h.overBookings (fun b h => h.bookingStageTold stage b) _

/-! ### The shutdown sequence (R131 .. R139) -/

theorem AttnFollows.requestClearance (v : Station) (zh : Zone × Station) :
    AttnFollows (State.requestClearance v s zh) := by
  refine AttnFollows.notify ?_ _ _
  unfold State.abortForClearance
  split
  · exact h.endBooking _ _
  · exact h

theorem AttnFollows.clearNeighbours (v : Station) : AttnFollows (s.clearNeighbours v) :=
  ((h.foldl (fun zh h => h.requestClearance v zh) _).setVane.setOverdue v false).judgeClear v

theorem AttnFollows.endSequence (v : Station) : AttnFollows (s.endSequence v) :=
  (h.setVane.setOverdue v false).serveMemberZones v

theorem AttnFollows.judgeSequence (v : Station) : AttnFollows (s.judgeSequence v) := by
  unfold State.judgeSequence
  split
  · exact .ite (h.setVane.clearNeighbours v) h
  · exact .ite h (h.endSequence v)
  · exact .ite h (h.endSequence v)
  · exact h

theorem AttnFollows.expireClearance (v : Station) : AttnFollows (s.expireClearance v) :=
  .ite (h.setVane.setOverdue v true) h

/-! ### The swing and a release out of turn (R137 .. R142) -/

theorem AttnFollows.beginSwing (v : Station) : AttnFollows (s.beginSwing v) :=
  (h.sweepAdd v).setVane.serveMemberZones v

omit h in
/-- A release out of turn begins the UNSAFE_VANE condition, after which ATTN follows from any state. -/
theorem attnFollows_unsafeRelease (s : State) (v : Station) : AttnFollows (s.unsafeRelease v) := by
  unfold State.unsafeRelease
  extract_lets wasClearing c latched swept d vaning opened
  have vaningFollows : AttnFollows vaning :=
    ((attnFollows_alarmBegins latched _).sweepAdd v).setVane
  have openedFollows : AttnFollows opened :=
    .ite ((vaningFollows.setOverdue v false).serveMemberZones v) vaningFollows
  exact openedFollows.reevalPermit v

theorem AttnFollows.unsafeCleared (v : Station) : AttnFollows (s.unsafeCleared v) :=
  .ite (h.setVane.reevalPermit v) h

omit h in
/-- An APPLIED report ends the UNSAFE_VANE condition, after which ATTN follows whatever the transition of R138
before it has done. -/
theorem attnFollows_endSwing (s : State) (v : Station) : AttnFollows (s.endSwing v) :=
  (attnFollows_alarmEnds _ _).unsafeCleared v

theorem AttnFollows.takeBrake (v : Station) (released : Bool) :
    AttnFollows (s.takeBrake v released) := by
  unfold State.takeBrake
  extract_lets c taken
  have takenFollows : AttnFollows taken := h.setVane
  split
  · exact takenFollows.beginSwing v
  · exact attnFollows_unsafeRelease taken v
  · exact attnFollows_unsafeRelease taken v
  · exact attnFollows_endSwing taken v
  all_goals exact takenFollows

end Shared

end Sys2Proof.Machine
end

section
/-! ATTN through the wind stages, the wind line, the Station Unit, the Plan Unit, the Site Clock, the Supervisor
Port and the resets, and through every command: each step keeps ATTN as the alarm table says (R190). -/

namespace Sys2Proof.Machine

open Sys2Proof.Safety

section Units

variable {s : State} (h : AttnFollows s)
include h

/-! ### Stages (R115 .. R124) -/

theorem AttnFollows.tellStage (n : Station) (stage : Stage) (first : Bool) :
    AttnFollows (s.tellStage n stage first) :=
  .ite ((h.stageToldBookings n stage).judgeSequence n)
    ((h.judgeSequence n).stageToldBookings n stage)

theorem AttnFollows.changeStage (n : Station) (stage : Stage) (first : Bool) :
    AttnFollows (s.changeStage n stage first) :=
  .ite h ((h.setWind.notify n _).tellStage n stage first)

theorem AttnFollows.formFigures (n : Station) : AttnFollows (s.formFigures n) :=
  .ite h.setWind (attnFollows_alarmIs _ _ _)

theorem AttnFollows.evaluateDrop (n : Station) (f : Nat × Nat) :
    AttnFollows (s.evaluateDrop n f) := by
  simp only [State.evaluateDrop]
  split
  · split
    · exact h
    · exact h.setWind
  · exact h.setWind

theorem AttnFollows.evaluateRaise (n : Station) (f : Nat × Nat) (first : Bool) :
    AttnFollows (s.evaluateRaise n f first) := by
  unfold State.evaluateRaise
  extract_lets
  exact .ite (h.setWind.changeStage n _ first) (h.setWind.evaluateDrop n f)

theorem AttnFollows.evaluateStation (n : Station) (first : Bool) :
    AttnFollows (s.evaluateStation n first) := by
  unfold State.evaluateStation
  split
  case isFalse => exact h
  case isTrue =>
    extract_lets formed w settled
    have formedFollows : AttnFollows formed := h.formFigures n
    have settledFollows : AttnFollows settled := formedFollows.setWind
    split
    · exact settledFollows.changeStage n .shutdown first
    · split
      · split
        · exact settledFollows.changeStage n .hold first
        · exact settledFollows.changeStage n .hold first
        · exact settledFollows
        · exact settledFollows
      · exact formedFollows.evaluateRaise n _ first

theorem AttnFollows.handOver (k : Nat) : AttnFollows (s.handOver k) :=
  h.foldl (fun n h => h.evaluateStation n _) _

theorem AttnFollows.countDrop (n : Station) : AttnFollows (s.countDrop n) := by
  simp only [State.countDrop]
  split
  · exact .ite h.setWind h
  · exact h

theorem AttnFollows.fall (n : Station) (first : Bool) : AttnFollows (s.fall n first) :=
  .ite (h.setWind.changeStage n _ first) h

theorem AttnFollows.takeFall (n : Station) : AttnFollows (s.takeFall n) :=
  .ite (h.choose.fall n _) h

theorem AttnFollows.stopStation (n : Station) (first : Bool) :
    AttnFollows (s.stopStation n first) :=
  .ite ((h.setWind.changeStage n .shutdown first).judgeSequence n) h

omit h in
theorem attnFollows_takeSiteStop (s : State) (k : Nat) : AttnFollows (s.takeSiteStop k) :=
  (attnFollows_alarmBegins _ _).foldl (fun n h => h.stopStation n _) _

omit h in
theorem attnFollows_leaveSiteStop (s : State) (k : Nat) : AttnFollows (s.leaveSiteStop k) :=
  (attnFollows_alarmEnds _ _).foldl (fun n h => h.judgeSequence n) _

/-! ### The wind line (R91 .. R111) -/

/-- The conditions of a sensor follow its record; each that changes is told in turn. -/
theorem AttnFollows.putRecord (a : Addr) (r : SensorRec) : AttnFollows (s.putRecord a r) := by
  unfold State.putRecord
  extract_lets old written fault failed
  have faultFollows : AttnFollows fault := .ite h.setSensor (attnFollows_alarmIs written _ _)
  have failedFollows : AttnFollows failed := .ite faultFollows (attnFollows_alarmIs fault _ _)
  exact .ite (attnFollows_setEntry failed _ _) failedFollows

theorem AttnFollows.listCommand (c : LineCommand) : AttnFollows (s.listCommand c) :=
  .ite h h.setLine

theorem AttnFollows.runRecord (a : Addr) : AttnFollows (s.runRecord a) :=
  .ite (h.putRecord a _) h

theorem AttnFollows.commandSent (c : LineCommand) : AttnFollows (s.commandSent c) := by
  cases c with
  | assign a => exact h.setLine
  | run => exact h.setLine.foldl (fun a h => h.runRecord a) _
  | runTo a => exact .ite (h.putRecord a _) h

theorem AttnFollows.sendCommand (c : LineCommand) : AttnFollows (s.sendCommand c) :=
  AttnFollows.commandSent (by exact h) c

theorem AttnFollows.startCycle : AttnFollows s.startCycle := by
  unfold State.startCycle
  extract_lets
  split
  · exact h
  · exact h
  · exact h.setLine.setLine.sendCommand _

theorem AttnFollows.closeWindow : AttnFollows s.closeWindow := by
  unfold State.closeWindow
  split
  · extract_lets _ closed
    have closedFollows : AttnFollows closed := h.setLine
    split
    · exact closedFollows
    · exact .ite (closedFollows.sendCommand _) (closedFollows.listCommand _)
  · exact h

theorem AttnFollows.answerEnrol (code : Code) : AttnFollows (s.answerEnrol code) := by
  unfold State.answerEnrol
  split <;> exact h

theorem AttnFollows.readEcho (slots : PerAddr Slot) : AttnFollows (s.readEcho slots) := by
  unfold State.readEcho
  split
  · exact .ite ((h.setLine.putRecord _ _).answerEnrol _) h.setLine
  · exact h

theorem AttnFollows.expireEcho : AttnFollows s.expireEcho := by
  unfold State.expireEcho
  split
  · exact h.setLine.answerEnrol _
  · exact h

theorem AttnFollows.stopWatch : AttnFollows s.stopWatch :=
  .ite h.setLine h

theorem AttnFollows.failAttempt (a : Addr) : AttnFollows (s.failAttempt a) :=
  .ite ((h.putRecord a _).listCommand _) (h.putRecord a _)

theorem AttnFollows.expireChecking (a : Addr) : AttnFollows (s.expireChecking a) :=
  .ite (h.failAttempt a) h

theorem AttnFollows.expireCheckingBelow (a : Addr) : AttnFollows (s.expireCheckingBelow a) :=
  h.foldl (fun b h => h.expireChecking b) _

theorem AttnFollows.expireSilent (a : Addr) : AttnFollows (s.expireSilent a) :=
  .ite (h.putRecord a _) h

theorem AttnFollows.findWatched (a : Addr) (x : Reply) : AttnFollows (s.findWatched a x) := by
  simp only [State.findWatched]
  split
  · exact .ite (h.putRecord a _) h
  · exact h

theorem AttnFollows.readAttempt (a : Addr) (moved : Option SensorRec) :
    AttnFollows (s.readAttempt a moved) := by
  cases moved with
  | some r => exact h.putRecord a _
  | none => exact (h.expireCheckingBelow a).setSensor.failAttempt a

theorem AttnFollows.readAddr (slots : PerAddr Slot) (a : Addr) :
    AttnFollows (State.readAddr slots s a) := by
  unfold State.readAddr
  extract_lets x found r
  have foundFollows : AttnFollows found := h.findWatched a x
  split
  · exact foundFollows.readAttempt a _
  · exact foundFollows.readAttempt a _
  · exact foundFollows.readAttempt a _
  · exact foundFollows.putRecord a _
  · exact foundFollows.putRecord a _
  all_goals exact foundFollows

theorem AttnFollows.readSlots (kind : CycleKind) (slots : PerAddr Slot) :
    AttnFollows (s.readSlots kind slots) := by
  unfold State.readSlots
  split
  · exact h.readEcho slots
  · exact ((h.readEcho slots).foldl (fun a h => h.readAddr slots a) _).setLine
  · exact h

theorem AttnFollows.takeCycleEnds : AttnFollows s.takeCycleEnds :=
  (h.expireEcho.stopWatch.foldl (fun a h => h.expireChecking a) _).foldl
    (fun a h => h.expireSilent a) _

theorem AttnFollows.endReading (slots : PerAddr Slot) (k : Nat) :
    AttnFollows (s.endReading slots k) := by
  unfold State.endReading
  split
  case h_1 c _ =>
    extract_lets _ handed
    have handedFollows : AttnFollows handed :=
      AttnFollows.handOver (by exact h.readSlots c.kind slots) k
    exact .ite handedFollows.takeCycleEnds.startCycle handedFollows
  case h_2 => exact h

theorem AttnFollows.takeReading : AttnFollows s.takeReading := by
  unfold State.takeReading
  split
  · exact .ite (h.choose.endReading _ _) h
  · exact h

theorem AttnFollows.cutCycle : AttnFollows s.cutCycle := h

theorem AttnFollows.blankRecords : AttnFollows s.blankRecords :=
  h.foldl (fun a h => h.putRecord a _) _

theorem AttnFollows.powerUpLine : AttnFollows s.powerUpLine := h.cutCycle.blankRecords.setLine

theorem AttnFollows.stopPower : AttnFollows s.stopPower :=
  (h.cutCycle.setLine.answerEnrol _).blankRecords

theorem AttnFollows.enrolNext (tag addr : Nat) : AttnFollows (s.enrolNext tag addr).1 := by
  unfold State.enrolNext
  split
  · exact AttnFollows.listCommand (by exact h) _
  · exact h
  · exact h

theorem AttnFollows.runLine : AttnFollows s.runLine.1 := by
  unfold State.runLine
  split
  · exact h
  · exact h
  · split
    · exact h
    · exact h.listCommand _

theorem AttnFollows.stopLine : AttnFollows s.stopLine.1 := by
  unfold State.stopLine
  split
  · exact h
  · exact h.stopPower
  · exact h.stopPower

theorem AttnFollows.startLine : AttnFollows s.startLine.1 := by
  unfold State.startLine
  split
  · exact h.powerUpLine
  · exact h
  · exact h

theorem AttnFollows.sensorRestart (addr : Nat) : AttnFollows (s.sensorRestart addr).1 := by
  fun_cases State.sensorRestart s addr
  case case4 => exact (h.putRecord _ _).listCommand _
  all_goals exact h

/-! ### Joining, reports and loss (R25 .. R32) -/

theorem AttnFollows.staleEnds (n : Station) (was : LinkState) : AttnFollows (s.staleEnds n was) :=
  .ite (attnFollows_alarmEnds s _) h

theorem AttnFollows.join (n : Station) : AttnFollows (s.join n) :=
  ((h.setCtx.staleEnds n _).setVWind n 0).reevalPermit n

theorem AttnFollows.hello (n : Station) (identity : Nat) : AttnFollows (s.hello n identity).1 := by
  unfold State.hello
  split
  · exact h
  · exact h.join n

theorem AttnFollows.reportJudged (n : Station) : AttnFollows (s.reportJudged n) :=
  (h.setCtx.staleEnds n _).judgeReport n _

theorem AttnFollows.restartReport (n : Station) : AttnFollows (s.restartReport n) :=
  h.setCtx.reevalPermit n

theorem AttnFollows.report (n : Station) (angle : Angle) (radius profile : Nat)
    (loaded released : Bool) :
    AttnFollows (s.report n angle radius profile loaded released) := by
  unfold State.report
  extract_lets c rises reported braked risen
  have brakedFollows : AttnFollows braked := h.setCtx.takeBrake n released
  have risenFollows : AttnFollows risen := .ite (brakedFollows.loadRise n) brakedFollows
  exact ((risenFollows.reportJudged n).restartReport n).recompute n

theorem AttnFollows.position (n : Station) (angle : Angle) (radius profile : Nat)
    (loaded released : Bool) :
    AttnFollows (s.position n angle radius profile loaded released).1 := by
  unfold State.position
  split
  · exact h
  · exact h.report n angle radius profile loaded released

theorem AttnFollows.beforeReport (n : Station) (loaded : Bool) :
    AttnFollows (s.beforeReport n loaded) :=
  .ite h.settleBookings h

theorem AttnFollows.expireReport (n : Station) : AttnFollows (s.expireReport n) :=
  .ite ((attnFollows_alarmBegins _ _).reevalPermit n) h

theorem AttnFollows.expireLink (n : Station) : AttnFollows (s.expireLink n) :=
  .ite ((((h.setCtx.staleEnds n _).reevalPermit n).loseWaits n).setVWind n 0) h

/-! ### Staging and the plan store (R3 .. R7, R14 .. R17) -/

theorem AttnFollows.stageStation (number : Nat) (fields : WireStation) :
    AttnFollows (s.stageStation number fields).1 := by
  fun_cases State.stageStation s number fields <;> exact h

theorem AttnFollows.stageZone (number : Nat) (fields : WireZone) :
    AttnFollows (s.stageZone number fields).1 := by
  fun_cases State.stageZone s number fields <;> exact h

theorem AttnFollows.stageSite (clearanceTimeout siteDerate realign : Nat) :
    AttnFollows (s.stageSite clearanceTimeout siteDerate realign).1 := by
  fun_cases State.stageSite s clearanceTimeout siteDerate realign <;> exact h

theorem AttnFollows.restage : AttnFollows s.restage.1 := by
  unfold State.restage
  split <;> exact h

theorem AttnFollows.cancelCommit : AttnFollows s.cancelCommit.1 := by
  unfold State.cancelCommit
  split <;> exact h

theorem AttnFollows.storePlan : AttnFollows s.storePlan.1 := by
  unfold State.storePlan
  split <;> exact h

theorem AttnFollows.endWrite (found : StoreContent) : AttnFollows (s.endWrite found) := by
  unfold State.endWrite
  split
  · split
    · exact attnFollows_alarmEnds _ _
    · extract_lets _ failed
      split
      · exact h
      · exact attnFollows_alarmBegins failed _
  · exact h

/-! ### A commit that takes effect (R12, R13)

The Plan Unit's part ends the COMMIT_FAILED condition, so ATTN follows from any state; the other units keep it. -/

omit h in
theorem attnFollows_replaceLive (s : State) : AttnFollows s.replaceLive :=
  attnFollows_alarmEnds _ .commitFailed

theorem AttnFollows.commitStation (n : Station) : AttnFollows (s.commitStation n) :=
  h.setCtx.foldl (fun i _ => attnFollows_setEntry _ i _) _

theorem AttnFollows.recreateZone (z : Zone) : AttnFollows (s.recreateZone z) := h

theorem AttnFollows.commitArbiter (changed : List Zone) (disabled : List Station) :
    AttnFollows (s.commitArbiter changed disabled) :=
  ((h.foldl (fun z h => h.recreateZone z) _).foldl (fun _ h => h.setArb) _).foldl
    (fun n h => h.reevalConflict n) _

theorem AttnFollows.commitBookings : AttnFollows s.commitBookings :=
  h.overBookings (fun b ht => .ite (ht.endBooking b _) ht) _

theorem AttnFollows.commitWind (disabled enabled : List Station) (k : Nat) :
    AttnFollows (s.commitWind disabled enabled k) := by
  unfold State.commitWind
  extract_lets blanked
  have blankedFollows : AttnFollows blanked := h.foldl (fun _ h => h.setWind) _
  exact .ite (blankedFollows.foldl (fun n h => h.changeStage n _ _) _) blankedFollows

theorem AttnFollows.commitBoth (disabled enabled : List Station) (k : Nat) :
    AttnFollows (s.commitBoth disabled enabled k) :=
  .ite (h.commitBookings.commitWind disabled enabled k)
    (h.commitWind disabled enabled k).commitBookings

theorem AttnFollows.commitSpeed (disabled : List Station) (n : Station) :
    AttnFollows (State.commitSpeed disabled s n) :=
  .ite (h.setVWind n 0).setLim (.ite (h.setVWind n _) h)

theorem AttnFollows.commitLimits (disabled : List Station) :
    AttnFollows (s.commitLimits disabled) :=
  (h.foldl (fun n h => h.commitSpeed disabled n) _).foldl (fun n h => h.recompute n) _

theorem AttnFollows.commitVane (n : Station) : AttnFollows (s.commitVane n) := by
  unfold State.commitVane
  extract_lets judged c
  have judgedFollows : AttnFollows judged := (h.judgeSequence n).judgeClear n
  exact .ite judgedFollows.setVane judgedFollows

theorem AttnFollows.commitShutdown (disabled : List Station) (k : Nat) :
    AttnFollows (s.commitShutdown disabled k) :=
  (h.foldl (fun _ h => h.setVane) _).foldl (fun n h => h.commitVane n) _

omit h in
theorem attnFollows_commitEffect (s : State) (k : Nat) : AttnFollows (s.commitEffect k) := by
  unfold State.commitEffect
  extract_lets changed disabled enabled stationsTold arbiterTold bothTold shutdownTold
  have stationsFollow : AttnFollows stationsTold :=
    (attnFollows_replaceLive _).foldl (fun n h => h.commitStation n) _
  have bothFollow : AttnFollows bothTold :=
    (stationsFollow.commitArbiter changed disabled).commitBoth disabled enabled k
  have shutdownFollows : AttnFollows shutdownTold :=
    (bothFollow.commitLimits disabled).commitShutdown disabled k
  exact shutdownFollows.foldl (fun n h => h.reevalPermit n) _

omit h in
theorem attnFollows_commitNow (s : State) : AttnFollows s.commitNow := attnFollows_commitEffect _ _

/-! ### COMMIT and its moments (R8, R11) -/

theorem AttnFollows.commitChecked (mode : CommitMode) : AttnFollows (s.commitChecked mode).1 := by
  fun_cases State.commitChecked s mode
  case case3 =>
    dsimp only
    exact attnFollows_commitNow s
  all_goals exact h

theorem AttnFollows.commit (mode target : Nat) : AttnFollows (s.commit mode target).1 := by
  fun_cases State.commit s mode target
  case case5 => exact h.commitChecked _
  case case6 => exact h.commitChecked _
  case case7 => exact h.commitChecked _
  all_goals exact h

theorem AttnFollows.commitMoment : AttnFollows s.commitMoment := by
  unfold State.commitMoment
  split
  · exact attnFollows_commitNow s
  · extract_lets _ abandoned
    split
    · exact h
    · exact attnFollows_alarmBegins abandoned _

theorem AttnFollows.atTimeMoment : AttnFollows s.atTimeMoment := by
  unfold State.atTimeMoment
  split
  · exact h.commitMoment
  · exact h

theorem AttnFollows.atMarkMoment : AttnFollows s.atMarkMoment := by
  unfold State.atMarkMoment
  split
  · exact h.commitMoment
  · exact h
  · exact h

/-! ### Ticks and time marks (R147 .. R152) -/

theorem AttnFollows.takeExpiries : AttnFollows s.takeExpiries := by
  have links := (h.foldl (fun n h => h.expireReport n) Station.all).foldl
    (fun n h => h.expireLink n) Station.all
  have zones := (links.foldl (fun z h => h.expireEntry z) Zone.all).foldl
    (fun z h => h.expireDwell z) Zone.all
  have stations := (zones.foldl (fun n h => h.expireClearance n) Station.all).foldl
    (fun n h => h.takeFall n) Station.all
  exact stations.settleBookings.atTimeMoment

theorem AttnFollows.takeDue : AttnFollows s.takeDue :=
  h.takeExpiries.takeReading.closeWindow.takeCycleEnds

/-- Beside the limits a tick counts the report timers, in the station contexts. -/
theorem AttnFollows.tickEvent : AttnFollows s.tickEvent :=
  AttnFollows.foldl (s := { s with ctx := s.ctx.map StationCtx.tick }) h
    (fun n h => h.limitTick n) _

theorem AttnFollows.secondBoundary : AttnFollows s.secondBoundary := by
  unfold State.secondBoundary
  extract_lets _ timed counted zones drops
  have countedFollows : AttnFollows counted := h
  have zonesFollow : AttnFollows zones := countedFollows.foldl (fun z h => h.modZone z _) _
  have dropsFollow : AttnFollows drops := zonesFollow.foldl (fun n h => h.countDrop n) _
  exact dropsFollow.setPlan.setBookings

theorem AttnFollows.tickCycle : AttnFollows s.tickCycle := by
  unfold State.tickCycle
  split
  · split
    · exact h
    · exact h.startCycle
  · exact h

theorem AttnFollows.takeTick (phase : Nat) (boundary : Bool) :
    AttnFollows (s.takeTick phase boundary) := by
  unfold State.takeTick
  extract_lets _ _ phased counted
  have phasedFollows : AttnFollows phased := h
  have countedFollows : AttnFollows counted := .ite phasedFollows.secondBoundary phasedFollows
  exact countedFollows.tickEvent.tickCycle

theorem AttnFollows.tick : AttnFollows s.tick := by
  unfold State.tick
  extract_lets due phase
  exact h.takeDue.takeTick phase _

theorem AttnFollows.rephaseNow (boundary : Bool) : AttnFollows (s.rephaseNow boundary) :=
  AttnFollows.takeTick (s := s.endCycle) h 0 boundary

theorem AttnFollows.moveTime (t : Nat) : AttnFollows (s.moveTime t) := by
  unfold State.moveTime
  extract_lets
  exact AttnFollows.rephaseNow (by exact h) false

theorem AttnFollows.setTime (t : Nat) : AttnFollows (s.setTime t).1 := by
  unfold State.setTime
  split
  · exact h
  · split
    · dsimp only
      exact h.moveTime t
    · exact h

theorem AttnFollows.markInStep (sinceTick : Nat) : AttnFollows (s.markInStep sinceTick) := by
  unfold State.markInStep
  extract_lets _ inStep
  have inStepFollows : AttnFollows inStep := .ite (attnFollows_alarmEnds _ _) h
  split
  · split
    · exact inStepFollows
    · exact inStepFollows.tick
  · exact inStepFollows

theorem AttnFollows.markSlipped (phase : Nat) : AttnFollows (s.markSlipped phase) := by
  unfold State.markSlipped
  extract_lets c recorded slipped
  have slippedFollows : AttnFollows slipped :=
    .ite (s := recorded) h (attnFollows_alarmBegins recorded _)
  exact .ite (slippedFollows.takeDue.rephaseNow _) slippedFollows

theorem AttnFollows.judgeMark (phase sinceTick : Nat) :
    AttnFollows (s.judgeMark phase sinceTick) :=
  .ite (h.markInStep sinceTick) (h.markSlipped phase)

theorem AttnFollows.takeMark (phase sinceTick : Nat) (clockFirst : Bool) :
    AttnFollows (s.takeMark phase sinceTick clockFirst) := by
  have judged := h.judgeMark phase sinceTick
  have expired : AttnFollows (if s.markBoundary phase then
      (s.judgeMark phase sinceTick).takeExpiries else s.judgeMark phase sinceTick) :=
    .ite judged.takeExpiries judged
  exact .ite (.ite expired.atMarkMoment (h.atMarkMoment.judgeMark phase sinceTick)) judged

theorem AttnFollows.setSiteDerate (value : Nat) : AttnFollows (s.setSiteDerate value).1 := by
  unfold State.setSiteDerate
  split <;> exact h

theorem AttnFollows.setRealign (value : Nat) : AttnFollows (s.setRealign value).1 := by
  unfold State.setRealign
  split <;> exact h

/-! ### Acknowledgements (R187) -/

theorem AttnFollows.toldAcked (i : AlarmId) : AttnFollows (s.toldAcked i) := by
  unfold State.toldAcked
  split
  · exact h.unsafeCleared _
  · exact h

theorem AttnFollows.ackEntry (i : AlarmId) : AttnFollows (s.ackEntry i).1 := by
  unfold State.ackEntry
  extract_lets e acked
  split
  · exact h
  · exact (attnFollows_setEntry s i acked).toldAcked i

theorem AttnFollows.ackAlarm (priority scope : Nat) :
    AttnFollows (s.ackAlarm priority scope).1 := by
  unfold State.ackAlarm
  split
  · exact h.ackEntry _
  · exact h

/-! ### Resets (R19, R184)

A reset sets ATTN for the table it leaves, whatever stood before (R191). -/

theorem AttnFollows.takeLevel : AttnFollows s.takeLevel :=
  .ite (attnFollows_takeSiteStop _ _) h

omit h in
/-- No entry of a cleared table calls for attention. -/
theorem attnFollows_cold (s : State) : AttnFollows s.cold.handOnSettings := by
  have quiet : attnOf .cleared = false := by decide
  exact quiet.symm

omit h in
theorem attnFollows_powerOn (s : State) : AttnFollows s.powerOn := by
  unfold State.powerOn
  extract_lets cold
  have loaded : AttnFollows (if cold.plan.invalid then cold.alarmBegins .planInvalid else cold) :=
    .ite (attnFollows_alarmBegins cold _) (attnFollows_cold s)
  exact loaded.takeLevel

omit h in
theorem attnFollows_warm (s : State) : AttnFollows s.warm := rfl

omit h in
theorem attnFollows_restart (s : State) : AttnFollows s.restart.1 := (attnFollows_warm _).takeLevel

end Units

/-! ### Queries

A query answers the state it is asked of (R35, R181 .. R183). -/

theorem State.listZones_fst (s : State) (n : Station) (first : Nat) :
    (s.listZones n first).1 = s := by
  unfold State.listZones
  split <;> rfl

theorem State.queryStation_fst (s : State) (station : Nat) : (s.queryStation station).1 = s := by
  unfold State.queryStation
  split <;> rfl

theorem State.queryZone_fst (s : State) (zone : Nat) : (s.queryZone zone).1 = s := by
  unfold State.queryZone
  split
  · rfl
  · split <;> rfl

theorem State.queryBookings_fst (s : State) (first filter : Nat) :
    (s.queryBookings first filter).1 = s := by
  unfold State.queryBookings
  split <;> rfl

theorem State.querySensor_fst (s : State) (addr : Nat) : (s.querySensor addr).1 = s := by
  unfold State.querySensor
  split <;> rfl

theorem State.readRecord_fst (s : State) (image cls number : Nat) :
    (s.readRecord image cls number).1 = s := by
  unfold State.readRecord
  split <;> rfl

/-! ### Every command -/

section Commands

variable {s : State} (h : AttnFollows s)
include h

theorem AttnFollows.of_eq {t : State} (e : t = s) : AttnFollows t := by rwa [e]

/-- A crane's request for the Booking Engine, after the outstanding steps of the boundary. -/
theorem AttnFollows.bookingRequest {n : Station} {kind : Byte} {work : State → State × Code × Data}
    (keeps : ∀ {t : State}, AttnFollows t → AttnFollows (work t).1) :
    AttnFollows (s.bookingRequest n kind work) :=
  AttnFollows.onlineRequest (.ite h.settleBookings h) keeps

theorem AttnFollows.bookingCommand {tag cmd : Nat} {work : State → State × Code × Data}
    (keeps : ∀ {t : State}, AttnFollows t → AttnFollows (work t).1) :
    AttnFollows (s.bookingCommand tag cmd work) :=
  h.settleBookings.command keeps

theorem AttnFollows.execTimeMark (sinceTick : Nat) :
    ∃ t, execTimeMark sinceTick s = .next t ∧ AttnFollows t := by
  refine ⟨_, rfl, ?_⟩
  exact .ite (h.choose.takeMark _ _ _) (h.takeMark _ _ _)

theorem AttnFollows.execSetTime (tag time : Nat) :
    ∃ t, execSetTime tag time s = .next t ∧ AttnFollows t := by
  refine ⟨_, rfl, ?_⟩
  split
  · exact h.takeDue.command fun ht => ht.setTime time
  · exact h.command fun ht => ht.setTime time

theorem AttnFollows.execWindCycleReadingEnd (slots : PerAddr Slot) :
    ∃ t, execWindCycleReadingEnd slots s = .next t ∧ AttnFollows t := by
  refine ⟨_, rfl, ?_⟩
  exact .ite (h.choose.endReading slots _) h

theorem AttnFollows.execCheckingTimeout (a : Addr) :
    ∃ t, execCheckingTimeout a s = .next t ∧ AttnFollows t := by
  refine ⟨_, rfl, ?_⟩
  exact .ite ((h.expireCheckingBelow a).expireChecking a) h

/-- Every command but the frame that fails its check, which holds other commands, goes on to a state whose ATTN
follows. -/
theorem AttnFollows.exec_of_ne {i : Instr} (ne : ∀ link frame, i ≠ .badCheckFrame link frame) :
    ∃ t, exec i s = .next t ∧ AttnFollows t := by
  cases i with
  | badCheckFrame link frame => exact absurd rfl (ne link frame)
  | powerOn => exact ⟨_, rfl, attnFollows_powerOn s⟩
  | restart tag => exact ⟨_, rfl, h.command fun _ => attnFollows_restart _⟩
  | tick => exact ⟨_, rfl, h.tick⟩
  | windowClose => exact ⟨_, rfl, h.closeWindow⟩
  | windCycleReadingEnd slots => exact h.execWindCycleReadingEnd slots
  | echoWaitExpiry => exact ⟨_, rfl, h.expireEcho⟩
  | runWatchEnd => exact ⟨_, rfl, h.stopWatch⟩
  | checkingTimeout a => exact h.execCheckingTimeout a
  | sensorSilent a => exact ⟨_, rfl, h.expireSilent a⟩
  | dropDwellExpiry n => exact ⟨_, rfl, h.takeFall n⟩
  | sstopAsserted => exact ⟨_, rfl, attnFollows_takeSiteStop _ _⟩
  | sstopWithdrawn => exact ⟨_, rfl, attnFollows_leaveSiteStop _ _⟩
  | clearanceTimerExpiry n => exact ⟨_, rfl, h.expireClearance n⟩
  | hello n identity => exact ⟨_, rfl, h.craneRequest fun ht => ht.hello n identity⟩
  | position n angle radius profile loaded released =>
    exact ⟨_, rfl, (h.beforeReport n loaded).craneRequest fun ht =>
      ht.position n angle radius profile loaded released⟩
  | hold n zone => exact ⟨_, rfl, h.onlineRequest fun ht => ht.holdZone n zone⟩
  | release n zone => exact ⟨_, rfl, h.onlineRequest fun ht => ht.releaseZone n zone⟩
  | withdraw n zone => exact ⟨_, rfl, h.onlineRequest fun ht => ht.withdrawZone n zone⟩
  | book n fields => exact ⟨_, rfl, h.bookingRequest fun ht => ht.bookLift n false false fields⟩
  | cancel n number => exact ⟨_, rfl, h.bookingRequest fun ht => ht.cancelLift (some n) number⟩
  | extend n number amount =>
    exact ⟨_, rfl, h.bookingRequest fun ht => ht.extendLift (some n) number amount⟩
  | myZones n first =>
    exact ⟨_, rfl, h.onlineRequest fun ht => ht.of_eq (State.listZones_fst _ n first)⟩
  | myBookings n first => exact ⟨_, rfl, h.onlineRequest fun ht => ht⟩
  | badKind link kind payload => exact ⟨_, rfl, h.handle fun ht => ht⟩
  | badLength link kind payload => exact ⟨_, rfl, h.handle fun ht => ht⟩
  | waitingFrameSent link => exact ⟨_, rfl, by exact h⟩
  | reportTimerExpiry n => exact ⟨_, rfl, h.expireReport n⟩
  | linkDwellExpiry n => exact ⟨_, rfl, h.expireLink n⟩
  | entryTimerExpiry z => exact ⟨_, rfl, h.expireEntry z⟩
  | releaseDwellExpiry z => exact ⟨_, rfl, h.expireDwell z⟩
  | bookingLead number =>
    exact ⟨_, rfl, h.bookingTurn h.allEnds (fun b ht => ht.stepLead b) number _⟩
  | bookingStart number =>
    exact ⟨_, rfl, h.bookingTurn h.allLeads (fun b ht => ht.stepStart b) number _⟩
  | bookingRemainingExpiry number =>
    exact ⟨_, rfl, h.bookingTurn (before := id) h (fun b ht => ht.stepRemaining b) number _⟩
  | acceptWindowExpiry number =>
    exact ⟨_, rfl, h.bookingTurn h.allRemaining (fun b ht => ht.stepExpiry b) number _⟩
  | deferredWindowExpiry number =>
    exact ⟨_, rfl, h.bookingTurn h.allRemaining (fun b ht => ht.stepExpiry b) number _⟩
  | timeMark sinceTick => exact h.execTimeMark sinceTick
  | atTimeCommitMoment => exact ⟨_, rfl, h.atTimeMoment⟩
  | storeWriteEnd found => exact ⟨_, rfl, h.endWrite found⟩
  | stageStation tag number fields =>
    exact ⟨_, rfl, h.command fun ht => ht.stageStation number fields⟩
  | stageZone tag number fields => exact ⟨_, rfl, h.command fun ht => ht.stageZone number fields⟩
  | stageSite tag clearanceTimeout siteDerate realign =>
    exact ⟨_, rfl, h.command fun ht => ht.stageSite clearanceTimeout siteDerate realign⟩
  | restage tag => exact ⟨_, rfl, h.command fun ht => ht.restage⟩
  | commit tag mode target => exact ⟨_, rfl, h.command fun ht => ht.commit mode target⟩
  | cancelCommit tag => exact ⟨_, rfl, h.command fun ht => ht.cancelCommit⟩
  | store tag => exact ⟨_, rfl, h.command fun ht => ht.storePlan⟩
  | forceRelease tag zone => exact ⟨_, rfl, h.command fun ht => ht.forceRelease zone⟩
  | recover tag station => exact ⟨_, rfl, h.command fun ht => ht.recoverStation station⟩
  | enrolNext tag addr => exact ⟨_, rfl, h.handle fun ht => ht.enrolNext tag addr⟩
  | runLine tag => exact ⟨_, rfl, h.command fun ht => ht.runLine⟩
  | stopLine tag => exact ⟨_, rfl, h.command fun ht => ht.stopLine⟩
  | startLine tag => exact ⟨_, rfl, h.command fun ht => ht.startLine⟩
  | sensorRestart tag addr => exact ⟨_, rfl, h.command fun ht => ht.sensorRestart addr⟩
  | setTime tag time => exact h.execSetTime tag time
  | setSiteDerate tag value => exact ⟨_, rfl, h.command fun ht => ht.setSiteDerate value⟩
  | setRealign tag value => exact ⟨_, rfl, h.command fun ht => ht.setRealign value⟩
  | supervisorBook tag station locked fields =>
    exact ⟨_, rfl, h.bookingCommand fun ht => ht.supervisorBookLift station locked fields⟩
  | supervisorCancel tag number =>
    exact ⟨_, rfl, h.bookingCommand fun ht => ht.cancelLift none number⟩
  | supervisorExtend tag number amount =>
    exact ⟨_, rfl, h.bookingCommand fun ht => ht.extendLift none number amount⟩
  | lock tag number => exact ⟨_, rfl, h.bookingCommand fun ht => ht.lockLift number true⟩
  | unlock tag number => exact ⟨_, rfl, h.bookingCommand fun ht => ht.lockLift number false⟩
  | queryStation tag station =>
    exact ⟨_, rfl, h.command fun ht => ht.of_eq (State.queryStation_fst _ station)⟩
  | queryZone tag zone => exact ⟨_, rfl, h.command fun ht => ht.of_eq (State.queryZone_fst _ zone)⟩
  | queryBookings tag first filter =>
    exact ⟨_, rfl, h.command fun ht => ht.of_eq (State.queryBookings_fst _ first filter)⟩
  | querySensor tag addr =>
    exact ⟨_, rfl, h.command fun ht => ht.of_eq (State.querySensor_fst _ addr)⟩
  | queryTime tag => exact ⟨_, rfl, h.command fun ht => ht⟩
  | queryPlan tag => exact ⟨_, rfl, h.command fun ht => ht⟩
  | readRecord tag image cls number =>
    exact ⟨_, rfl, h.command fun ht => ht.of_eq (State.readRecord_fst _ image cls number)⟩
  | queryAlarms tag => exact ⟨_, rfl, h.command fun ht => ht⟩
  | ackAlarm tag priority scope => exact ⟨_, rfl, h.command fun ht => ht.ackAlarm priority scope⟩
  | zeroLengthCollectionEnd link => exact ⟨_, rfl, by exact h⟩

theorem AttnFollows.takeFrame (i : Instr) : AttnFollows (s.takeFrame i) := by
  rcases s.takeFrame_cases i with same | ⟨ne, handled⟩
  · exact h.of_eq same
  · obtain ⟨t, next, ht⟩ := h.exec_of_ne ne
    rw [handled, next]
    exact ht

theorem AttnFollows.rehunt (l : Link) (bytes : List Byte) : AttnFollows (s.rehunt l bytes) :=
  AttnFollows.foldl (s := s.setRx l .hunting) h (fun i h => h.takeFrame i) _

theorem AttnFollows.exec (i : Instr) : ∃ t, exec i s = .next t ∧ AttnFollows t := by
  by_cases failed : ∃ link frame, i = .badCheckFrame link frame
  · obtain ⟨link, frame, rfl⟩ := failed
    exact ⟨_, rfl, h.rehunt link frame.tail⟩
  · exact h.exec_of_ne fun link frame e => failed ⟨link, frame, e⟩

theorem AttnFollows.step : ∃ t, step s = .next t ∧ AttnFollows t := by
  unfold Machine.step
  split
  · exact ⟨s, rfl, h⟩
  case h_2 c rest _ => exact AttnFollows.exec (s := { s with pending := rest }) h c

end Commands

/-- Settles O6: every step keeps `AttnFollows`, since each write of an alarm entry sets ATTN afresh and a reset
sets it for the table it leaves; and `attnOf` is R190's condition over the entries. -/
theorem attnFollowsTheAlarmTable : Obligations.AttnFollowsTheAlarmTable := by
  unfold Obligations.AttnFollowsTheAlarmTable
  intro s t follows taken
  obtain ⟨u, next, attn⟩ := (attnFollows_iff.mp follows).step
  rw [taken] at next
  cases next
  rw [attn]
  exact attnOf_iff t.alarms

end Sys2Proof.Machine
end

section
-- The text is long and is compiled as one: the proofs from here on are elaborated one after another, so that few of
-- them are in memory at a time.
set_option Elab.async false

section
/-! The step, the state after reset, the words of the wind line and the plan store. -/

namespace Sys2Proof.Machine

open Sys2Proof.Safety

/-- Settles O1: `step` is `exec` on the front command, by its two equations. -/
theorem stepTakesTheFrontCommand : Obligations.StepTakesTheFrontCommand := by
  unfold Obligations.StepTakesTheFrontCommand
  intro s
  refine ⟨fun c rest h => ?_, fun h => ?_⟩ <;> simp [step, h]

/-! ### The state after reset -/

/-- An alarm table is read as it was written (R185). -/
theorem AlarmTable.cleared_get (i : AlarmId) : AlarmTable.cleared.get i = Entry.cleared := by
  cases i <;> simp [AlarmTable.get, AlarmTable.cleared]

/-- Settles O3: every table of the reset state is constant but the alarm table, which has one entry written. -/
theorem resetTakesThePowerOnValues : Obligations.ResetTakesThePowerOnValues := by
  unfold Obligations.ResetTakesThePowerOnValues
  refine ⟨fun n => ⟨PerStation.get_const _ n, PerStation.get_const _ n, PerStation.get_const _ n,
      PerStation.get_const _ n, PerStation.get_const _ n⟩, fun z => PerZone.get_const _ z, rfl,
    fun a => PerAddr.get_const _ a, rfl, rfl, rfl, rfl, fun i ne => ?_, rfl, rfl, rfl⟩
  have other := AlarmTable.get_set_ne (t := AlarmTable.cleared) (e := ⟨.active, false⟩) ne
  exact other.trans (AlarmTable.cleared_get i)

theorem State.reset_zones (z : Zone) : State.reset.zones.get z = none := PerZone.get_const _ z

theorem State.reset_disabled (z : Zone) : (State.reset.zone z).enabled = false := by
  rw [State.zone, show State.reset.plan.live.zones.get z = _ from PerZone.get_const _ z]

theorem emptyPlan_memberless (z : Zone) : (emptyPlan.zones.get z).members = [] := by
  rw [emptyPlan, PerZone.get_const]

/-- Settles O4: no zone has a record after reset, every image is the empty plan, and the claims about a station
are evaluated. -/
theorem resetMeetsTheInvariants : Obligations.ResetMeetsTheInvariants := by
  unfold Obligations.ResetMeetsTheInvariants
  have images : membersKept emptyPlan = true := by simp [membersKept, emptyPlan_memberless]
  have stations (n : Station) : (permitFollows State.reset n && limitsFollow State.reset n &&
      vaneClearSound State.reset n) = true := by cases n <;> rfl
  have vane (n : Station) : vaneClearKept State.reset n = true := by cases n <;> rfl
  have speed (n : Station) : speedKept State.reset n = true := by cases n <;> rfl
  refine ⟨?_, ?_, speed, ?_, ?_, ?_⟩
  · simp only [sound, Bool.and_eq_true, List.all_eq_true]
    exact ⟨⟨by decide, fun n _ => by simpa using stations n⟩,
      fun z _ => by simp [sweptSound, State.reset_zones]⟩
  · simp only [airspaceClosed, Bool.and_eq_true, List.all_eq_true]
    exact ⟨⟨rfl, fun n _ => vane n⟩, fun z _ => by
      simp [zoneTableFollows, sweptKept, State.reset_zones, State.reset_disabled]⟩
  · simp [waitListKept, State.reset_zones]
  · rfl
  · refine ⟨?_, fun z => by simp [zoneFormKept, State.reset_zones, State.reset_disabled], rfl,
      nofun, .nil, fun z d k h => ?_⟩
    · simp only [imagesKept, Bool.and_eq_true]
      exact ⟨⟨⟨images, images⟩, rfl⟩, rfl⟩
    · rw [State.reset_zones] at h; cases h

/-! ### The words of the wind line (R91 .. R94) -/

@[simp] theorem length_bitsOf (w v : Nat) : (bitsOf w v).length = w := by
  induction w with
  | zero => rfl
  | succ w ih => simp [bitsOf, ih]

/-- Reading the `w` lowest bits of a number, most significant first, appends them to what has been read. -/
theorem foldl_bitsOf (w v a : Nat) :
    (bitsOf w v).foldl (fun n b => 2 * n + b.toNat) a = a * 2 ^ w + v % 2 ^ w := by
  induction w generalizing a with
  | zero => simp [bitsOf, Nat.mod_one]
  | succ w ih =>
    have split : v % 2 ^ (w + 1) = v % 2 ^ w + 2 ^ w * (v.testBit w).toNat := by
      rw [Nat.toNat_testBit, Nat.pow_succ, Nat.mod_mul]
    simp only [bitsOf, List.foldl_cons, ih, split]
    ring

theorem bitsValue_bitsOf {w v : Nat} (h : v < 2 ^ w) : bitsValue (bitsOf w v) = v := by
  simp [bitsValue, foldl_bitsOf, Nat.mod_eq_of_lt h]

/-- A slot of a value's ten bits and three more is read as the value when the three are its check (R92). -/
theorem readSlot_bitsOf {v : Nat} (h : v < 1024) {c : List Bool} (len : c.length = 3) :
    readSlot (bitsOf 10 v ++ c) = if c = check3 (bitsOf 10 v) then .value v else .badCheck := by
  have bits : (bitsOf 10 v ++ c).take 10 = bitsOf 10 v := by simp [List.take_left']
  have check : ((bitsOf 10 v ++ c).drop 10).take 3 = c := by
    simp [List.drop_left', ← len]
  have whole : ¬ (bitsOf 10 v ++ c).length < 13 := by simp [len]
  simp only [readSlot, if_neg whole, bits, check, bitsValue_bitsOf (w := 10) h,
    eq_comm (a := c)]

/-- Settles O15: the three checks and the command word are evaluated, a slot is read by `readSlot_bitsOf`. -/
theorem lineWordsCarryTheirCheck : Obligations.LineWordsCarryTheirCheck := by
  unfold Obligations.LineWordsCarryTheirCheck
  exact ⟨by decide, by decide, by decide, fun v hv c hc => readSlot_bitsOf hv hc⟩

/-! ### The plan store (R16, R17) -/

/-- Settles O28, by whether what is read back agrees. -/
theorem storeIsWrittenAndReadBack : Obligations.StoreIsWrittenAndReadBack := by
  unfold Obligations.StoreIsWrittenAndReadBack
  intro s tag
  refine ⟨fun idle => ?_, fun image revision writing =>
    ⟨?_, fun found => ⟨fun hi hr hc => ?_, fun differs => ?_⟩⟩⟩
  · refine congrArg Host.Outcome.next (State.command_answers s tag 0x07 State.storePlan ?_)
    simp only [State.storePlan, State.setRx_plan, idle]
    rfl
  · refine congrArg Host.Outcome.next (State.command_answers s tag 0x07 State.storePlan ?_)
    simp [State.storePlan, writing]
  · have agrees : readBackAgrees found image revision = true := by
      simp [readBackAgrees, storeChecked, hi, hr, hc]
    exact congrArg Host.Outcome.next (by simp [State.endWrite, writing, agrees])
  · have differs : readBackAgrees found image revision = false := by
      rw [← Bool.not_eq_true]
      intro agrees
      simp only [readBackAgrees, storeChecked, Bool.and_eq_true, beq_iff_eq] at agrees
      obtain ⟨⟨rfl, rfl⟩, check⟩ := agrees
      exact differs ⟨rfl, rfl, check⟩
    exact congrArg Host.Outcome.next (by simp [State.endWrite, writing, differs])

end Sys2Proof.Machine
end

section
/-! The elementary writes of the part. `Move` lists them once, each with what the operations know where they
write so, and `Work` is any number of them in turn. An invariant that every elementary write keeps is then kept
by every operation that is work, and the operations are shown to be work once. -/

namespace Sys2Proof.Machine

open Sys2Proof.Safety

/-! ### Frames raised -/

/-- What a piece of work may do to the links: it raises frames. On the link whose request is being handled they are
held back, on another they are sent (R34, R179). -/
structure Talks (s t : State) : Prop where
  handling : t.handling = s.handling
  rx : t.rx = s.rx
  held : ∃ more, t.held = s.held ++ more ∧ (s.handling = none → more = [])
  sent : ∀ l, ∃ more, t.tx.get l = more.foldl Tx.push (s.tx.get l) ∧ (s.handling = some l → more = [])

theorem Talks.refl (s : State) : Talks s s :=
  ⟨rfl, rfl, ⟨[], by simp⟩, fun _ => ⟨[], by simp⟩⟩

theorem Talks.trans {s t u : State} (h : Talks s t) (k : Talks t u) : Talks s u := by
  obtain ⟨more, held, none⟩ := h.held
  obtain ⟨more', held', none'⟩ := k.held
  refine ⟨k.handling.trans h.handling, k.rx.trans h.rx,
    ⟨more ++ more', by rw [held', held, List.append_assoc], fun e => ?_⟩, fun l => ?_⟩
  · rw [none e, none' (h.handling.trans e), List.append_nil]
  · obtain ⟨more, sent, own⟩ := h.sent l
    obtain ⟨more', sent', own'⟩ := k.sent l
    refine ⟨more ++ more', by rw [sent', sent, List.foldl_append], fun e => ?_⟩
    rw [own e, own' (h.handling.trans e), List.append_nil]

/-- A write that is no frame's talks of nothing. -/
theorem Talks.of_eq {s t : State} (handling : t.handling = s.handling := by rfl)
    (rx : t.rx = s.rx := by rfl) (held : t.held = s.held := by rfl) (tx : t.tx = s.tx := by rfl) :
    Talks s t :=
  ⟨handling, rx, ⟨[], by simp [held]⟩, fun _ => ⟨[], by simp [tx]⟩⟩

theorem Talks.raise (s : State) (l : Link) (f : Frame) : Talks s (s.raise l f) := by
  rcases s.raise_cases l f with ⟨own, e⟩ | ⟨other, e⟩ <;> rw [e]
  · exact ⟨rfl, rfl, ⟨[f], rfl, fun none => by rw [own] at none; cases none⟩, fun _ => ⟨[], by simp⟩⟩
  · refine ⟨rfl, rfl, ⟨[], by simp⟩, fun k => ?_⟩
    by_cases same : k = l
    · subst same
      exact ⟨[f], by simp, fun own => absurd own other⟩
    · exact ⟨[], by simp [same], fun _ => rfl⟩

theorem Talks.notify (s : State) (n : Station) (x : Notice) : Talks s (s.notify n x) := by
  unfold State.notify
  split
  · exact .refl s
  · exact .raise s _ _

theorem Talks.alarmBegins (s : State) (i : AlarmId) : Talks s (s.alarmBegins i) := by
  unfold State.alarmBegins
  extract_lets e t
  have entered : Talks s t := .of_eq
  split
  · exact entered.trans (.raise t _ _)
  · exact entered

theorem Talks.alarmIs (s : State) (i : AlarmId) (b : Bool) : Talks s (s.alarmIs i b) := by
  unfold State.alarmIs
  split
  · exact .alarmBegins s i
  · exact .of_eq

theorem Talks.foldl {β : Type} {f : State → β → State} (talks : ∀ s b, Talks s (f s b)) (s : State)
    (bs : List β) : Talks s (bs.foldl f s) :=
  foldl_related Talks.refl (fun h k => h.trans k) talks s bs

theorem Talks.setOverdue (s : State) (v : Station) (b : Bool) : Talks s (s.setOverdue v b) := by
  unfold State.setOverdue
  extract_lets c
  split
  · exact .refl s
  · exact (Talks.of_eq (t := s.setVane v _)).trans (.alarmIs _ _ b)

theorem Talks.judgeClear (s : State) (v : Station) : Talks s (s.judgeClear v) := by
  unfold State.judgeClear
  extract_lets c
  split
  · exact (Talks.of_eq (t := s.setVane v _)).trans (.setOverdue _ v false)
  · exact .refl s

theorem Talks.holderTold (s : State) (z : Zone) : Talks s (s.holderTold z) := by
  refine Talks.foldl (fun s m => (Talks.judgeClear s m).trans ?_) s _
  unfold State.judgeSwingLine
  extract_lets c
  split
  · exact .of_eq
  · exact .refl _

theorem Talks.recompute (s : State) (n : Station) : Talks s (s.recompute n) := by
  obtain ⟨l, e, -⟩ := s.recompute_cases n
  rw [e]
  exact .of_eq

theorem Talks.reevalPermit (s : State) (n : Station) : Talks s (s.reevalPermit n) := by
  rcases s.reevalPermit_cases n with ⟨-, e⟩ | ⟨-, e⟩ <;> rw [e]
  · exact .refl s
  · exact (Talks.of_eq (t := s.setCtx n _)).trans (.recompute _ n)

/-! ### What a write may do to a zone's record and to a vane context -/

/-- A wait list holds no station twice and not the zone's holder. -/
def ZoneDyn.listSound (d : ZoneDyn) : Prop :=
  d.waiting.Nodup ∧ ∀ h, d.hold = some h → h.station ∉ d.waiting

theorem waitListKept_iff {s : State} {z : Zone} :
    waitListKept s z = true ↔ ∀ d, s.zones.get z = some d → d.listSound := by
  unfold waitListKept
  cases record : s.zones.get z with
  | none => simp
  | some d => cases hold : d.hold <;> simp [ZoneDyn.listSound, hold]

/-- An edit of a zone's record that makes no station its holder. Its swept set stays, but that a station whose
swing ends may leave it. -/
structure ZoneDyn.Edited (x : Set Station) (d e : ZoneDyn) : Prop where
  holder : e.hold.map (·.station) = d.hold.map (·.station) ∨ e.hold = none
  list : d.listSound → e.listSound
  swept : e.swept = d.swept ∨ ∃ v ∈ x, e.swept = d.swept.set v false

/-- The station is in no zone's swept set. -/
def State.Unswept (s : State) (n : Station) : Prop :=
  ∀ z d, s.zones.get z = some d → d.swept.get n = false

/-- What the vane-clear line of a station says, by whether no other station holds a zone of it (R134, R136). -/
def VaneCtx.LineSound (c : VaneCtx) (free : Prop) : Prop :=
  (c.vc = true → c.vane = .clear ∨ c.vane = .vaning) ∧ (c.vane = .clear → free) ∧
    (c.vane = .vaning → c.vc = true → free)

theorem vaneClearKept_iff {s : State} {n : Station} :
    vaneClearKept s n = true ↔ (s.vane.get n).LineSound (s.zonesClearFor n = true) := by
  unfold vaneClearKept VaneCtx.LineSound
  extract_lets v
  generalize s.zonesClearFor n = free
  generalize v.vane = vane
  generalize v.vc = vc
  cases vane <;> cases vc <;> cases free <;> decide

/-- A write of a station's vane context: it begins no swing and, unless the station
is exempt, ends none; the unsafe-vane latch goes with its alarm entry alone (R141). -/
structure VaneCtx.Written (x : Set Station) (s : State) (n : Station) (c : VaneCtx) : Prop where
  begins : c.vane = .vaning → (s.vane.get n).vane = .vaning
  ends : n ∈ x ∨ ((s.vane.get n).vane = .vaning → c.vane = .vaning)
  latch : c.unsafeLatched = (s.vane.get n).unsafeLatched ∨ c.unsafeLatched = false ∧
    (n ∈ x ∨ (s.alarms.get (.unsafeVane n)).state = .clear)
  line : (s.vane.get n).LineSound (s.zonesClearFor n = true) → c.LineSound (s.zonesClearFor n = true)

/-- A write of the fields that are no claim of a station: the timer, clearance overdue and the last brake state. -/
theorem VaneCtx.Written.of_eq {x : Set Station} {s : State} {n : Station} {c : VaneCtx}
    (vane : c.vane = (s.vane.get n).vane := by rfl)
    (latched : c.unsafeLatched = (s.vane.get n).unsafeLatched := by rfl)
    (vc : c.vc = (s.vane.get n).vc ∨ c.vc = false := by exact .inl rfl) : c.Written x s n := by
  refine ⟨fun e => vane ▸ e, .inr fun e => vane ▸ e, .inl latched, fun ⟨named, clear, vaning⟩ => ?_⟩
  rcases vc with vc | vc <;> simp_all [VaneCtx.LineSound]

/-- What may come between a change of holders and the telling of it: frames, and zones passed to a window. -/
structure Between (s t : State) : Prop where
  frame : t = { s with bookings := t.bookings, held := t.held, tx := t.tx }
  numbers : t.bookings.map (·.number) = s.bookings.map (·.number)
  talks : Talks s t

/-! ### The elementary writes -/

/-- One elementary write, by what it writes. A parameter holds the stations whose swing may end. -/
inductive Move (x : Set Station) : State → State → Prop where
  /-- A write of fields that are no part of the invariants below. -/
  | quiet {s t : State} (frame : t = { s with
      arb := t.arb, siteDerate := t.siteDerate, line := t.line, sensors := t.sensors,
      cycle := t.cycle, wind := t.wind, siteStop := t.siteStop, sstopPin := t.sstopPin,
      clock := t.clock, tickInterval := t.tickInterval, enrolTag := t.enrolTag,
      choices := t.choices }) : Move x s t
  /-- A frame is raised. -/
  | raise (s : State) (l : Link) (f : Frame) : Move x s (s.raise l f)
  /-- The station contexts but for the motion permits. -/
  | ctx (s : State) (c : PerStation StationCtx) (mp : ∀ n, (c.get n).mp = (s.ctx.get n).mp) :
    Move x s { s with ctx := c }
  /-- A motion permit follows its condition (R40). -/
  | permit (s : State) (n : Station) : Move x s (s.reevalPermit n)
  /-- Limits are computed (R73). -/
  | limits (s : State) (n : Station) : Move x s (s.recompute n)
  /-- v_wind is set to 0, or within the greater of its value and V_rated for an enabled station (R82). -/
  | speed (s : State) (n : Station) (v : Nat) (bound : v = 0 ∨ (s.station n).enabled = true ∧
      v ≤ max (s.lim.get n).vWind (s.station n).vRated) :
    Move x s (s.setLim n { s.lim.get n with vWind := v })
  /-- The limits of a station are reset. -/
  | still (s : State) (n : Station) : Move x s (s.setLim n .reset)
  /-- The vane contexts. -/
  | vanes (s : State) (v : PerStation VaneCtx) (written : ∀ n, (v.get n).Written x s n) :
    Move x s { s with vane := v }
  /-- An alarm entry; an UNSAFE_VANE entry stays ACTIVE while its station sweeps a zone. -/
  | entry (s : State) (i : AlarmId) (e : Entry) (stands : ∀ n, i = .unsafeVane n →
      n ∈ x ∨ ((s.alarms.get i).state = .active → e.state = .active)) :
    Move x s (s.setEntry i e)
  /-- A zone's record, with no new holder. -/
  | zone (s : State) (z : Zone) {d e : ZoneDyn} (record : s.zones.get z = some d)
      (edited : d.Edited x e) : Move x s (s.setZone z (some e))
  /-- A free zone that is not closed to a station becomes its own, and the change is told (R49, R65). -/
  | give (s : State) (z : Zone) {d : ZoneDyn} {h : Holding} {entry : Timer} {t : State}
      (record : s.zones.get z = some d) (free : d.hold = none)
      (opened : s.closedTo z h.station = false)
      (told : Between (s.setZone z (some (d.give h entry))) t) : Move x s (t.holderTold z)
  /-- The booking table, with no new number. -/
  | bookings (s : State) (bs : List Booking)
      (numbers : (bs.map (·.number)).Sublist (s.bookings.map (·.number))) :
    Move x s (s.setBookings bs)

/-- Any number of elementary writes. -/
def Work (x : Set Station) : State → State → Prop := Relation.ReflTransGen (Move x)

theorem Work.refl {x : Set Station} (s : State) : Work x s s := Relation.ReflTransGen.refl

theorem Work.move {x : Set Station} {s t u : State} (h : Work x s t) (k : Move x t u) :
    Work x s u := Relation.ReflTransGen.tail h k

theorem Work.trans {x : Set Station} {s t u : State} (h : Work x s t) (k : Work x t u) :
    Work x s u := Relation.ReflTransGen.trans h k

/-- What every elementary write keeps, work keeps. -/
theorem Work.keeps {x : Set Station} {P : State → Prop}
    (step : ∀ {s t : State}, Move x s t → P s → P t) {s t : State} (h : Work x s t) (hs : P s) :
    P t := by
  induction h with
  | refl => exact hs
  | tail _ move ih => exact step move ih

theorem Move.talks {x : Set Station} {s t : State} (h : Move x s t) : Talks s t := by
  cases h with
  | quiet frame => rw [frame]; exact .of_eq
  | raise l f => exact .raise s l f
  | permit n => exact .reevalPermit s n
  | limits n => exact .recompute s n
  | give z record free opened told =>
    exact (Talks.of_eq (t := s.setZone z _)).trans (told.talks.trans (.holderTold _ z))
  | ctx | speed | still | vanes | entry | zone | bookings => exact .of_eq

/-- Work raises frames and does nothing else to the links. -/
theorem Work.talks {x : Set Station} {s t : State} (h : Work x s t) : Talks s t :=
  h.keeps (P := Talks s) (fun move ih => ih.trans move.talks) (.refl s)

end Sys2Proof.Machine
end

section
/-! The shared operations are work: frames and alarms, limits and permits, the Zone Arbiter, the Booking Engine and
the Shutdown Unit's sequence. Each lemma carries work done so far over one more operation. -/

namespace Sys2Proof.Machine

open Sys2Proof.Safety

/-! ### Facts about the operations -/

theorem zones_of_holderWork {s t : State} (h : holderWork s t) : t.zones = s.zones := by
  obtain ⟨written, -⟩ := h
  rw [written]

theorem bookings_of_holderWork {s t : State} (h : holderWork s t) : t.bookings = s.bookings := by
  obtain ⟨written, -⟩ := h
  rw [written]

theorem State.modZone_of_record {s : State} {z : Zone} {d : ZoneDyn}
    (record : s.zones.get z = some d) (f : ZoneDyn → ZoneDyn) :
    s.modZone z f = s.setZone z (some (f d)) := by simp [State.modZone, record]

theorem State.modZone_of_none {s : State} {z : Zone} (record : s.zones.get z = none)
    (f : ZoneDyn → ZoneDyn) : s.modZone z f = s := by simp [State.modZone, record]

theorem State.putBooking_numbers (s : State) (b : Booking) :
    (s.putBooking b).bookings.map (·.number) = s.bookings.map (·.number) := by
  simp only [State.putBooking, State.setBookings, List.map_map]
  refine List.map_congr_left fun c _ => ?_
  simp only [Function.comp]
  split
  case isTrue same => exact same.symm
  case isFalse => rfl

theorem State.dropBooking_numbers (s : State) (num : Nat) :
    ((s.dropBooking num).bookings.map (·.number)).Sublist (s.bookings.map (·.number)) :=
  List.filter_sublist.map _

theorem Booking.pass_number (b : Booking) (z : Zone) : (b.pass z).number = b.number := by
  unfold Booking.pass
  extract_lets add
  split
  · split <;> rfl
  · rfl
  · rfl

theorem State.bookingPassed_numbers (s : State) (num : Nat) (z : Zone) :
    (s.bookingPassed num z).bookings.map (·.number) = s.bookings.map (·.number) := by
  unfold State.bookingPassed
  split
  · exact s.putBooking_numbers _
  · rfl

/-- A zone is open to a station: free, not closed to it, and reserved for no one else (R61). -/
theorem State.openTo_iff {s : State} {z : Zone} {n : Station} :
    s.openTo z n = true ↔ ∃ d, s.zones.get z = some d ∧ d.hold = none ∧ s.closedTo z n = false ∧
      (d.reservation = none ∨ s.reservedFor z n = true) := by
  unfold State.openTo
  cases record : s.zones.get z with
  | none => simp
  | some d => simp [and_assoc]

/-! ### Edits of a zone's record -/

/-- An edit that leaves the holder or frees the zone, and adds no one to the wait list. -/
theorem ZoneDyn.Edited.of_claims {x : Set Station} {d e : ZoneDyn}
    (holder : e.hold.map (·.station) = d.hold.map (·.station) ∨ e.hold = none)
    (waiting : e.waiting.Sublist d.waiting := by exact List.Sublist.refl _)
    (swept : e.swept = d.swept := by rfl) : d.Edited x e := by
  refine ⟨holder, fun ⟨nodup, apart⟩ => ⟨nodup.sublist waiting, fun h hold => ?_⟩, .inl swept⟩
  rcases holder with same | free
  · rw [hold, Option.map_some, eq_comm, Option.map_eq_some_iff] at same
    obtain ⟨k, dhold, station⟩ := same
    exact fun mem => apart k dhold (station ▸ waiting.subset mem)
  · rw [free] at hold; cases hold

/-- An edit of the wait list that keeps the list's form. -/
theorem ZoneDyn.Edited.of_list {x : Set Station} {d e : ZoneDyn} (holder : e.hold = d.hold)
    (list : d.listSound → e.listSound) (swept : e.swept = d.swept := by rfl) : d.Edited x e :=
  ⟨.inl (by rw [holder]), list, .inl swept⟩

/-- A head placement of a station that is not the holder. -/
theorem ZoneDyn.Edited.headPlace {x : Set Station} {d : ZoneDyn} {n : Station}
    (apart : ∀ h, d.hold = some h → h.station ≠ n) :
    d.Edited x { d with waiting := headPlace d.waiting n } := by
  refine .of_list rfl fun ⟨nodup, out⟩ => ⟨?_, fun h hold mem => ?_⟩
  · refine List.Nodup.sublist (List.take_sublist _ _) ?_
    exact List.nodup_cons.mpr ⟨nodup.not_mem_erase, nodup.erase _⟩
  · rcases List.mem_cons.mp (List.mem_of_mem_take mem) with e | mem
    · exact apart h hold e
    · exact out h hold (List.mem_of_mem_erase mem)

/-- A station that is not in the list and not the holder joins at the tail. -/
theorem ZoneDyn.Edited.append {x : Set Station} {d : ZoneDyn} {n : Station}
    (new : n ∉ d.waiting) (apart : ∀ h, d.hold = some h → h.station ≠ n) :
    d.Edited x { d with waiting := d.waiting ++ [n] } := by
  refine .of_list rfl fun ⟨nodup, out⟩ => ⟨?_, fun h hold mem => ?_⟩
  · exact List.nodup_append.mpr ⟨nodup, List.nodup_singleton n, fun a ha b hb e => by simp_all⟩
  · rcases List.mem_append.mp mem with mem | mem
    · exact out h hold mem
    · exact apart h hold (List.mem_singleton.mp mem)

/-! ### Vane contexts -/

/-- A write to a state other than VANING of a station that is not VANING. -/
theorem VaneCtx.Written.of_still {x : Set Station} {s : State} {n : Station} {c : VaneCtx}
    (new : c.vane ≠ .vaning) (old : (s.vane.get n).vane ≠ .vaning)
    (line : c.LineSound (s.zonesClearFor n = true))
    (latched : c.unsafeLatched = (s.vane.get n).unsafeLatched := by rfl) : c.Written x s n :=
  ⟨fun e => absurd e new, .inr fun e => absurd e old, .inl latched, fun _ => line⟩

/-- A BRAKED or CLEARING station with its line withdrawn. -/
theorem VaneCtx.lineSound_of_off {c : VaneCtx} {free : Prop} (off : c.vc = false)
    (notClear : c.vane ≠ .clear) : c.LineSound free :=
  ⟨fun on => (by rw [off] at on; cases on), fun e => absurd e notClear,
    fun _ on => (by rw [off] at on; cases on)⟩

theorem VaneCtx.lineSound_of_free {c : VaneCtx} {free : Prop} (h : free)
    (clear : c.vane = .clear) : c.LineSound free :=
  ⟨fun _ => .inl clear, fun _ => h, fun _ _ => h⟩

/-! ### What may come between a change of holders and the telling of it -/

theorem Between.refl (s : State) : Between s s := ⟨rfl, rfl, .refl s⟩

theorem Between.trans {s t u : State} (h : Between s t) (k : Between t u) : Between s u := by
  refine ⟨?_, k.numbers.trans h.numbers, h.talks.trans k.talks⟩
  calc u = { t with bookings := u.bookings, held := u.held, tx := u.tx } := k.frame
    _ = { s with bookings := u.bookings, held := u.held, tx := u.tx } := by rw [h.frame]

theorem Between.notify (s : State) (n : Station) (y : Notice) : Between s (s.notify n y) := by
  refine ⟨?_, congrArg _ (bookings_of_holderWork (holderWork_notify s n y)), .notify s n y⟩
  unfold State.notify
  split
  · rfl
  · rcases s.raise_cases (.crane n) (.notice y) with ⟨-, e⟩ | ⟨-, e⟩
    · rw [e]
    · rw [e]; rfl

theorem Between.bookingPassed (s : State) (num : Nat) (z : Zone) :
    Between s (s.bookingPassed num z) := by
  have numbers := s.bookingPassed_numbers num z
  unfold State.bookingPassed at *
  split at * <;> exact ⟨rfl, numbers, .of_eq⟩

section Operations

variable {x : Set Station} {s₀ s : State} (h : Work x s₀ s)
include h

/-- A choice of operations that are each work is work. -/
theorem Work.ite {c : Prop} [Decidable c] {t : State} (ht : Work x s₀ t) :
    Work x s₀ (if c then s else t) := by
  split
  · exact h
  · exact ht

/-- A fold of operations that are each work is work. -/
theorem Work.foldl {β : Type} {f : State → β → State}
    (keeps : ∀ {s : State} (b : β), Work x s₀ s → Work x s₀ (f s b)) (bs : List β) :
    Work x s₀ (bs.foldl f s) := by
  induction bs generalizing s with
  | nil => exact h
  | cons b bs ih => exact ih (keeps b h)

/-! ### Writes of one record -/

theorem Work.setCtx {n : Station} {c : StationCtx} (mp : c.mp = (s.ctx.get n).mp := by rfl) :
    Work x s₀ (s.setCtx n c) := by
  refine h.move (.ctx s _ fun m => ?_)
  by_cases e : m = n
  · subst e; simpa using mp
  · simp [e]

theorem Work.setArb {n : Station} {c : ArbiterCtx} : Work x s₀ (s.setArb n c) :=
  h.move (.quiet rfl)

theorem Work.setWind {n : Station} {c : WindCtx} : Work x s₀ (s.setWind n c) :=
  h.move (.quiet rfl)

theorem Work.setSensor {a : Addr} {r : SensorRec} : Work x s₀ (s.setSensor a r) :=
  h.move (.quiet rfl)

theorem Work.setLine {l : LineRec} : Work x s₀ (s.setLine l) := h.move (.quiet rfl)

/-- The next free choice is the model's own record. -/
theorem Work.choose : Work x s₀ s.choose.2 := h.move (.quiet rfl)

theorem Work.setVane {n : Station} {c : VaneCtx} (written : c.Written x s n) :
    Work x s₀ (s.setVane n c) := by
  refine h.move (.vanes s _ fun m => ?_)
  by_cases e : m = n
  · subst e; simpa using written
  · rw [PerStation.get_set_ne e]
    exact .of_eq

theorem Work.modZone (z : Zone) {f : ZoneDyn → ZoneDyn}
    (edited : ∀ d, s.zones.get z = some d → d.Edited x (f d)) : Work x s₀ (s.modZone z f) := by
  cases record : s.zones.get z with
  | none => rwa [State.modZone_of_none record]
  | some d =>
    rw [State.modZone_of_record record]
    exact h.move (.zone s z record (edited d record))

theorem Work.putBooking {b : Booking} : Work x s₀ (s.putBooking b) :=
  h.move (.bookings s _ (s.putBooking_numbers b ▸ List.Sublist.refl _))

theorem Work.dropBooking (num : Nat) : Work x s₀ (s.dropBooking num) :=
  h.move (.bookings s _ (s.dropBooking_numbers num))

/-! ### Frames and alarms -/

theorem Work.raise (l : Link) (f : Frame) : Work x s₀ (s.raise l f) := h.move (.raise s l f)

theorem Work.notify (n : Station) (y : Notice) : Work x s₀ (s.notify n y) := .ite h (h.raise _ _)

theorem Work.alarmBegins (i : AlarmId) : Work x s₀ (s.alarmBegins i) := by
  have entered : Work x s₀ (s.setEntry i (s.alarms.get i).begins) :=
    h.move (.entry s i _ fun n _ => .inr fun active => by simp [Entry.begins, active])
  simp only [State.alarmBegins]
  split
  · exact entered.raise _ _
  · exact entered

/-- A condition ends; that of an unsafe release with its swing alone. -/
theorem Work.alarmEnds {i : AlarmId}
    (ended : ∀ n, i = .unsafeVane n → n ∈ x := by nofun) :
    Work x s₀ (s.alarmEnds i) :=
  h.move (.entry s i _ fun n e => .inl (ended n e))

theorem Work.alarmIs {i : AlarmId} (b : Bool)
    (ended : ∀ n, i = .unsafeVane n → n ∈ x := by nofun) :
    Work x s₀ (s.alarmIs i b) :=
  .ite (h.alarmBegins i) (h.alarmEnds ended)

/-! ### Limits, the motion permit and the clear condition (R73, R83, R134) -/

theorem Work.recompute (n : Station) : Work x s₀ (s.recompute n) := h.move (.limits s n)

theorem Work.reevalPermit (n : Station) : Work x s₀ (s.reevalPermit n) := h.move (.permit s n)

theorem Work.setOverdue (v : Station) (b : Bool) : Work x s₀ (s.setOverdue v b) :=
  .ite h ((h.setVane .of_eq).alarmIs b)

theorem Work.judgeClear (v : Station) : Work x s₀ (s.judgeClear v) := by
  unfold State.judgeClear
  extract_lets c
  split
  case isTrue judged =>
    obtain ⟨clearing, condition⟩ := judged
    have old : (s.vane.get v).vane ≠ .vaning := fun e => nomatch e.symm.trans clearing
    have free : s.zonesClearFor v = true := (Bool.and_eq_true_iff.mp condition).2
    exact (h.setVane (.of_still (by simp) old (VaneCtx.lineSound_of_free free rfl))).setOverdue v false
  case isFalse => exact h

theorem Work.judgeSwingLine (v : Station) (z : Zone) : Work x s₀ (s.judgeSwingLine v z) :=
  .ite (h.setVane (c := { s.vane.get v with vc := false }) (.of_eq rfl rfl (.inr rfl))) h

theorem Work.holderTold (z : Zone) : Work x s₀ (s.holderTold z) :=
  h.foldl (fun v h => (h.judgeClear v).judgeSwingLine v z) _

theorem Work.setVWind (n : Station) {v : Nat} (bound : v = 0 ∨ (s.station n).enabled = true ∧
    v ≤ max (s.lim.get n).vWind (s.station n).vRated) : Work x s₀ (s.setVWind n v) := by
  have set := h.move (.speed s n v bound)
  exact .ite set ((set.reevalPermit n).judgeClear n)

/-! ### The latches of the Zone Arbiter (R59, R60, R68) -/

theorem Work.latchIntrusion (n : Station) : Work x s₀ (s.latchIntrusion n) :=
  .ite h ((h.setArb.alarmBegins _).reevalPermit n)

theorem Work.reevalConflict (n : Station) : Work x s₀ (s.reevalConflict n) :=
  .ite h ((h.setArb.alarmIs _).reevalPermit n)

theorem Work.recoveryTest (n : Station) : Work x s₀ (s.recoveryTest n) :=
  .ite (h.setArb.alarmEnds.reevalPermit n) h

theorem Work.holderChanged (z : Zone) : Work x s₀ (s.holderChanged z) :=
  (h.holderTold z).foldl (fun n h => h.reevalConflict n) _

/-! ### Zones -/

theorem Work.bookingPassed (num : Nat) (z : Zone) : Work x s₀ (s.bookingPassed num z) := by
  unfold State.bookingPassed
  split
  · exact h.putBooking
  · exact h

/-- A grant of a free zone that is open to the station, with what comes between the grant and its notice. -/
theorem Work.granted {z : Zone} {d : ZoneDyn} {k : Holding} {entry : Timer} {t : State}
    (record : s.zones.get z = some d) (free : d.hold = none)
    (opened : s.closedTo z k.station = false)
    (told : Between (s.modZone z fun d => d.give k entry) t) (kind : GrantKind) :
    Work x s₀ (t.granted z k.station kind) := by
  rw [State.modZone_of_record record] at told
  have given := h.move (.give s z record free opened (told.trans (.notify t k.station (.grant z kind))))
  exact (given.foldl (fun n h => h.reevalConflict n) _).recoveryTest k.station

theorem Work.grantOrdinary {z : Zone} {n : Station} {d : ZoneDyn}
    (record : s.zones.get z = some d) (free : d.hold = none) (opened : s.closedTo z n = false) :
    Work x s₀ (s.grantOrdinary z n) :=
  h.granted (k := ⟨n, .ordinary, false⟩) record free opened (.refl _) .ordinary

theorem Work.grantBooked {z : Zone} {n : Station} {d : ZoneDyn}
    (record : s.zones.get z = some d) (free : d.hold = none) (opened : s.closedTo z n = false) :
    Work x s₀ (s.grantBooked z n) :=
  h.granted (k := ⟨n, .booked, false⟩) record free opened (.refl _) .booked

/-- Serving a zone leaves the state, or grants the free zone to the reserving booking or to the head of the wait
list, where it is not closed. -/
theorem Work.serve (z : Zone) : Work x s₀ (s.serve z) := by
  unfold State.serve
  split
  · exact h
  case h_2 d record =>
    split
    case h_2 num free _ =>
      split
      case h_1 b _ =>
        split
        case isTrue claim => exact (h.grantBooked record free claim.2).bookingPassed num z
        case isFalse => exact h
      · exact h
    case h_3 n _ free _ _ =>
      split
      case isTrue => exact h
      case isFalse opened => exact h.grantOrdinary record free (Bool.eq_false_iff.mpr opened)
    all_goals exact h

theorem Work.serveMemberZones (n : Station) : Work x s₀ (s.serveMemberZones n) :=
  h.foldl (fun z h => h.serve z) _

theorem Work.serveAt (z : Zone) (n : Station) : Work x s₀ (s.serveAt z n) :=
  (h.serve z).serveMemberZones n

theorem Work.adoptZone {z : Zone} {n : Station} (opened : s.openTo z n = true) :
    Work x s₀ (s.adoptZone z n) := by
  obtain ⟨d, record, free, notClosed, -⟩ := State.openTo_iff.mp opened
  have ordinary := h.granted (k := ⟨n, .ordinary, true⟩) (entry := .stopped) record free notClosed
    (.refl _) .ordinary
  have booked (num : Nat) := h.granted (k := ⟨n, .booked, true⟩) (entry := .stopped) record free
    notClosed (.bookingPassed _ num z) .booked
  unfold State.adoptZone
  split
  · exact .ite (booked _) ordinary
  · exact ordinary

theorem Work.adoptOne (n : Station) (z : Zone) : Work x s₀ (State.adoptOne n s z) := by
  unfold State.adoptOne
  split
  · exact h
  · split
    case isTrue opened => exact h.adoptZone opened
    case isFalse => exact h.latchIntrusion n

theorem Work.adopt (n : Station) : Work x s₀ (s.adopt n) := h.foldl (fun z h => h.adoptOne n z) _

theorem Work.removeHolder (z : Zone) : Work x s₀ (s.removeHolder z) :=
  h.modZone z fun _ _ => .of_claims (.inr rfl)

theorem Work.unqueue (n : Station) (z : Zone) : Work x s₀ (s.unqueue n z) :=
  h.modZone z fun _ _ => .of_claims (.inl rfl) List.erase_sublist

theorem Work.loseWaits (n : Station) : Work x s₀ (s.loseWaits n) :=
  ((h.foldl (fun z h => h.unqueue n z) _).foldl (fun z h => h.serve z) _).serveMemberZones n

/-! ### Judging a report (R58) -/

theorem Work.judgeEntry (n : Station) : Work x s₀ (s.judgeEntry n) := by
  refine h.foldl (fun z h => .ite (h.modZone z fun d _ => ?_) h) _
  cases hold : d.hold with
  | none => simpa [hold] using .of_claims (.inl rfl)
  | some k =>
    dsimp only
    split
    · exact .of_claims (.inl (by simp [hold]))
    · exact .of_claims (.inl rfl)

theorem Work.judgeIntrusion (n : Station) : Work x s₀ (s.judgeIntrusion n) :=
  .ite h (h.latchIntrusion n)

theorem Work.judgeDwells (n : Station) : Work x s₀ (s.judgeDwells n) := by
  refine h.foldl (fun z h => h.modZone z fun d _ => ?_) _
  split
  · split <;> exact .of_claims (.inl rfl)
  · exact .of_claims (.inl rfl)

theorem Work.judgeConflicts (n : Station) : Work x s₀ (s.judgeConflicts n) :=
  h.foldl (fun n h => h.reevalConflict n) _

theorem Work.judgeReport (n : Station) (joined : Bool) : Work x s₀ (s.judgeReport n joined) := by
  unfold State.judgeReport
  extract_lets adopted entered judged dwelt
  have adoptedWork : Work x s₀ adopted := .ite (h.adopt n) h
  have enteredWork : Work x s₀ entered := adoptedWork.judgeEntry n
  have judgedWork : Work x s₀ judged := .ite enteredWork (enteredWork.judgeIntrusion n)
  exact ((judgedWork.judgeDwells n).judgeConflicts n).recoveryTest n

end Operations

end Sys2Proof.Machine
end

section
/-! The requests for zones, the Booking Engine, the shutdown sequence, the wind stages and the wind line are work. -/

namespace Sys2Proof.Machine

open Sys2Proof.Safety

/-! ### Facts about the operations -/

theorem Zone.ofNumber?_zone? {s : State} {zone : Nat} {z : Zone} {d : ZoneDyn}
    (h : s.zone? zone = some (z, d)) : Zone.ofNumber? zone = some z ∧ s.zones.get z = some d := by
  simp only [State.zone?, Option.bind_eq_some_iff, Option.map_eq_some_iff, Prod.mk.injEq] at h
  obtain ⟨y, number, e, record, rfl, rfl⟩ := h
  exact ⟨number, record⟩

theorem State.holds_iff {s : State} {n : Station} {z : Zone} :
    s.holds n z = true ↔ ∃ d h, s.zones.get z = some d ∧ d.hold = some h ∧ h.station = n := by
  simp only [State.holds, State.holder, State.holding, beq_iff_eq, Option.map_eq_some_iff,
    Option.bind_eq_some_iff]
  constructor
  · rintro ⟨h, ⟨d, record, hold⟩, station⟩
    exact ⟨d, h, record, hold, station⟩
  · rintro ⟨d, h, record, hold, station⟩
    exact ⟨h, ⟨d, record, hold⟩, station⟩

/-- The holder of a zone that a station does not hold is another one. -/
theorem State.station_ne_of_not_holds {s : State} {n : Station} {z : Zone} {d : ZoneDyn}
    (record : s.zones.get z = some d) (not : s.holds n z = false) (k : Holding)
    (hold : d.hold = some k) : k.station ≠ n := fun e => by
  rw [State.holds_iff.mpr ⟨d, k, record, hold, e⟩] at not
  cases not

/-- Making a station the holder of one zone leaves the records of the others. -/
theorem State.adoptZone_zones_ne (s : State) {z y : Zone} (n : Station) (ne : y ≠ z) :
    (s.adoptZone z n).zones.get y = s.zones.get y := by
  have granted (t : State) (kind : GrantKind) :
      (t.granted z n kind).zones = t.zones := zones_of_holderWork (holderWork_granted t z n kind)
  have passed (t : State) (num : Nat) : (t.bookingPassed num z).zones = t.zones := by
    unfold State.bookingPassed; split <;> rfl
  unfold State.adoptZone
  split
  · split <;> simp [granted, passed, State.modZone_get, ne]
  · simp [granted, State.modZone_get, ne]

theorem State.recoverZone_zones_ne (s : State) {z y : Zone} (n : Station) (ne : y ≠ z) :
    (State.recoverZone n s z).zones.get y = s.zones.get y := by
  unfold State.recoverZone
  split
  · exact s.adoptZone_zones_ne n ne
  · simp [State.placeAtHead, State.modZone_get, ne]

theorem State.holds_of_zones_get {s t : State} {z : Zone} (h : t.zones.get z = s.zones.get z)
    (n : Station) : t.holds n z = s.holds n z := by
  simp [State.holds, State.holder, State.holding, h]

theorem State.nodup_standsUnheld (s : State) (n : Station) : (s.standsUnheld n).Nodup :=
  (Zone.nodup_all.filter _).filter _

theorem State.not_holds_of_mem_standsUnheld {s : State} {n : Station} {z : Zone}
    (mem : z ∈ s.standsUnheld n) : s.holds n z = false := by
  have := (List.mem_filter.mp mem).2
  simp only [Bool.and_eq_true, Bool.not_eq_true'] at this
  exact this.2

section Operations

variable {x : Set Station} {s₀ s : State} (h : Work x s₀ s)
include h

/-! ### Requests for zones (R48, R50, R51, R66, R67) and the zone timers (R55, R57) -/

theorem Work.holdOpen {z : Zone} {d : ZoneDyn} {c : Station} (record : s.zones.get z = some d)
    (opened : s.closedTo z c = false) (new : c ∉ d.waiting) (apart : s.holds c z = false) :
    Work x s₀ (s.holdOpen z d c).1 := by
  unfold State.holdOpen
  split
  case isTrue free => exact h.grantOrdinary record (Option.isNone_iff_eq_none.mp free) opened
  case isFalse =>
    refine h.modZone z fun e same => ?_
    obtain rfl : d = e := Option.some.inj (record.symm.trans same)
    exact .append new (State.station_ne_of_not_holds record apart)

theorem Work.holdZone (c : Station) (zone : Nat) : Work x s₀ (s.holdZone c zone).1 := by
  unfold State.holdZone
  split
  case h_1 => exact h
  case h_2 z d named =>
    have record := (Zone.ofNumber?_zone? named).2
    split
    · exact h
    · split
      · exact h
      · split
        · exact h
        · split
          · exact h
          case isFalse apart =>
            split
            · exact h
            case h_2 notListed =>
              split
              · exact h
              case isFalse opened =>
                have granted : Work x s₀ (s.holdOpen z d c).1 :=
                  h.holdOpen record (Bool.eq_false_iff.mpr opened)
                    (fun mem => by simp [List.idxOf?_eq_none_iff, mem] at notListed)
                    (Bool.eq_false_iff.mpr apart)
                split
                · split
                  · exact h
                  · exact granted
                · exact granted

theorem Work.withdrawZone (c : Station) (zone : Nat) : Work x s₀ (s.withdrawZone c zone).1 := by
  unfold State.withdrawZone
  split
  · exact h
  · split
    · exact (h.unqueue _ _).serveAt _ c
    · exact h

theorem Work.releaseZone (c : Station) (zone : Nat) : Work x s₀ (s.releaseZone c zone).1 := by
  fun_cases State.releaseZone s c zone
  case case5 z _ _ _ _ _ => exact ((h.removeHolder z).serveAt z c).holderChanged z
  all_goals exact h

theorem Work.forceRelease (zone : Nat) : Work x s₀ (s.forceRelease zone).1 := by
  fun_cases State.forceRelease s zone
  case case4 => exact (((h.removeHolder _).notify _ _).holderChanged _).serveAt _ _
  all_goals exact h

theorem Work.recoverZone {n : Station} {z : Zone} (apart : s.holds n z = false) :
    Work x s₀ (State.recoverZone n s z) := by
  unfold State.recoverZone
  split
  case isTrue opened => exact h.adoptZone opened
  case isFalse =>
    exact h.modZone z fun _ record => .headPlace (State.station_ne_of_not_holds record apart)

/-- The zones are taken one by one; each leaves the records of the zones after it. -/
theorem Work.recoverZones {n : Station} {zs : List Zone} (nodup : zs.Nodup)
    (apart : ∀ z ∈ zs, s.holds n z = false) : Work x s₀ (zs.foldl (State.recoverZone n) s) := by
  induction zs generalizing s with
  | nil => exact h
  | cons z zs ih =>
    obtain ⟨notIn, nodup⟩ := List.nodup_cons.mp nodup
    refine ih (h.recoverZone (apart z (by simp))) nodup fun y mem => ?_
    rw [State.holds_of_zones_get (s.recoverZone_zones_ne n fun e => notIn (by rwa [← e]))]
    exact apart y (by simp [mem])

theorem Work.recoverStation (number : Nat) : Work x s₀ (s.recoverStation number).1 := by
  unfold State.recoverStation
  split
  · exact h
  case h_2 n _ =>
    split
    · exact h
    · extract_lets recovered c tested
      have testedWork : Work x s₀ tested :=
        (h.recoverZones (s.nodup_standsUnheld n) fun _ => State.not_holds_of_mem_standsUnheld).setArb
          |>.recoveryTest n
      split <;> exact testedWork

theorem Work.expireEntry (z : Zone) : Work x s₀ (s.expireEntry z) := by
  unfold State.expireEntry
  split
  · split
    · exact (((h.removeHolder z).notify _ _).holderChanged z).serveAt z _
    · exact h
  · exact h

theorem Work.expireDwell (z : Zone) : Work x s₀ (s.expireDwell z) := by
  unfold State.expireDwell
  split
  · split
    · exact ((h.removeHolder z).holderChanged z).serveAt z _
    · exact h
  · exact h

/-! ### Bookings (R158 .. R172) -/

theorem Work.reserve (num : Nat) (zs : List Zone) : Work x s₀ (s.reserve num zs) :=
  h.foldl (f := fun s z => s.modZone z fun d => { d with reservation := some num })
    (fun z h => h.modZone z fun _ _ => .of_claims (.inl rfl)) zs

theorem Work.liftReservations (zs : List Zone) : Work x s₀ (s.liftReservations zs) :=
  (h.foldl (f := fun s z => s.modZone z fun d => { d with reservation := none })
    (fun z h => h.modZone z fun _ _ => .of_claims (.inl rfl)) zs).foldl (fun z h => h.serve z) zs

theorem Work.openZone (n : Station) (z : Zone) : Work x s₀ (State.openZone n s z) := by
  unfold State.openZone
  split
  case h_1 k holding =>
    obtain ⟨d, record, hold⟩ := Option.bind_eq_some_iff.mp holding
    have only {e : ZoneDyn} (same : s.zones.get z = some e) : d = e :=
      Option.some.inj (record.symm.trans same)
    split
    · exact h.modZone z fun e same => .of_claims (.inl (by simp [← only same, hold]))
    case isFalse other =>
      refine h.modZone z fun e same => .headPlace fun k' hold' => ?_
      rw [← only same, hold, Option.some.injEq] at hold'
      exact hold' ▸ other
  case h_2 holding =>
    have free {e : ZoneDyn} (record : s.zones.get z = some e) : e.hold = none := by
      simpa [State.holding, record] using holding
    split
    · exact h.modZone z fun e record => .headPlace fun k hold => by simp [free record] at hold
    case isFalse opened =>
      cases record : s.zones.get z with
      | some d => exact h.grantBooked record (free record) (Bool.eq_false_iff.mpr opened)
      | none =>
        unfold State.grantBooked
        rw [State.modZone_of_none record]
        exact ((h.notify _ _).holderChanged z).recoveryTest n

theorem Work.openBooking (b : Booking) (remaining ends : Nat) :
    Work x s₀ (s.openBooking b remaining ends) :=
  (h.putBooking.foldl (fun z h => h.openZone b.station z) _).putBooking

theorem Work.endZone (b : Booking) (z : Zone) : Work x s₀ (State.endZone b s z) := by
  refine h.modZone z fun d _ => ?_
  dsimp only
  cases hold : d.hold with
  | none => exact .of_claims (.inr rfl) List.erase_sublist
  | some k =>
    dsimp only
    split
    · exact .of_claims (.inl (by simp [hold])) List.erase_sublist
    · exact .of_claims (.inl (by simp [hold])) List.erase_sublist

theorem Work.endBooking (b : Booking) (e : Ending) : Work x s₀ (s.endBooking b e) := by
  unfold State.endBooking
  extract_lets ended lifted r c written told reported
  have endedWork : Work x s₀ ended := h.foldl (fun z h => h.endZone b z) _
  have liftedWork : Work x s₀ lifted :=
    .ite endedWork ((endedWork.liftReservations _).serveMemberZones _)
  have reportedWork : Work x s₀ reported := (liftedWork.setCtx.notify _ _).raise _ _
  split
  · exact reportedWork.putBooking
  · exact reportedWork.dropBooking _

theorem Work.leadBooking (b : Booking) : Work x s₀ (s.leadBooking b) := h.putBooking.reserve _ _

theorem Work.startBooking (b : Booking) : Work x s₀ (s.startBooking b) := by
  unfold State.startBooking
  split
  · exact h.putBooking
  · split
    · exact h.putBooking
    · exact h.putBooking
    · exact h.openBooking b _ _
    · exact h.openBooking b _ _

/-- A step of the booking timeline is work when it is at each booking. -/
theorem Work.overBookings {f : State → Booking → State}
    (keeps : ∀ {t : State} (b : Booking), Work x s₀ t → Work x s₀ (f t b)) (sel : Nat → Bool) :
    Work x s₀ (s.overBookings sel f) := by
  refine h.foldl (fun {t} num ht => ?_) _
  split
  · exact keeps _ ht
  · exact ht

theorem Work.stepRemaining (b : Booking) : Work x s₀ (s.stepRemaining b) := by
  unfold State.stepRemaining
  split
  · split
    · exact h.endBooking b _
    · exact h
  · exact h

theorem Work.stepExpiry (b : Booking) : Work x s₀ (s.stepExpiry b) := by
  unfold State.stepExpiry
  split
  · exact h
  · split
    · exact h.endBooking b _
    · exact h

theorem Work.stepLead (b : Booking) : Work x s₀ (s.stepLead b) := .ite (h.leadBooking b) h

theorem Work.stepStart (b : Booking) : Work x s₀ (s.stepStart b) := .ite (h.startBooking b) h

theorem Work.allRemaining : Work x s₀ s.allRemaining :=
  h.overBookings (fun b h => h.stepRemaining b) _

theorem Work.allEnds : Work x s₀ s.allEnds :=
  h.allRemaining.overBookings (fun b h => h.stepExpiry b) _

theorem Work.allLeads : Work x s₀ s.allLeads :=
  h.allEnds.overBookings (fun b h => h.stepLead b) _

theorem Work.settleBookings : Work x s₀ s.settleBookings :=
  h.allLeads.overBookings (fun b h => h.stepStart b) _

theorem Work.bookingTurn {before : State → State} {f : State → Booking → State}
    (first : Work x s₀ (before s))
    (keeps : ∀ {t : State} (b : Booking), Work x s₀ t → Work x s₀ (f t b))
    (num : Nat) (due : State → Booking → Bool) : Work x s₀ (s.bookingTurn num before f due) := by
  unfold State.bookingTurn
  split
  · exact .ite (first.overBookings keeps _) h
  · exact h

theorem Work.cancelLift (crane : Option Station) (num : Nat) :
    Work x s₀ (s.cancelLift crane num).1 := by
  fun_cases State.cancelLift s crane num
  case case4 => exact h.endBooking _ _
  all_goals exact h

theorem Work.extendLift (crane : Option Station) (num : Nat) (amount : Int) :
    Work x s₀ (s.extendLift crane num amount).1 := by
  fun_cases State.extendLift s crane num amount
  case case6 => exact h.putBooking
  all_goals exact h

theorem Work.lockLift (num : Nat) (locked : Bool) : Work x s₀ (s.lockLift num locked).1 := by
  unfold State.lockLift
  split
  · exact h
  · exact h.putBooking

theorem Work.loadRise (n : Station) : Work x s₀ (s.loadRise n) := by
  unfold State.loadRise
  split
  · split
    · exact h.openBooking _ _ _
    · exact h.openBooking _ _ _
    · exact h
    · exact h
  · exact h

theorem Work.bookingStageTold (stage : Stage) (b : Booking) :
    Work x s₀ (State.bookingStageTold stage s b) := by
  have lapses (e : Nat) : Work x s₀
      (if e ≤ s.clock.time then s.endBooking b .lapsedDeferred
        else s.openBooking b (e - s.clock.time) e) :=
    .ite (h.endBooking b _) (h.openBooking b _ _)
  unfold State.bookingStageTold
  split
  · exact h.endBooking b _
  · exact h.endBooking b _
  · exact lapses _
  · exact lapses _
  · exact h

theorem Work.stageToldBookings (n : Station) (stage : Stage) :
    Work x s₀ (s.stageToldBookings n stage) :=
  h.overBookings (fun b h => h.bookingStageTold stage b) _

/-! ### The shutdown sequence (R131 .. R139) -/

theorem Work.abortForClearance (k : Station) (z : Zone) :
    Work x s₀ (s.abortForClearance k z) := by
  unfold State.abortForClearance
  split
  · exact h.endBooking _ _
  · exact h

theorem Work.requestClearance (v : Station) (zh : Zone × Station) :
    Work x s₀ (State.requestClearance v s zh) :=
  (h.abortForClearance _ _).notify _ _

theorem Work.startClearanceTimer (v : Station) : Work x s₀ (s.startClearanceTimer v) :=
  (h.setVane .of_eq).setOverdue v false

theorem Work.clearNeighbours (v : Station) : Work x s₀ (s.clearNeighbours v) :=
  ((h.foldl (fun zh h => h.requestClearance v zh) _).startClearanceTimer v).judgeClear v

theorem Work.beginSequence {v : Station} (braked : (s.vane.get v).vane = .braked) :
    Work x s₀ (s.beginSequence v) :=
  (h.setVane (.of_still (by simp) (by simp [braked])
    (VaneCtx.lineSound_of_off rfl (by simp)))).clearNeighbours v

theorem Work.endSequence {v : Station} (closes : (s.vane.get v).vane ≠ .vaning) :
    Work x s₀ (s.endSequence v) :=
  ((h.setVane (.of_still (by simp) closes
    (VaneCtx.lineSound_of_off rfl (by simp)))).setOverdue v false).serveMemberZones v

theorem Work.judgeSequence (v : Station) : Work x s₀ (s.judgeSequence v) := by
  unfold State.judgeSequence
  split
  case h_1 braked => exact .ite (h.beginSequence braked) h
  case h_2 clearing => exact .ite h (h.endSequence (by simp [clearing]))
  case h_3 clear => exact .ite h (h.endSequence (by simp [clear]))
  · exact h

theorem Work.expireClearance (v : Station) : Work x s₀ (s.expireClearance v) :=
  .ite ((h.setVane .of_eq).setOverdue v true) h

/-- The latch goes when the entry is CLEAR (R141). -/
theorem Work.unsafeCleared (v : Station) : Work x s₀ (s.unsafeCleared v) := by
  unfold State.unsafeCleared
  split
  case isTrue clear =>
    exact (h.setVane (c := { s.vane.get v with unsafeLatched := false })
      ⟨id, .inr id, .inr ⟨rfl, .inr clear.1⟩, id⟩).reevalPermit v
  case isFalse => exact h

/-! ### Stages (R115 .. R124) -/

theorem Work.tellStage (n : Station) (stage : Stage) (first : Bool) :
    Work x s₀ (s.tellStage n stage first) :=
  .ite ((h.stageToldBookings n stage).judgeSequence n)
    ((h.judgeSequence n).stageToldBookings n stage)

theorem Work.changeStage (n : Station) (stage : Stage) (first : Bool) :
    Work x s₀ (s.changeStage n stage first) :=
  .ite h ((h.setWind.notify n _).tellStage n stage first)

theorem Work.formFigures (n : Station) : Work x s₀ (s.formFigures n) :=
  .ite h.setWind (h.setWind.alarmIs _)

theorem Work.evaluateDrop (n : Station) (f : Nat × Nat) : Work x s₀ (s.evaluateDrop n f) := by
  simp only [State.evaluateDrop]
  split
  · split
    · exact h
    · exact h.setWind
  · exact h.setWind

theorem Work.evaluateRaise (n : Station) (f : Nat × Nat) (first : Bool) :
    Work x s₀ (s.evaluateRaise n f first) := by
  unfold State.evaluateRaise
  extract_lets
  exact .ite (h.setWind.changeStage n _ first) (h.setWind.evaluateDrop n f)

theorem Work.evaluateStation (n : Station) (first : Bool) :
    Work x s₀ (s.evaluateStation n first) := by
  unfold State.evaluateStation
  split
  case isFalse => exact h
  case isTrue =>
    extract_lets formed w settled
    have formedWork : Work x s₀ formed := h.formFigures n
    have settledWork : Work x s₀ settled := formedWork.setWind
    split
    · exact settledWork.changeStage n .shutdown first
    · split
      · split
        · exact settledWork.changeStage n .hold first
        · exact settledWork.changeStage n .hold first
        · exact settledWork
        · exact settledWork
      · exact formedWork.evaluateRaise n _ first

theorem Work.handOver (k : Nat) : Work x s₀ (s.handOver k) :=
  h.foldl (fun n h => h.evaluateStation n _) _

theorem Work.countDrop (n : Station) : Work x s₀ (s.countDrop n) := by
  simp only [State.countDrop]
  split
  · exact .ite h.setWind h
  · exact h

theorem Work.fall (n : Station) (first : Bool) : Work x s₀ (s.fall n first) :=
  .ite (h.setWind.changeStage n _ first) h

theorem Work.takeFall (n : Station) : Work x s₀ (s.takeFall n) := .ite (h.choose.fall n _) h

theorem Work.stopStation (n : Station) (first : Bool) : Work x s₀ (s.stopStation n first) :=
  .ite ((h.setWind.changeStage n .shutdown first).judgeSequence n) h

theorem Work.takeSiteStop (k : Nat) : Work x s₀ (s.takeSiteStop k) :=
  ((h.move (t := s) (u := { s with siteStop := true }) (.quiet rfl)).alarmBegins _).foldl
    (fun n h => h.stopStation n _) _

theorem Work.leaveSiteStop (k : Nat) : Work x s₀ (s.leaveSiteStop k) :=
  ((h.move (t := s) (u := { s with siteStop := false }) (.quiet rfl)).alarmEnds).foldl
    (fun n h => h.judgeSequence n) _

/-! ### The wind line (R91 .. R111), but for the answer of an ENROL_NEXT -/

theorem Work.putRecord (a : Addr) (r : SensorRec) : Work x s₀ (s.putRecord a r) := by
  unfold State.putRecord
  extract_lets old written fault failed
  have writtenWork : Work x s₀ written := h.setSensor
  have faultWork : Work x s₀ fault := .ite writtenWork (writtenWork.alarmIs _)
  have failedWork : Work x s₀ failed := .ite faultWork (faultWork.alarmIs _)
  exact .ite (failedWork.move (.entry failed (.sensorFailed a) .cleared nofun)) failedWork

theorem Work.listCommand (c : LineCommand) : Work x s₀ (s.listCommand c) := .ite h h.setLine

theorem Work.runRecord (a : Addr) : Work x s₀ (s.runRecord a) := .ite (h.putRecord a _) h

theorem Work.commandSent (c : LineCommand) : Work x s₀ (s.commandSent c) := by
  cases c with
  | assign a => exact h.setLine
  | run => exact h.setLine.foldl (fun a h => h.runRecord a) _
  | runTo a => exact .ite (h.putRecord a _) h

theorem Work.sendCommand (c : LineCommand) : Work x s₀ (s.sendCommand c) :=
  (h.move (.quiet rfl)).commandSent c

theorem Work.startCycle : Work x s₀ s.startCycle := by
  unfold State.startCycle
  extract_lets
  split
  · exact h.move (.quiet rfl)
  · exact h.move (.quiet rfl)
  · exact h.setLine.setLine.sendCommand _

theorem Work.closeWindow : Work x s₀ s.closeWindow := by
  unfold State.closeWindow
  split
  · extract_lets _ closed
    have closedWork : Work x s₀ closed := h.setLine
    split
    · exact closedWork
    · exact .ite (closedWork.sendCommand _) (closedWork.listCommand _)
  · exact h

theorem Work.stopWatch : Work x s₀ s.stopWatch := .ite h.setLine h

theorem Work.failAttempt (a : Addr) : Work x s₀ (s.failAttempt a) :=
  .ite ((h.putRecord a _).listCommand _) (h.putRecord a _)

theorem Work.expireChecking (a : Addr) : Work x s₀ (s.expireChecking a) :=
  .ite (h.failAttempt a) h

theorem Work.expireCheckingBelow (a : Addr) : Work x s₀ (s.expireCheckingBelow a) :=
  h.foldl (fun b h => h.expireChecking b) _

theorem Work.expireSilent (a : Addr) : Work x s₀ (s.expireSilent a) := .ite (h.putRecord a _) h

theorem Work.findWatched (a : Addr) (y : Reply) : Work x s₀ (s.findWatched a y) := by
  simp only [State.findWatched]
  split
  · exact .ite (h.putRecord a _) h
  · exact h

theorem Work.readAttempt (a : Addr) (moved : Option SensorRec) :
    Work x s₀ (s.readAttempt a moved) := by
  cases moved with
  | some r => exact h.putRecord a _
  | none => exact (h.expireCheckingBelow a).setSensor.failAttempt a

theorem Work.readAddr (slots : PerAddr Slot) (a : Addr) : Work x s₀ (State.readAddr slots s a) := by
  unfold State.readAddr
  extract_lets y found r
  have foundWork : Work x s₀ found := h.findWatched a y
  split
  · exact foundWork.readAttempt a _
  · exact foundWork.readAttempt a _
  · exact foundWork.readAttempt a _
  · exact foundWork.putRecord a _
  · exact foundWork.putRecord a _
  all_goals exact foundWork

theorem Work.blankRecords : Work x s₀ s.blankRecords := h.foldl (fun a h => h.putRecord a _) _

theorem Work.powerUpLine : Work x s₀ s.powerUpLine :=
  (h.move (u := s.cutCycle) (.quiet rfl)).blankRecords.setLine

theorem Work.enrolNext (tag addr : Nat) : Work x s₀ (s.enrolNext tag addr).1 := by
  unfold State.enrolNext
  split
  · exact (h.move (.quiet rfl)).listCommand _
  · exact h
  · exact h

theorem Work.runLine : Work x s₀ s.runLine.1 := by
  unfold State.runLine
  split
  · exact h
  · exact h
  · split
    · exact h
    · exact h.listCommand _

theorem Work.startLine : Work x s₀ s.startLine.1 := by
  unfold State.startLine
  split
  · exact h.powerUpLine
  · exact h
  · exact h

theorem Work.sensorRestart (addr : Nat) : Work x s₀ (s.sensorRestart addr).1 := by
  fun_cases State.sensorRestart s addr
  case case4 => exact (h.putRecord _ _).listCommand _
  all_goals exact h

/-! ### Joining and loss (R25 .. R32) -/

theorem Work.staleEnds (n : Station) (was : LinkState) : Work x s₀ (s.staleEnds n was) :=
  .ite h.alarmEnds h

theorem Work.join (n : Station) : Work x s₀ (s.join n) :=
  ((h.setCtx.staleEnds n _).setVWind n (.inl rfl)).reevalPermit n

theorem Work.hello (n : Station) (identity : Nat) : Work x s₀ (s.hello n identity).1 := by
  unfold State.hello
  split
  · exact h
  · exact h.join n

theorem Work.reportJudged (n : Station) : Work x s₀ (s.reportJudged n) :=
  (h.setCtx.staleEnds n _).judgeReport n _

theorem Work.restartReport (n : Station) : Work x s₀ (s.restartReport n) :=
  h.setCtx.reevalPermit n

theorem Work.expireReport (n : Station) : Work x s₀ (s.expireReport n) :=
  .ite ((h.setCtx.alarmBegins _).reevalPermit n) h

theorem Work.expireLink (n : Station) : Work x s₀ (s.expireLink n) :=
  .ite ((((h.setCtx.staleEnds n _).reevalPermit n).loseWaits n).setVWind n (.inl rfl)) h

/-! ### The tick of the limits (R73, R81) -/

omit h in
theorem targetSpeed_le (vRated derate : Nat) : targetSpeed vRated derate ≤ vRated := by
  refine Nat.div_le_of_le_mul ?_
  rw [Nat.mul_comm]
  exact Nat.mul_le_mul_right _ (Nat.sub_le _ _)

omit h in
/-- A ramp step goes no further than its target. -/
theorem rampStep_le_max (r : StationRec) (v target : Nat) : rampStep r v target ≤ max v target := by
  unfold rampStep
  split
  · split <;> omega
  · split
    · split <;> omega
    · omega

theorem Work.limitTick (n : Station) : Work x s₀ (s.limitTick n) := by
  unfold State.limitTick
  extract_lets link
  split
  case isTrue ticked =>
    have target := targetSpeed_le (s.station n).vRated
      (derateOf s.siteStop (s.station n) (s.wind.get n).stage s.siteDerate)
    have step := rampStep_le_max (s.station n) (s.lim.get n).vWind (s.target n)
    refine (h.setVWind n (.inr ⟨ticked.2, ?_⟩)).recompute n
    unfold State.target at *
    omega
  case isFalse => exact h

theorem Work.tickEvent : Work x s₀ s.tickEvent :=
  Work.foldl (s := { s with ctx := s.ctx.map StationCtx.tick })
    (h.move (.ctx s _ fun n => by simp [StationCtx.tick])) (fun n h => h.limitTick n) _

/-! ### Acknowledgements (R187) -/

theorem Work.ackEntry (i : AlarmId) : Work x s₀ (s.ackEntry i).1 := by
  unfold State.ackEntry
  extract_lets e acked
  split
  · exact h
  · have entered : Work x s₀ (s.setEntry i acked) :=
      h.move (.entry s i acked fun n _ => .inr fun active => by
        simp [acked, e, Entry.acked, active])
    dsimp only
    unfold State.toldAcked
    split
    · exact entered.unsafeCleared _
    · exact entered

theorem Work.ackAlarm (priority scope : Nat) : Work x s₀ (s.ackAlarm priority scope).1 := by
  unfold State.ackAlarm
  split
  · exact h.ackEntry _
  · exact h

end Operations

end Sys2Proof.Machine
end

section
/-! The acts of the part: work, and the writes that are no work, which open or close an airspace, change the plan,
enter a booking, answer an ENROL_NEXT or reset the part. Every command and event is a run of acts, taken inside
the handling of a request or outside of one. -/

namespace Sys2Proof.Machine

open Sys2Proof.Safety

/-! ### The swing of a jib -/

/-- The state of an unsafe release once the airspace is closed (R140): what follows it is work. -/
def State.releasedUnsafely (s : State) (v : Station) : State :=
  let t := (s.setVane v { s.vane.get v with unsafeLatched := true }).alarmBegins (.unsafeVane v)
  (t.sweepAdd v).setVane v
    { (t.sweepAdd v).vane.get v with vane := .vaning, timer := .stopped, vc := false }

/-- The state of a release in CLEAR once the airspace is closed (R137). -/
def State.releasedClear (s : State) (v : Station) : State :=
  (s.sweepAdd v).setVane v { (s.sweepAdd v).vane.get v with vane := .vaning }

/-- The staged plan passes the cross-record check (R9). -/
def CrossSound (p : PlanImage) : Prop :=
  (∀ n, stationCrossFails p n = false) ∧ ∀ z, zoneCrossFails p z = false

/-- A commit that may take effect: the staged plan passes both checks (R9, R10), or is pending and passes the
in-use check (R11). -/
structure State.Committable (s : State) : Prop where
  cross : s.plan.pendingCommit = .absent → CrossSound s.plan.staged
  station : ∀ n, s.stationInUse n = false
  zone : ∀ z, s.zoneInUse z = false

theorem firstFailing_eq_none_iff {station : Station → Bool} {zone : Zone → Bool} :
    firstFailing station zone = none ↔ (∀ n, station n = false) ∧ ∀ z, zone z = false := by
  refine ⟨fun h => ?_, fun ⟨hs, hz⟩ => firstFailing_eq_none hs hz⟩
  unfold firstFailing at h
  split at h
  · cases h
  case h_2 noStation =>
    simp only [List.find?_eq_none, Option.map_eq_none_iff, Bool.not_eq_true] at noStation h
    exact ⟨fun n => noStation n (Station.mem_all n), fun z => h z (Zone.mem_all z)⟩

theorem State.crossCheck_eq_none_iff {s : State} :
    s.crossCheck = none ↔ CrossSound s.plan.staged := firstFailing_eq_none_iff

theorem State.inUseCheck_eq_none_iff {s : State} :
    s.inUseCheck = none ↔ (∀ n, s.stationInUse n = false) ∧ ∀ z, s.zoneInUse z = false :=
  firstFailing_eq_none_iff

/-! ### Acts -/

/-- One act. The flag says whether it may write the links as no raised frame does: by the answer of an ENROL_NEXT, or
by a power-on. -/
inductive Act (b : Bool) : State → State → Prop where
  | work {s t : State} (h : Work ∅ s t) : Act b s t
  /-- A swing begins in CLEAR (R137). -/
  | swing (s : State) (v : Station) (clear : (s.vane.get v).vane = .clear) :
    Act b s (s.releasedClear v)
  /-- A swing begins in BRAKED or CLEARING (R140). -/
  | release (s : State) (v : Station)
      (held : (s.vane.get v).vane = .braked ∨ (s.vane.get v).vane = .clearing) :
    Act b s (s.releasedUnsafely v)
  /-- A swing ends, after which its station sweeps no zone (R138). -/
  | apply {s t : State} (v : Station) (h : Work {v} s t) (unswept : t.Unswept v) : Act b s t
  /-- The Plan Unit's records but for the live plan and its validity; the staged plan is frozen while a commit is
  pending, and one that becomes pending has passed the cross-record check (R7, R8). -/
  | plan (s : State) (p : PlanUnit) (live : p.live = s.plan.live)
      (frozen : p.pendingCommit ≠ .absent → p.staged = s.plan.staged ∧
        (s.plan.pendingCommit = .absent → CrossSound s.plan.staged)) : Act b s (s.setPlan p)
  /-- A commit takes effect (R12). -/
  | commit (s : State) (k : Nat) (passed : s.Committable) : Act b s (s.commitEffect k)
  /-- A booking takes a free record and the next free number (R157). -/
  | enter (s : State) (k : Booking) (number : k.number = s.newNumber)
      (room : s.bookings.length < 48) :
    Act b s { s.setBookings (insertBooking k s.bookings) with
              nextNumber := nextBookingNumber k.number }
  /-- The records of every block after a RESTART (R184). -/
  | warm (s : State) : Act b s s.warm
  /-- The answer of an ENROL_NEXT (R178). -/
  | enrol (s : State) (code : Code) (links : b = true) : Act b s (s.answerEnrol code)
  /-- The records of every block after a POWER_ON (R19). -/
  | cold (s : State) (links : b = true) : Act b s s.cold

/-- Any number of acts. -/
def Acts (b : Bool) : State → State → Prop := Relation.ReflTransGen (Act b)

theorem Acts.refl {b : Bool} (s : State) : Acts b s s := Relation.ReflTransGen.refl

theorem Acts.act {b : Bool} {s t u : State} (h : Acts b s t) (k : Act b t u) : Acts b s u :=
  Relation.ReflTransGen.tail h k

theorem Acts.trans {b : Bool} {s t u : State} (h : Acts b s t) (k : Acts b t u) : Acts b s u :=
  Relation.ReflTransGen.trans h k

theorem Acts.work {b : Bool} {s t u : State} (h : Acts b s t) (k : Work ∅ t u) : Acts b s u :=
  h.act (.work k)

/-- What every act keeps, any number of acts keeps. -/
theorem Acts.keeps {b : Bool} {P : State → Prop} (step : ∀ {s t : State}, Act b s t → P s → P t)
    {s t : State} (h : Acts b s t) (hs : P s) : P t := by
  induction h with
  | refl => exact hs
  | tail _ act ih => exact step act ih

/-! ### The swing is acts -/

/-- The part of the end of a swing that takes its station out of every swept set (R138). -/
def State.sweepOff (s : State) (v : Station) : State :=
  Zone.all.foldl (fun s z => s.modZone z fun d => { d with swept := d.swept.set v false }) s

theorem State.sweepRemove_eq (s : State) (v : Station) :
    s.sweepRemove v = ((((s.sweepOff v).serveMemberZones v).memberZones v).filterMap
      ((s.sweepOff v).serveMemberZones v).holder).foldl State.reevalConflict
        ((s.sweepOff v).serveMemberZones v) := rfl

/-- The zones up to a point have been taken, or the station was in no swept set of the zone before. -/
theorem State.foldl_unswept (v : Station) (zs : List Zone) (s : State) (z : Zone) (d : ZoneDyn)
    (record : (zs.foldl (fun s z => s.modZone z fun d => { d with swept := d.swept.set v false })
      s).zones.get z = some d)
    (h : z ∈ zs ∨ ∀ e, s.zones.get z = some e → e.swept.get v = false) : d.swept.get v = false := by
  induction zs generalizing s with
  | nil => exact h.elim nofun fun h => h d record
  | cons y zs ih =>
    refine ih _ record ?_
    by_cases e : z = y
    · subst e
      refine .inr fun e he => ?_
      simp only [State.modZone_get, if_true, Option.map_eq_some_iff] at he
      obtain ⟨e', -, rfl⟩ := he
      simp
    · refine h.imp (fun mem => ?_) fun h e' he => h e' ?_
      · simpa [e] using mem
      · simpa [State.modZone_get, e] using he

theorem State.sweepOff_unswept (s : State) (v : Station) : (s.sweepOff v).Unswept v :=
  fun z d record => State.foldl_unswept v Zone.all s z d record (.inl (Zone.mem_all z))

/-! ### What work does to a zone's record -/

/-- A write of a zone's record: an edit with no new holder, or a grant of the free zone where it is not closed. -/
def State.ZoneWritten (x : Set Station) (s : State) (z : Zone) (d e : ZoneDyn) : Prop :=
  d.Edited x e ∨ ∃ h entry, e = d.give h entry ∧ d.hold = none ∧ s.closedTo z h.station = false

theorem Between.zones {s t : State} (h : Between s t) : t.zones = s.zones := by rw [h.frame]

theorem Move.zones_get {x : Set Station} {s t : State} (h : Move x s t) (z : Zone) :
    t.zones.get z = s.zones.get z ∨
      ∃ d e, s.zones.get z = some d ∧ t.zones.get z = some e ∧ s.ZoneWritten x z d e := by
  cases h with
  | quiet frame => rw [frame]; exact .inl rfl
  | raise l f => rw [zones_of_holderWork (holderWork_raise s l f)]; exact .inl rfl
  | permit n => rw [zones_of_holderWork (holderWork_reevalPermit s n)]; exact .inl rfl
  | limits n => rw [zones_of_holderWork (holderWork_recompute s n)]; exact .inl rfl
  | ctx | speed | still | vanes | entry | bookings => exact .inl rfl
  | zone y record edited =>
    by_cases e : z = y
    · subst e
      exact .inr ⟨_, _, record, PerZone.get_set_same _ _ _, .inl edited⟩
    · exact .inl (PerZone.get_set_ne e)
  | @give y d k entry u record free opened told =>
    rw [zones_of_holderWork (holderWork_holderTold u y), told.zones]
    by_cases e : z = y
    · subst e
      exact .inr ⟨_, _, record, PerZone.get_set_same _ _ _, .inr ⟨k, entry, rfl, free, opened⟩⟩
    · exact .inl (PerZone.get_set_ne e)

theorem State.ZoneWritten.swept {x : Set Station} {s : State} {z : Zone} {d e : ZoneDyn}
    (h : s.ZoneWritten x z d e) :
    e.swept = d.swept ∨ ∃ v ∈ x, e.swept = d.swept.set v false := by
  rcases h with edited | ⟨k, entry, rfl, -, -⟩
  · exact edited.swept
  · exact .inl rfl

/-- Work sweeps no zone. -/
theorem Work.unswept {x : Set Station} {s t : State} (h : Work x s t) {n : Station}
    (hs : s.Unswept n) : t.Unswept n := by
  refine h.keeps (P := fun s => s.Unswept n) (fun {s t} move hs z e record => ?_) hs
  rcases move.zones_get z with same | ⟨d, e', old, new, written⟩
  · exact hs z e (same ▸ record)
  · obtain rfl : e' = e := Option.some.inj (new.symm.trans record)
    have kept := hs z d old
    rcases written.swept with same | ⟨v, -, same⟩ <;> rw [same]
    · exact kept
    · rw [PerStation.get_set]
      split
      · rfl
      · exact kept

/-! ### The end of a swing -/

theorem Work.sweepOff {s₀ s : State} {v : Station} (h : Work {v} s₀ s) :
    Work {v} s₀ (s.sweepOff v) :=
  h.foldl (f := fun s z => s.modZone z fun d => { d with swept := d.swept.set v false })
    (fun z h => h.modZone z fun _ _ => ⟨.inl rfl, id, .inr ⟨v, rfl, rfl⟩⟩) Zone.all

/-- What follows the taking out of the swept sets is work that ends no swing. -/
theorem Work.sweepServed {x : Set Station} (s : State) (v : Station) :
    Work x (s.sweepOff v) (s.sweepRemove v) := by
  rw [State.sweepRemove_eq]
  exact ((Work.refl (s.sweepOff v)).serveMemberZones v).foldl (f := State.reevalConflict)
    (fun n h => h.reevalConflict n) _

theorem Work.sweepRemove {s₀ s : State} {v : Station} (h : Work {v} s₀ s) :
    Work {v} s₀ (s.sweepRemove v) := h.sweepOff.trans (.sweepServed s v)

theorem State.sweepRemove_unswept (s : State) (v : Station) : (s.sweepRemove v).Unswept v :=
  (Work.sweepServed (x := ∅) s v).unswept (s.sweepOff_unswept v)

section Swing

variable {s₀ s : State} {v : Station} (h : Work {v} s₀ s)
include h

/-- The station whose swing ends takes another state. -/
theorem Work.leaveVaning {c : VaneCtx} (state : c.vane ≠ .vaning)
    (latched : c.unsafeLatched = (s.vane.get v).unsafeLatched)
    (line : c.LineSound (s.zonesClearFor v = true)) : Work {v} s₀ (s.setVane v c) :=
  h.setVane ⟨fun e => absurd e state, .inl rfl, .inl latched, fun _ => line⟩

theorem Work.swingToClearance : Work {v} s₀ (s.swingToClearance v) := by
  unfold State.swingToClearance
  refine Work.sweepRemove ?_
  split
  case isTrue condition =>
    have free := (Bool.and_eq_true_iff.mp condition).2
    exact h.leaveVaning (c := { s.vane.get v with vane := .clear, vc := true }) (by simp) rfl
      (VaneCtx.lineSound_of_free free rfl)
  case isFalse =>
    exact (h.leaveVaning (c := { s.vane.get v with vane := .clearing, vc := false }) (by simp) rfl
      (VaneCtx.lineSound_of_off rfl (by simp))).clearNeighbours v

theorem Work.returnToService : Work {v} s₀ (s.returnToService v) :=
  ((h.leaveVaning (c := { s.vane.get v with vane := .braked, vc := false }) (by simp) rfl
    (VaneCtx.lineSound_of_off rfl (by simp))).adopt v).sweepRemove

/-- An APPLIED report in VANING is work of a swing that ends (R138, R141). -/
theorem Work.endSwing : Work {v} s₀ (s.endSwing v) := by
  have ended : Work {v} s₀
      (if s.inForce v then s.swingToClearance v else s.returnToService v) :=
    .ite h.swingToClearance h.returnToService
  exact (ended.alarmEnds fun n e => by cases e; rfl).unsafeCleared v

end Swing

/-- The end of a swing leaves its station in no swept set (R138). -/
theorem State.endSwing_unswept (s : State) (v : Station) : (s.endSwing v).Unswept v := by
  have out : (if s.inForce v then s.swingToClearance v else s.returnToService v).Unswept v := by
    split
    · unfold State.swingToClearance
      apply State.sweepRemove_unswept
    · unfold State.returnToService
      apply State.sweepRemove_unswept
  exact Work.unswept (Work.unsafeCleared (Work.alarmEnds (x := {v}) (Work.refl _)
    fun n e => by cases e; rfl) v) out

end Sys2Proof.Machine
end

section
/-! Every operation is acts: the reports, admission, the plan, the line, ticks and marks, and the resets. -/

namespace Sys2Proof.Machine

open Sys2Proof.Safety

section Operations

variable {b : Bool} {s₀ s : State} (h : Acts b s₀ s)
include h

theorem Acts.ite {c : Prop} [Decidable c] {t : State} (ht : Acts b s₀ t) :
    Acts b s₀ (if c then s else t) := by
  split
  · exact h
  · exact ht

theorem Acts.foldl {β : Type} {f : State → β → State}
    (keeps : ∀ {s : State} (k : β), Acts b s₀ s → Acts b s₀ (f s k)) (ks : List β) :
    Acts b s₀ (ks.foldl f s) := by
  induction ks generalizing s with
  | nil => exact h
  | cons k ks ih => exact ih (keeps k h)

/-- A fold of operations that are each work. -/
theorem Acts.foldWork {β : Type} {f : State → β → State} (works : ∀ s k, Work ∅ s (f s k))
    (ks : List β) : Acts b s₀ (ks.foldl f s) :=
  h.foldl (fun k h => h.work (works _ k)) ks

/-! ### Position reports (R29, R137 .. R142) -/

theorem Acts.unsafeRelease {v : Station}
    (held : (s.vane.get v).vane = .braked ∨ (s.vane.get v).vane = .clearing) :
    Acts b s₀ (s.unsafeRelease v) := by
  have released := h.act (.release s v held)
  unfold State.unsafeRelease
  extract_lets wasClearing c latched swept d vaning opened
  have openedWork : Acts b s₀ opened :=
    .ite (released.work (((Work.refl _).setOverdue v false).serveMemberZones v)) released
  exact openedWork.work ((Work.refl _).reevalPermit v)

theorem Acts.takeBrake (v : Station) (released : Bool) : Acts b s₀ (s.takeBrake v released) := by
  unfold State.takeBrake
  extract_lets c taken
  have takenWork : Acts b s₀ taken := h.work ((Work.refl s).setVane .of_eq)
  have same : (taken.vane.get v).vane = c.vane := by simp [taken, c]
  split
  case h_1 clear =>
    exact (takenWork.act (.swing taken v (same.trans clear))).work
      ((Work.refl _).serveMemberZones v)
  case h_2 braked => exact takenWork.unsafeRelease (.inl (same.trans braked))
  case h_3 clearing => exact takenWork.unsafeRelease (.inr (same.trans clearing))
  case h_4 =>
    exact takenWork.act (.apply v (Work.refl taken).endSwing (taken.endSwing_unswept v))
  all_goals exact takenWork

theorem Acts.report (n : Station) (angle : Angle) (radius profile : Nat) (loaded released : Bool) :
    Acts b s₀ (s.report n angle radius profile loaded released) := by
  unfold State.report
  extract_lets c rises reported braked risen
  have brakedActs : Acts b s₀ braked :=
    (h.work ((Work.refl s).setCtx (by rfl))).takeBrake n released
  have risenActs : Acts b s₀ risen := .ite (brakedActs.work ((Work.refl _).loadRise n)) brakedActs
  exact risenActs.work ((((Work.refl _).reportJudged n).restartReport n).recompute n)

theorem Acts.position (n : Station) (angle : Angle) (radius profile : Nat)
    (loaded released : Bool) :
    Acts b s₀ (s.position n angle radius profile loaded released).1 := by
  unfold State.position
  split
  · exact h
  · exact h.report n angle radius profile loaded released

/-! ### Admission (R156, R157) -/

theorem Acts.admitLift {k : Booking} (number : k.number = s.newNumber)
    (room : s.bookings.length < 48) : Acts b s₀ (s.admitLift k) := by
  have entered := h.act (.enter s k number room)
  unfold State.admitLift
  extract_lets _ admitted led
  have ledActs : Acts b s₀ led := entered.work ((Work.refl admitted).leadBooking k)
  split
  · exact .ite (ledActs.work ((Work.refl led).startBooking { k with state := .lead })) ledActs
  · exact entered

theorem Acts.bookInRange (n : Station) (bySupervisor locked : Bool) (r : BookRequest) :
    Acts b s₀ (s.bookInRange n bySupervisor locked r).1 := by
  fun_cases State.bookInRange s n bySupervisor locked r
  case case8 room _ _ _ => exact h.admitLift rfl (Nat.lt_of_not_le room)
  all_goals exact h

theorem Acts.bookLift (n : Station) (bySupervisor locked : Bool) (f : WireBook) :
    Acts b s₀ (s.bookLift n bySupervisor locked f).1 := by
  unfold State.bookLift
  split
  · exact h
  · split
    · exact h
    · exact h.bookInRange n _ _ _

theorem Acts.supervisorBookLift (station locked : Nat) (f : WireBook) :
    Acts b s₀ (s.supervisorBookLift station locked f).1 := by
  fun_cases State.supervisorBookLift s station locked f
  case case4 => exact h.bookLift _ _ _ f
  all_goals exact h

/-! ### Staging and the plan store (R3 .. R7, R14 .. R17) -/

theorem Acts.setStaged (absent : s.commitPending = false) (p : PlanImage) :
    Acts b s₀ (s.setStaged p) :=
  h.act (.plan s _ rfl fun pending => by
    simp only [State.commitPending, bne_eq_false_iff_eq] at absent
    exact absurd absent pending)

theorem Acts.stageStation (number : Nat) (fields : WireStation) :
    Acts b s₀ (s.stageStation number fields).1 := by
  fun_cases State.stageStation s number fields
  case case2 absent _ _ _ _ => exact h.setStaged (Bool.eq_false_iff.mpr absent) _
  all_goals exact h

theorem Acts.stageZone (number : Nat) (fields : WireZone) :
    Acts b s₀ (s.stageZone number fields).1 := by
  fun_cases State.stageZone s number fields
  case case2 absent _ _ _ _ => exact h.setStaged (Bool.eq_false_iff.mpr absent) _
  all_goals exact h

theorem Acts.stageSite (clearanceTimeout siteDerate realign : Nat) :
    Acts b s₀ (s.stageSite clearanceTimeout siteDerate realign).1 := by
  fun_cases State.stageSite s clearanceTimeout siteDerate realign
  case case2 absent _ _ => exact h.setStaged (Bool.eq_false_iff.mpr absent) _
  all_goals exact h

theorem Acts.restage : Acts b s₀ s.restage.1 := by
  unfold State.restage
  split
  case isTrue => exact h
  case isFalse absent => exact h.setStaged (Bool.eq_false_iff.mpr absent) _

theorem Acts.cancelCommit : Acts b s₀ s.cancelCommit.1 := by
  unfold State.cancelCommit
  split
  · exact h.act (.plan s _ rfl fun pending => absurd rfl pending)
  · exact h

/-- The Plan Unit's records but for its images and the pending commit. -/
theorem Acts.setPlan {p : PlanUnit} (live : p.live = s.plan.live := by rfl)
    (staged : p.staged = s.plan.staged := by rfl)
    (pending : p.pendingCommit = s.plan.pendingCommit ∨ p.pendingCommit = .absent := by
      exact .inl rfl) : Acts b s₀ (s.setPlan p) :=
  h.act (.plan s p live fun present =>
    ⟨staged, fun absent => by simp_all⟩)

theorem Acts.storePlan : Acts b s₀ s.storePlan.1 := by
  unfold State.storePlan
  split
  · exact h
  · exact h.setPlan

theorem Acts.endWrite (found : StoreContent) : Acts b s₀ (s.endWrite found) := by
  unfold State.endWrite
  split
  · split
    · exact h.setPlan.work (Work.refl _).alarmEnds
    · extract_lets _ failed
      have failedActs : Acts b s₀ failed := h.setPlan
      exact .ite failedActs (failedActs.work ((Work.refl _).alarmBegins _))
  · exact h

/-! ### COMMIT and its moments (R8, R11) -/

theorem Acts.commitNow (passed : s.Committable) : Acts b s₀ s.commitNow :=
  (h.work (Work.refl s).choose).act
    (.commit s.choose.2 _ ⟨passed.cross, passed.station, passed.zone⟩)

theorem Acts.commitChecked (mode : CommitMode) : Acts b s₀ (s.commitChecked mode).1 := by
  unfold State.commitChecked
  split
  · exact h
  · exact h
  case h_3 cross inUse =>
    split <;> dsimp only
    · obtain ⟨stations, zones⟩ := State.inUseCheck_eq_none_iff.mp inUse
      exact h.commitNow ⟨fun _ => State.crossCheck_eq_none_iff.mp cross, stations, zones⟩
    · exact h.act (.plan s _ rfl fun _ => ⟨rfl, fun _ => State.crossCheck_eq_none_iff.mp cross⟩)
    · exact h.act (.plan s _ rfl fun _ => ⟨rfl, fun _ => State.crossCheck_eq_none_iff.mp cross⟩)

theorem Acts.commit (mode target : Nat) : Acts b s₀ (s.commit mode target).1 := by
  fun_cases State.commit s mode target
  case case5 => exact h.commitChecked _
  case case6 => exact h.commitChecked _
  case case7 => exact h.commitChecked _
  all_goals exact h

theorem Acts.commitMoment (pending : s.plan.pendingCommit ≠ .absent) :
    Acts b s₀ s.commitMoment := by
  unfold State.commitMoment
  split
  case h_1 passed =>
    obtain ⟨stations, zones⟩ := State.inUseCheck_eq_none_iff.mp passed
    exact h.commitNow ⟨fun absent => absurd absent pending, stations, zones⟩
  · extract_lets _ abandoned
    have abandonedActs : Acts b s₀ abandoned := h.setPlan rfl rfl (.inr rfl)
    exact .ite abandonedActs (abandonedActs.work ((Work.refl _).alarmBegins _))

theorem Acts.atTimeMoment : Acts b s₀ s.atTimeMoment := by
  unfold State.atTimeMoment
  split
  case h_1 pending => exact h.commitMoment (by simp [pending])
  · exact h

theorem Acts.atMarkMoment : Acts b s₀ s.atMarkMoment := by
  unfold State.atMarkMoment
  split
  case h_1 pending => exact h.commitMoment (by simp [pending])
  · exact h
  · exact h

end Operations

/-! ### The wind line with the answer of an ENROL_NEXT (R98, R111, R178), and what ticks and marks take -/

section Linked

variable {s₀ s : State} (h : Acts true s₀ s)
include h

theorem Acts.answerEnrol (code : Code) : Acts true s₀ (s.answerEnrol code) :=
  h.act (.enrol s code rfl)

theorem Acts.readEcho (slots : PerAddr Slot) : Acts true s₀ (s.readEcho slots) := by
  unfold State.readEcho
  split
  · exact .ite ((h.work ((Work.refl s).setLine.putRecord _ _)).answerEnrol _)
      (h.work (Work.refl s).setLine)
  · exact h

theorem Acts.expireEcho : Acts true s₀ s.expireEcho := by
  unfold State.expireEcho
  split
  · exact (h.work (Work.refl s).setLine).answerEnrol _
  · exact h

theorem Acts.readSlots (kind : CycleKind) (slots : PerAddr Slot) :
    Acts true s₀ (s.readSlots kind slots) := by
  unfold State.readSlots
  split
  · exact h.readEcho slots
  · exact ((h.readEcho slots).foldWork (fun s a => (Work.refl s).readAddr slots a) _).work
      (Work.refl _).setLine
  · exact h

theorem Acts.takeCycleEnds : Acts true s₀ s.takeCycleEnds :=
  (((h.expireEcho.work (Work.refl _).stopWatch).foldWork
    (fun s a => (Work.refl s).expireChecking a) _).foldWork
    (fun s a => (Work.refl s).expireSilent a) _)

theorem Acts.endReading (slots : PerAddr Slot) (k : Nat) :
    Acts true s₀ (s.endReading slots k) := by
  unfold State.endReading
  split
  case h_1 c _ =>
    extract_lets _ handed
    have handedActs : Acts true s₀ handed :=
      (h.readSlots c.kind slots).work (((Work.refl _).move (.quiet rfl)).handOver k)
    exact .ite (handedActs.takeCycleEnds.work (Work.refl _).startCycle) handedActs
  · exact h

theorem Acts.takeReading : Acts true s₀ s.takeReading := by
  unfold State.takeReading
  split
  · exact .ite ((h.work (Work.refl s).choose).endReading _ _) h
  · exact h

theorem Acts.stopPower : Acts true s₀ s.stopPower :=
  (((h.work ((Work.refl s).move (u := s.cutCycle) (.quiet rfl)).setLine).answerEnrol _).work
    (Work.refl _).blankRecords)

theorem Acts.stopLine : Acts true s₀ s.stopLine.1 := by
  unfold State.stopLine
  split
  · exact h
  · exact h.stopPower
  · exact h.stopPower

omit h in
theorem Acts.takeExpiries {b : Bool} (h : Acts b s₀ s) : Acts b s₀ s.takeExpiries := by
  have links := (h.foldWork (f := State.expireReport)
    (fun s n => (Work.refl s).expireReport n) Station.all).foldWork (f := State.expireLink)
    (fun s n => (Work.refl s).expireLink n) Station.all
  have zones := (links.foldWork (f := State.expireEntry)
    (fun s z => (Work.refl s).expireEntry z) Zone.all).foldWork (f := State.expireDwell)
    (fun s z => (Work.refl s).expireDwell z) Zone.all
  have stations := (zones.foldWork (f := State.expireClearance)
    (fun s n => (Work.refl s).expireClearance n) Station.all).foldWork (f := State.takeFall)
    (fun s n => (Work.refl s).takeFall n) Station.all
  exact (stations.work (Work.refl _).settleBookings).atTimeMoment

theorem Acts.takeDue : Acts true s₀ s.takeDue :=
  (h.takeExpiries.takeReading.work (Work.refl _).closeWindow).takeCycleEnds

omit h in
/-- The boundary counts; what a commit's target reaches is marked (R11). -/
theorem Acts.boundary {b : Bool} (h : Acts b s₀ s) (now : Nat) :
    Acts b s₀ (s.setPlan (s.plan.boundary now)) := by
  unfold PlanUnit.boundary
  split
  case h_1 t _ pending =>
    split
    · exact h.act (.plan s _ rfl fun _ => ⟨rfl, fun absent => by simp [pending] at absent⟩)
    · exact h.setPlan
  · exact h.setPlan
  · exact h.setPlan

omit h in
theorem Booking.count_number (k : Booking) (now : Nat) : (k.count now).number = k.number := by
  unfold Booking.count
  split <;> rfl

omit h in
theorem Acts.secondBoundary {b : Bool} (h : Acts b s₀ s) : Acts b s₀ s.secondBoundary := by
  unfold State.secondBoundary
  extract_lets _ timed counted zones drops
  have timedActs : Acts b s₀ timed := h.work ((Work.refl s).move (.quiet rfl))
  have contexts : Work ∅ timed { timed with ctx := timed.ctx.map StationCtx.boundary } :=
    (Work.refl timed).move (.ctx timed _ fun n => by simp [StationCtx.boundary])
  have countedActs : Acts b s₀ counted := by
    refine timedActs.work (contexts.move (.vanes _ _ fun n => ?_))
    rw [PerStation.get_map]
    exact .of_eq
  have zonesActs : Acts b s₀ zones := countedActs.foldWork (f := State.countZone)
    (fun s z => (Work.refl s).modZone z fun _ _ => .of_claims (.inl rfl)) Zone.all
  have dropsActs : Acts b s₀ drops := zonesActs.foldWork (f := State.countDrop)
    (fun s n => (Work.refl s).countDrop n) Station.all
  refine (dropsActs.boundary _).work ((Work.refl _).move (.bookings _ _ ?_))
  simp [Function.comp_def, Booking.count_number]

omit h in
theorem Work.tickCycle {x : Set Station} (h : Work x s₀ s) : Work x s₀ s.tickCycle := by
  unfold State.tickCycle
  split
  · split
    · exact h.move (.quiet rfl)
    · exact h.startCycle
  · exact h.move (.quiet rfl)

omit h in
theorem Acts.takeTick {b : Bool} (h : Acts b s₀ s) (phase : Nat) (boundary : Bool) :
    Acts b s₀ (s.takeTick phase boundary) := by
  unfold State.takeTick
  extract_lets _ _ phased counted
  have phasedActs : Acts b s₀ phased := h.work ((Work.refl s).move (.quiet rfl))
  have countedActs : Acts b s₀ counted := .ite phasedActs.secondBoundary phasedActs
  exact countedActs.work (Work.refl _).tickEvent.tickCycle

theorem Acts.tick : Acts true s₀ s.tick := by
  unfold State.tick
  extract_lets due phase
  exact h.takeDue.takeTick phase _

theorem Acts.rephaseNow (boundary : Bool) : Acts true s₀ (s.rephaseNow boundary) :=
  Acts.takeTick (h.work ((Work.refl s).move (u := s.endCycle) (.quiet rfl))) 0 boundary

theorem Acts.moveTime (t : Nat) : Acts true s₀ (s.moveTime t) := by
  unfold State.moveTime
  extract_lets before timed
  exact Acts.rephaseNow (h.work ((Work.refl s).move (.quiet rfl))) false

theorem Acts.setTime (t : Nat) : Acts true s₀ (s.setTime t).1 := by
  unfold State.setTime
  split
  · exact h
  · split
    · dsimp only
      exact h.moveTime t
    · exact h

theorem Acts.markInStep (sinceTick : Nat) : Acts true s₀ (s.markInStep sinceTick) := by
  unfold State.markInStep
  extract_lets _ inStep
  have inStepActs : Acts true s₀ inStep :=
    .ite (h.work (((Work.refl s).move (u := s.setClock { s.clock with slip := false })
      (.quiet rfl)).alarmEnds (i := .timeSlip))) h
  split
  · split
    · exact inStepActs.work ((Work.refl _).move (.quiet rfl))
    · exact inStepActs.tick
  · exact inStepActs

theorem Acts.markSlipped (phase : Nat) : Acts true s₀ (s.markSlipped phase) := by
  unfold State.markSlipped
  extract_lets c recorded slipped
  have recordedActs : Acts true s₀ recorded := h.work ((Work.refl s).move (.quiet rfl))
  have slippedActs : Acts true s₀ slipped :=
    .ite recordedActs (recordedActs.work ((Work.refl _).alarmBegins _))
  exact .ite (slippedActs.takeDue.rephaseNow _) slippedActs

theorem Acts.judgeMark (phase sinceTick : Nat) : Acts true s₀ (s.judgeMark phase sinceTick) :=
  .ite (h.markInStep sinceTick) (h.markSlipped phase)

theorem Acts.takeMark (phase sinceTick : Nat) (clockFirst : Bool) :
    Acts true s₀ (s.takeMark phase sinceTick clockFirst) := by
  have judged := h.judgeMark phase sinceTick
  have expired : Acts true s₀ (if s.markBoundary phase then
      (s.judgeMark phase sinceTick).takeExpiries else s.judgeMark phase sinceTick) :=
    .ite judged.takeExpiries judged
  exact .ite (.ite expired.atMarkMoment (h.atMarkMoment.judgeMark phase sinceTick)) judged

theorem Acts.setSiteDerate (value : Nat) : Acts true s₀ (s.setSiteDerate value).1 := by
  unfold State.setSiteDerate
  split
  · exact h
  · exact h.work ((Work.refl s).move (.quiet rfl))

theorem Acts.setRealign (value : Nat) : Acts true s₀ (s.setRealign value).1 := by
  unfold State.setRealign
  split
  · exact h.work ((Work.refl s).move (.quiet rfl))
  · exact h

/-! ### Resets (R19, R184) -/

theorem Acts.takeLevel : Acts true s₀ s.takeLevel :=
  .ite (h.work ((Work.refl s).choose.takeSiteStop _)) h

theorem Acts.powerOn : Acts true s₀ s.powerOn := by
  unfold State.powerOn
  extract_lets cold
  have coldActs : Acts true s₀ cold :=
    (h.act (.cold s rfl)).work ((Work.refl _).move (.quiet rfl))
  exact Acts.takeLevel (.ite (coldActs.work ((Work.refl _).alarmBegins _)) coldActs)

theorem Acts.restart : Acts true s₀ s.restart.1 :=
  ((h.answerEnrol _).act (.warm _)).takeLevel

end Linked

end Sys2Proof.Machine
end

section
/-! Every command and event is a run of acts, some of them taken inside the handling of a request. -/

namespace Sys2Proof.Machine

open Sys2Proof.Safety

/-- One stretch of a command: acts, a request that is handled by acts and answered, or a write of a link. -/
inductive Stretch : State → State → Prop where
  | acts {s t : State} (h : Acts true s t) : Stretch s t
  | request {s u : State} (l : Link) (answer : Option Frame)
      (h : Acts true { s.setRx l .hunting with handling := some l, held := [] } u) :
      Stretch s ({ u with handling := none, held := [] }.send l (answer.toList ++ u.held))
  | rx (s : State) (l : Link) (r : Rx) : Stretch s (s.setRx l r)
  | tx (s : State) (l : Link) (x : Tx) : Stretch s (s.setTx l x)

/-- A command from start to end. -/
def Runs : State → State → Prop := Relation.ReflTransGen Stretch

theorem Runs.refl (s : State) : Runs s s := Relation.ReflTransGen.refl

theorem Runs.stretch {s t u : State} (h : Runs s t) (k : Stretch t u) : Runs s u :=
  Relation.ReflTransGen.tail h k

theorem Runs.acts {s t u : State} (h : Runs s t) (k : Acts true t u) : Runs s u :=
  h.stretch (.acts k)

theorem Runs.work {s t u : State} (h : Runs s t) (k : Work ∅ t u) : Runs s u :=
  h.acts (Acts.work (.refl t) k)

/-- What acts keep, and what does not speak of the request being handled or of a link, a command keeps. -/
theorem Runs.keeps {P : State → Prop} (step : ∀ {s t : State}, Act true s t → P s → P t)
    (links : ∀ {s : State} (handling : Option Link) (held : List Frame) (tx : PerLink Tx)
      (rx : PerLink Rx), P s →
      P { s with handling := handling, held := held, tx := tx, rx := rx })
    {s t : State} (h : Runs s t) (hs : P s) : P t := by
  induction h with
  | refl => exact hs
  | @tail s _ _ stretch ih =>
    cases stretch with
    | acts h => exact h.keeps step ih
    | @request u l answer h =>
      have taken := links (s := s) (some l) [] s.tx (s.setRx l .hunting).rx ih
      exact links (s := u) none [] _ u.rx (h.keeps step taken)
    | rx => exact links (s := s) s.handling s.held s.tx _ ih
    | tx => exact links (s := s) s.handling s.held _ s.rx ih

section Requests

variable {s₀ s : State} (h : Runs s₀ s)
include h

theorem Runs.ite {c : Prop} [Decidable c] {t : State} (ht : Runs s₀ t) :
    Runs s₀ (if c then s else t) := by
  split
  · exact h
  · exact ht

theorem Runs.handle {l : Link} {work : State → State × Option Frame}
    (acts : ∀ t, Acts true t (work t).1) : Runs s₀ (s.handle l work) :=
  h.stretch (.request l (work _).2 (acts _))

theorem Runs.craneRequest {n : Station} {kind : Byte} {work : State → State × Code × Data}
    (acts : ∀ t, Acts true t (work t).1) : Runs s₀ (s.craneRequest n kind work) :=
  h.handle (work := fun s => ((work s).1, some (.answer kind (work s).2.1 (work s).2.2))) acts

theorem Runs.onlineRequest {n : Station} {kind : Byte} {work : State → State × Code × Data}
    (acts : ∀ t, Acts true t (work t).1) : Runs s₀ (s.onlineRequest n kind work) :=
  h.craneRequest fun t => by
    split
    · exact acts t
    · exact .refl t

theorem Runs.command {tag cmd : Nat} {work : State → State × Code × Data}
    (acts : ∀ t, Acts true t (work t).1) : Runs s₀ (s.command tag cmd work) :=
  h.handle (work := fun s => ((work s).1, some (.answerSL tag cmd (work s).2.1 (work s).2.2)))
    acts

theorem Runs.bookingRequest {n : Station} {kind : Byte} {work : State → State × Code × Data}
    (acts : ∀ t, Acts true t (work t).1) : Runs s₀ (s.bookingRequest n kind work) :=
  (h.work (.ite (Work.refl s).settleBookings (.refl s))).onlineRequest acts

theorem Runs.bookingCommand {tag cmd : Nat} {work : State → State × Code × Data}
    (acts : ∀ t, Acts true t (work t).1) : Runs s₀ (s.bookingCommand tag cmd work) :=
  (h.work (Work.refl s).settleBookings).command acts

end Requests

theorem Acts.of_work {b : Bool} {s t : State} (h : Work ∅ s t) : Acts b s t :=
  Acts.work (.refl s) h

theorem Acts.of_eq {b : Bool} {s t : State} (h : t = s) : Acts b s t := by rw [h]; exact .refl s

theorem Work.beforeReport (s : State) (n : Station) (loaded : Bool) :
    Work ∅ s (s.beforeReport n loaded) := .ite (Work.refl s).settleBookings (.refl s)

theorem Runs.execTimeMark (s : State) (sinceTick : Nat) :
    ∃ t, execTimeMark sinceTick s = .next t ∧ Runs s t := by
  refine ⟨_, rfl, .acts (.refl s) ?_⟩
  exact .ite (Acts.takeMark (.of_work (Work.refl s).choose) _ _ _) (Acts.takeMark (.refl s) _ _ _)

theorem Runs.execSetTime (s : State) (tag time : Nat) :
    ∃ t, execSetTime tag time s = .next t ∧ Runs s t := by
  refine ⟨_, rfl, Runs.command ?_ fun t => (Acts.refl t).setTime time⟩
  exact .ite ((Runs.refl s).acts (Acts.refl s).takeDue) (.refl s)

theorem Runs.execWindCycleReadingEnd (s : State) (slots : PerAddr Slot) :
    ∃ t, execWindCycleReadingEnd slots s = .next t ∧ Runs s t :=
  ⟨_, rfl, .acts (.refl s) (.ite (Acts.endReading (.of_work (Work.refl s).choose) _ _) (.refl s))⟩

theorem Runs.execCheckingTimeout (s : State) (a : Addr) :
    ∃ t, execCheckingTimeout a s = .next t ∧ Runs s t :=
  ⟨_, rfl, .work (.refl s)
    (.ite (((Work.refl s).expireCheckingBelow a).expireChecking a) (.refl s))⟩

theorem Work.takeSstop (s : State) (pin : Bool) :
    Work ∅ s { s.choose.2 with sstopPin := pin } := (Work.refl s).move (.quiet rfl)

section Commands

variable (s : State)

/-- Every command but the frame that fails its check, which holds other commands. -/
theorem Runs.exec_of_ne {i : Instr} (ne : ∀ link frame, i ≠ .badCheckFrame link frame) :
    ∃ t, exec i s = .next t ∧ Runs s t := by
  have r := Runs.refl s
  cases i with
  | badCheckFrame link frame => exact absurd rfl (ne link frame)
  | powerOn => exact ⟨_, rfl, r.acts (Acts.refl s).powerOn⟩
  | restart tag => exact ⟨_, rfl, r.command fun t => (Acts.refl t).restart⟩
  | tick => exact ⟨_, rfl, r.acts (Acts.refl s).tick⟩
  | windowClose => exact ⟨_, rfl, r.work (Work.refl s).closeWindow⟩
  | windCycleReadingEnd slots => exact Runs.execWindCycleReadingEnd s slots
  | echoWaitExpiry => exact ⟨_, rfl, r.acts (Acts.refl s).expireEcho⟩
  | runWatchEnd => exact ⟨_, rfl, r.work (Work.refl s).stopWatch⟩
  | checkingTimeout a => exact Runs.execCheckingTimeout s a
  | sensorSilent a => exact ⟨_, rfl, r.work ((Work.refl s).expireSilent a)⟩
  | dropDwellExpiry n => exact ⟨_, rfl, r.work ((Work.refl s).takeFall n)⟩
  | sstopAsserted => exact ⟨_, rfl, r.work ((Work.takeSstop s true).takeSiteStop _)⟩
  | sstopWithdrawn => exact ⟨_, rfl, r.work ((Work.takeSstop s false).leaveSiteStop _)⟩
  | clearanceTimerExpiry n => exact ⟨_, rfl, r.work ((Work.refl s).expireClearance n)⟩
  | hello n identity =>
    exact ⟨_, rfl, r.craneRequest fun t => .of_work ((Work.refl t).hello n identity)⟩
  | position n angle radius profile loaded released =>
    exact ⟨_, rfl, (r.work (Work.beforeReport s n loaded)).craneRequest fun t =>
      (Acts.refl t).position n angle radius profile loaded released⟩
  | hold n zone =>
    exact ⟨_, rfl, r.onlineRequest fun t => .of_work ((Work.refl t).holdZone n zone)⟩
  | release n zone =>
    exact ⟨_, rfl, r.onlineRequest fun t => .of_work ((Work.refl t).releaseZone n zone)⟩
  | withdraw n zone =>
    exact ⟨_, rfl, r.onlineRequest fun t => .of_work ((Work.refl t).withdrawZone n zone)⟩
  | book n fields =>
    exact ⟨_, rfl, r.bookingRequest fun t => (Acts.refl t).bookLift n false false fields⟩
  | cancel n number =>
    exact ⟨_, rfl, r.bookingRequest fun t => .of_work ((Work.refl t).cancelLift (some n) number)⟩
  | extend n number amount =>
    exact ⟨_, rfl, r.bookingRequest fun t =>
      .of_work ((Work.refl t).extendLift (some n) number amount)⟩
  | myZones n first =>
    exact ⟨_, rfl, r.onlineRequest fun t => .of_eq (State.listZones_fst t n first)⟩
  | myBookings n first => exact ⟨_, rfl, r.onlineRequest fun t => .refl t⟩
  | badKind link kind payload => exact ⟨_, rfl, r.handle fun t => .refl t⟩
  | badLength link kind payload => exact ⟨_, rfl, r.handle fun t => .refl t⟩
  | waitingFrameSent link => exact ⟨_, rfl, r.stretch (.tx s link _)⟩
  | reportTimerExpiry n => exact ⟨_, rfl, r.work ((Work.refl s).expireReport n)⟩
  | linkDwellExpiry n => exact ⟨_, rfl, r.work ((Work.refl s).expireLink n)⟩
  | entryTimerExpiry z => exact ⟨_, rfl, r.work ((Work.refl s).expireEntry z)⟩
  | releaseDwellExpiry z => exact ⟨_, rfl, r.work ((Work.refl s).expireDwell z)⟩
  | bookingLead number =>
    exact ⟨_, rfl, r.work ((Work.refl s).bookingTurn (Work.refl s).allEnds
      (fun b h => h.stepLead b) number _)⟩
  | bookingStart number =>
    exact ⟨_, rfl, r.work ((Work.refl s).bookingTurn (Work.refl s).allLeads
      (fun b h => h.stepStart b) number _)⟩
  | bookingRemainingExpiry number =>
    exact ⟨_, rfl, r.work ((Work.refl s).bookingTurn (before := id) (Work.refl s)
      (fun b h => h.stepRemaining b) number _)⟩
  | acceptWindowExpiry number =>
    exact ⟨_, rfl, r.work ((Work.refl s).bookingTurn (Work.refl s).allRemaining
      (fun b h => h.stepExpiry b) number _)⟩
  | deferredWindowExpiry number =>
    exact ⟨_, rfl, r.work ((Work.refl s).bookingTurn (Work.refl s).allRemaining
      (fun b h => h.stepExpiry b) number _)⟩
  | timeMark sinceTick => exact Runs.execTimeMark s sinceTick
  | atTimeCommitMoment => exact ⟨_, rfl, r.acts (Acts.refl s).atTimeMoment⟩
  | storeWriteEnd found => exact ⟨_, rfl, r.acts ((Acts.refl s).endWrite found)⟩
  | stageStation tag number fields =>
    exact ⟨_, rfl, r.command fun t => (Acts.refl t).stageStation number fields⟩
  | stageZone tag number fields =>
    exact ⟨_, rfl, r.command fun t => (Acts.refl t).stageZone number fields⟩
  | stageSite tag clearanceTimeout siteDerate realign =>
    exact ⟨_, rfl, r.command fun t => (Acts.refl t).stageSite clearanceTimeout siteDerate realign⟩
  | restage tag => exact ⟨_, rfl, r.command fun t => (Acts.refl t).restage⟩
  | commit tag mode target => exact ⟨_, rfl, r.command fun t => (Acts.refl t).commit mode target⟩
  | cancelCommit tag => exact ⟨_, rfl, r.command fun t => (Acts.refl t).cancelCommit⟩
  | store tag => exact ⟨_, rfl, r.command fun t => (Acts.refl t).storePlan⟩
  | forceRelease tag zone =>
    exact ⟨_, rfl, r.command fun t => .of_work ((Work.refl t).forceRelease zone)⟩
  | recover tag station =>
    exact ⟨_, rfl, r.command fun t => .of_work ((Work.refl t).recoverStation station)⟩
  | enrolNext tag addr =>
    exact ⟨_, rfl, r.handle fun t => .of_work ((Work.refl t).enrolNext tag addr)⟩
  | runLine tag => exact ⟨_, rfl, r.command fun t => .of_work (Work.refl t).runLine⟩
  | stopLine tag => exact ⟨_, rfl, r.command fun t => (Acts.refl t).stopLine⟩
  | startLine tag => exact ⟨_, rfl, r.command fun t => .of_work (Work.refl t).startLine⟩
  | sensorRestart tag addr =>
    exact ⟨_, rfl, r.command fun t => .of_work ((Work.refl t).sensorRestart addr)⟩
  | setTime tag time => exact Runs.execSetTime s tag time
  | setSiteDerate tag value =>
    exact ⟨_, rfl, r.command fun t => (Acts.refl t).setSiteDerate value⟩
  | setRealign tag value => exact ⟨_, rfl, r.command fun t => (Acts.refl t).setRealign value⟩
  | supervisorBook tag station locked fields =>
    exact ⟨_, rfl, r.bookingCommand fun t => (Acts.refl t).supervisorBookLift station locked fields⟩
  | supervisorCancel tag number =>
    exact ⟨_, rfl, r.bookingCommand fun t => .of_work ((Work.refl t).cancelLift none number)⟩
  | supervisorExtend tag number amount =>
    exact ⟨_, rfl, r.bookingCommand fun t => .of_work ((Work.refl t).extendLift none number amount)⟩
  | lock tag number =>
    exact ⟨_, rfl, r.bookingCommand fun t => .of_work ((Work.refl t).lockLift number true)⟩
  | unlock tag number =>
    exact ⟨_, rfl, r.bookingCommand fun t => .of_work ((Work.refl t).lockLift number false)⟩
  | queryStation tag station =>
    exact ⟨_, rfl, r.command fun t => .of_eq (State.queryStation_fst t station)⟩
  | queryZone tag zone => exact ⟨_, rfl, r.command fun t => .of_eq (State.queryZone_fst t zone)⟩
  | queryBookings tag first filter =>
    exact ⟨_, rfl, r.command fun t => .of_eq (State.queryBookings_fst t first filter)⟩
  | querySensor tag addr =>
    exact ⟨_, rfl, r.command fun t => .of_eq (State.querySensor_fst t addr)⟩
  | queryTime tag => exact ⟨_, rfl, r.command fun t => .refl t⟩
  | queryPlan tag => exact ⟨_, rfl, r.command fun t => .refl t⟩
  | readRecord tag image cls number =>
    exact ⟨_, rfl, r.command fun t => .of_eq (State.readRecord_fst t image cls number)⟩
  | queryAlarms tag => exact ⟨_, rfl, r.command fun t => .refl t⟩
  | ackAlarm tag priority scope =>
    exact ⟨_, rfl, r.command fun t => .of_work ((Work.refl t).ackAlarm priority scope)⟩
  | zeroLengthCollectionEnd link => exact ⟨_, rfl, r.stretch (.rx s link _)⟩

theorem Runs.takeFrame {s₀ : State} (h : Runs s₀ s) (i : Instr) : Runs s₀ (s.takeFrame i) := by
  rcases s.takeFrame_cases i with same | ⟨ne, handled⟩
  · rwa [same]
  · obtain ⟨t, next, ht⟩ := Runs.exec_of_ne s ne
    rw [handled, next]
    exact h.trans ht

theorem Runs.takeFrames {s₀ s : State} (h : Runs s₀ s) (is : List Instr) :
    Runs s₀ (is.foldl State.takeFrame s) := by
  induction is generalizing s with
  | nil => exact h
  | cons i is ih => exact ih (h.takeFrame s i)

theorem Runs.rehunt (l : Link) (bytes : List Byte) : Runs s (s.rehunt l bytes) := by
  unfold State.rehunt
  exact (Runs.takeFrames ((Runs.refl s).stretch (.rx s l .hunting)) _).stretch (.rx _ l _)

theorem Runs.exec (i : Instr) : ∃ t, exec i s = .next t ∧ Runs s t := by
  by_cases failed : ∃ link frame, i = .badCheckFrame link frame
  · obtain ⟨link, frame, rfl⟩ := failed
    exact ⟨_, rfl, Runs.rehunt s link frame.tail⟩
  · exact Runs.exec_of_ne s fun link frame e => failed ⟨link, frame, e⟩

/-- A step is the run of the command at the front of the queue. -/
theorem Runs.step {t : State} (h : step s = .next t) :
    t = s ∨ ∃ rest, Runs { s with pending := rest } t := by
  unfold Machine.step at h
  split at h
  · cases h; exact .inl rfl
  case h_2 c rest _ =>
    obtain ⟨u, next, run⟩ := Runs.exec { s with pending := rest } c
    rw [next] at h
    cases h
    exact .inr ⟨rest, run⟩

end Commands

/-- What a command keeps and does not speak of the queue, a step keeps. -/
theorem keeps_step {P : State → Prop} (step : ∀ {s t : State}, Act true s t → P s → P t)
    (links : ∀ {s : State} (handling : Option Link) (held : List Frame) (tx : PerLink Tx)
      (rx : PerLink Rx), P s →
      P { s with handling := handling, held := held, tx := tx, rx := rx })
    (queue : ∀ {s : State} (rest : List Instr), P s → P { s with pending := rest })
    {s t : State} (h : Machine.step s = .next t) (hs : P s) : P t := by
  rcases Runs.step s h with rfl | ⟨rest, run⟩
  · exact hs
  · exact run.keeps step links (queue rest hs)

end Sys2Proof.Machine
end

section
/-! A commit that takes effect (R12, R13): the Plan Unit's own part and the zones created afresh, and then work,
by which no station but one that the commit disables ends its swing. -/

namespace Sys2Proof.Machine

open Sys2Proof.Safety

/-- The stations that the staged plan disables. -/
def State.disabledByStaged (s : State) : List Station :=
  Station.all.filter fun n => (s.station n).enabled && !(s.plan.staged.stations.get n).enabled

/-- The state from which a commit is work: the plan replaced, the disabled stations' contexts and entries reset,
and the records of the changed zones created afresh or discarded. -/
def State.committedZones (s : State) : State :=
  (Zone.all.filter s.zoneChanged).foldl State.recreateZone
    (s.disabledByStaged.foldl State.commitStation s.replaceLive)

section Work

variable {x : Set Station} {s₀ s : State} (h : Work x s₀ s)
include h

theorem Work.resetVane {n : Station} (mem : n ∈ x) : Work x s₀ (s.setVane n .reset) :=
  h.setVane ⟨nofun, .inl mem, .inr ⟨rfl, .inl mem⟩,
    fun _ => VaneCtx.lineSound_of_off rfl (by simp [VaneCtx.reset])⟩

theorem Work.resetVanes {ns : List Station} (mem : ∀ n ∈ ns, n ∈ x) :
    Work x s₀ (ns.foldl (fun s n => s.setVane n .reset) s) := by
  induction ns generalizing s with
  | nil => exact h
  | cons n ns ih => exact ih (h.resetVane (mem n (by simp))) fun m hm => mem m (by simp [hm])

theorem Work.commitBookings : Work x s₀ s.commitBookings :=
  h.overBookings (fun b h => .ite (h.endBooking b _) h) _

theorem Work.commitWind (disabled enabled : List Station) (k : Nat) :
    Work x s₀ (s.commitWind disabled enabled k) := by
  unfold State.commitWind
  extract_lets blanked
  have blankedWork : Work x s₀ blanked :=
    h.foldl (f := fun s n => s.setWind n .reset) (fun _ h => h.setWind) _
  exact .ite (blankedWork.foldl (fun n h => h.changeStage n _ _) _) blankedWork

theorem Work.commitBoth (disabled enabled : List Station) (k : Nat) :
    Work x s₀ (s.commitBoth disabled enabled k) :=
  .ite (h.commitBookings.commitWind disabled enabled k)
    (h.commitWind disabled enabled k).commitBookings

theorem Work.commitSpeed (disabled : List Station) (n : Station) :
    Work x s₀ (State.commitSpeed disabled s n) := by
  unfold State.commitSpeed
  split
  · exact (h.setVWind n (.inl rfl)).move (.still _ n)
  · split
    case isTrue slower => exact h.setVWind n (.inr ⟨slower.2, le_max_right _ _⟩)
    case isFalse => exact h

theorem Work.commitLimits (disabled : List Station) : Work x s₀ (s.commitLimits disabled) :=
  (h.foldl (f := State.commitSpeed disabled) (fun n h => h.commitSpeed disabled n)
    Station.all).foldl (f := State.recompute) (fun n h => h.recompute n) _

theorem Work.commitVane (n : Station) : Work x s₀ (s.commitVane n) := by
  unfold State.commitVane
  extract_lets judged c
  have judgedWork : Work x s₀ judged := (h.judgeSequence n).judgeClear n
  exact .ite (judgedWork.setVane (c := { c with vc := false }) (.of_eq rfl rfl (.inr rfl)))
    judgedWork

theorem Work.commitShutdown {disabled : List Station} (mem : ∀ n ∈ disabled, n ∈ x) (k : Nat) :
    Work x s₀ (s.commitShutdown disabled k) :=
  (h.resetVanes mem).foldl (f := State.commitVane) (fun n h => h.commitVane n) _

theorem Work.commitContexts (disabled : List Station) :
    Work x s₀ (Station.all.foldl State.reevalConflict
      (disabled.foldl (fun s n => s.setArb n .reset) s)) :=
  (h.foldl (f := fun s n => s.setArb n .reset) (fun _ h => h.setArb) disabled).foldl
    (f := State.reevalConflict) (fun n h => h.reevalConflict n) Station.all

end Work

/-- The stations that the staged plan enables. -/
def State.enabledByStaged (s : State) : List Station :=
  Station.all.filter fun n => !(s.station n).enabled && (s.plan.staged.stations.get n).enabled

/-- The state when the Limit Unit is told of a commit. -/
def State.committedStages (s : State) (k : Nat) : State :=
  (Station.all.foldl State.reevalConflict (s.disabledByStaged.foldl (fun s n => s.setArb n .reset)
    s.committedZones)).commitBoth s.disabledByStaged s.enabledByStaged k

theorem State.commitEffect_eq (s : State) (k : Nat) :
    s.commitEffect k = Station.all.foldl State.reevalPermit
      (((s.committedStages k).commitLimits s.disabledByStaged).commitShutdown
        s.disabledByStaged k) := rfl

/-- What comes before the telling of the Limit Unit is work. -/
theorem Work.committedStages {x : Set Station} (s : State) (k : Nat) :
    Work x s.committedZones (s.committedStages k) :=
  ((Work.refl s.committedZones).commitContexts s.disabledByStaged).commitBoth _ _ k

/-- What comes after the telling of the Limit Unit is work. -/
theorem Work.committedShutdown (s : State) (k : Nat) :
    Work {n | n ∈ s.disabledByStaged} ((s.committedStages k).commitLimits s.disabledByStaged)
      (s.commitEffect k) := by
  rw [State.commitEffect_eq]
  exact ((Work.refl _).commitShutdown (fun n mem => mem) k).foldl (f := State.reevalPermit)
    (fun n h => h.reevalPermit n) Station.all

theorem State.commitEffect_of_committedZones (s : State) (k : Nat) :
    Work {n | n ∈ s.disabledByStaged} s.committedZones (s.commitEffect k) := by
  exact ((Work.committedStages s k).commitLimits _).trans (.committedShutdown s k)

/-! ### What the zones and the stations are after the first part -/

theorem State.replaceLive_live (s : State) : s.replaceLive.plan.live = s.plan.staged := rfl

end Sys2Proof.Machine
end

section
/-! What no operation writes: work keeps the plan, the next booking number, the link of the request being handled and
the queue, and every command keeps the queue. -/

namespace Sys2Proof.Machine

open Sys2Proof.Safety

/-- Work writes no plan, no next number, no reception state and no queue. -/
structure Kept (s t : State) : Prop where
  plan : t.plan = s.plan
  nextNumber : t.nextNumber = s.nextNumber
  pending : t.pending = s.pending

theorem Kept.of_holderWork {s t : State} (h : holderWork s t) : Kept s t := by
  obtain ⟨written, -⟩ := h
  rw [written]
  exact ⟨rfl, rfl, rfl⟩

theorem Kept.of_zoneWork {s t : State} (h : zoneWork s t) : Kept s t := by
  obtain ⟨written, -⟩ := h
  rw [written]
  exact ⟨rfl, rfl, rfl⟩

theorem Move.kept {x : Set Station} {s t : State} (h : Move x s t) : Kept s t := by
  cases h with
  | quiet frame => rw [frame]; exact ⟨rfl, rfl, rfl⟩
  | raise l f => exact .of_holderWork (holderWork_raise s l f)
  | permit n => exact .of_holderWork (holderWork_reevalPermit s n)
  | limits n => exact .of_holderWork (holderWork_recompute s n)
  | ctx | speed | still | vanes | entry | zone | bookings => exact ⟨rfl, rfl, rfl⟩
  | @give z d k entry u record free opened told =>
    obtain ⟨plan, number, pending⟩ := Kept.of_holderWork (holderWork_holderTold u z)
    have before : Kept s u := by rw [told.frame]; exact ⟨rfl, rfl, rfl⟩
    exact ⟨plan.trans before.plan, number.trans before.nextNumber, pending.trans before.pending⟩

theorem Work.kept {x : Set Station} {s t : State} (h : Work x s t) : Kept s t :=
  h.keeps (P := Kept s) (fun move ih => ⟨move.kept.plan.trans ih.plan,
    move.kept.nextNumber.trans ih.nextNumber, move.kept.pending.trans ih.pending⟩) ⟨rfl, rfl, rfl⟩

/-! ### The first part of a commit -/

/-- The first part of a commit writes the plan and what the plan's settings hand on, the disabled stations' contexts
and entries, and the changed zones' records. -/
structure CommitFrame (s t : State) : Prop where
  frame : t = { s with plan := t.plan, ctx := t.ctx, zones := t.zones, siteDerate := t.siteDerate,
                       clock := t.clock, alarms := t.alarms, attn := t.attn }
  mp : ∀ n, (t.ctx.get n).mp = (s.ctx.get n).mp

theorem CommitFrame.refl (s : State) : CommitFrame s s := ⟨rfl, fun _ => rfl⟩

theorem CommitFrame.trans {s t u : State} (h : CommitFrame s t) (k : CommitFrame t u) :
    CommitFrame s u := by
  refine ⟨?_, fun n => (k.mp n).trans (h.mp n)⟩
  calc u = { t with plan := u.plan, ctx := u.ctx, zones := u.zones, siteDerate := u.siteDerate,
                    clock := u.clock, alarms := u.alarms, attn := u.attn } := k.frame
    _ = { s with plan := u.plan, ctx := u.ctx, zones := u.zones, siteDerate := u.siteDerate,
                 clock := u.clock, alarms := u.alarms, attn := u.attn } := by rw [h.frame]

theorem CommitFrame.commitStation (s : State) (n : Station) :
    CommitFrame s (s.commitStation n) := by
  refine ⟨rfl, fun m => ?_⟩
  by_cases e : m = n
  · subst e
    simp [State.commitStation, State.clearStationEntries, State.setEntry, StationCtx.disable]
  · simp [State.commitStation, State.clearStationEntries, State.setEntry, e]

theorem CommitFrame.committedZones (s : State) : CommitFrame s s.committedZones :=
  (((⟨rfl, fun _ => rfl⟩ : CommitFrame s s.replaceLive).trans
    (foldl_related .refl .trans .commitStation s.replaceLive s.disabledByStaged)).trans
    (foldl_related .refl .trans (fun _ _ => ⟨rfl, fun _ => rfl⟩) _ _))

/-! ### The queue, and between steps -/

theorem Act.pending {b : Bool} {s t : State} (h : Act b s t) : t.pending = s.pending := by
  cases h with
  | work h => exact h.kept.pending
  | apply v h => exact h.kept.pending
  | swing v => exact (Kept.of_zoneWork (zoneWork_sweepAdd s v)).pending
  | release v =>
    have begun := Kept.of_holderWork (holderWork_alarmBegins
      (s.setVane v { s.vane.get v with unsafeLatched := true }) (.unsafeVane v))
    exact (Kept.of_zoneWork (zoneWork_sweepAdd _ v)).pending.trans begun.pending
  | plan | enter | warm | cold => rfl
  | commit k =>
    rw [(s.commitEffect_of_committedZones k).kept.pending, (CommitFrame.committedZones s).frame]
  | enrol code =>
    unfold State.answerEnrol
    split <;> rfl

/-- Outside of a request no frame is held back. -/
def State.Idle (s : State) : Prop := s.handling = none ∧ s.held = []

theorem betweenSteps_iff {s : State} : betweenSteps s = true ↔ s.Idle := by
  simp [betweenSteps, State.Idle]

theorem Talks.idle {s t : State} (h : Talks s t) (hs : s.Idle) : t.Idle := by
  obtain ⟨none, empty⟩ := hs
  obtain ⟨more, held, no⟩ := h.held
  exact ⟨h.handling.trans none, by rw [held, empty, no none, List.append_nil]⟩

theorem Talks.sweepAdd (s : State) (v : Station) : Talks s (s.sweepAdd v) := by
  refine Talks.foldl (fun s z => ?_) s _
  unfold State.modZone
  split <;> exact .of_eq

/-- An act that does not write the links as no frame does raises frames and does nothing else to them. -/
theorem Act.talks {s t : State} (h : Act false s t) : Talks s t := by
  cases h with
  | work h => exact h.talks
  | apply v h => exact h.talks
  | swing v => exact (Talks.sweepAdd s v).trans .of_eq
  | release v =>
    exact ((Talks.of_eq (t := s.setVane v _)).trans (.alarmBegins _ _)).trans
      ((Talks.sweepAdd _ v).trans .of_eq)
  | plan | enter | warm => exact .of_eq
  | commit k =>
    refine Talks.trans ?_ (s.commitEffect_of_committedZones k).talks
    rw [(CommitFrame.committedZones s).frame]
    exact .of_eq
  | enrol code links => cases links
  | cold links => cases links

theorem Acts.talks {s t : State} (h : Acts false s t) : Talks s t :=
  h.keeps (P := Talks s) (fun act ih => ih.trans act.talks) (.refl s)

theorem Act.idle {s t : State} (h : Act true s t) (hs : s.Idle) : t.Idle := by
  cases h with
  | work h => exact h.talks.idle hs
  | apply v h => exact h.talks.idle hs
  | swing v c => exact (Act.talks (.swing s v c)).idle hs
  | release v c => exact (Act.talks (.release s v c)).idle hs
  | plan | enter | warm => exact hs
  | commit k c => exact (Act.talks (.commit s k c)).idle hs
  | enrol code =>
    unfold State.answerEnrol
    split <;> exact hs
  | cold => exact ⟨rfl, rfl⟩

theorem Stretch.idle {s t : State} (h : Stretch s t) (hs : s.Idle) : t.Idle := by
  cases h with
  | acts h => exact h.keeps (fun act => act.idle) hs
  | request => exact ⟨rfl, rfl⟩
  | rx => exact hs
  | tx => exact hs

theorem Runs.idle {s t : State} (h : Runs s t) (hs : s.Idle) : t.Idle := by
  induction h with
  | refl => exact hs
  | tail _ stretch ih => exact stretch.idle ih

theorem Runs.pending {s t : State} (h : Runs s t) : t.pending = s.pending :=
  h.keeps (P := fun t => t.pending = s.pending) (fun act ih => act.pending.trans ih)
    (fun _ _ _ _ ih => ih) rfl

/-- Settles O2: every command is a run of acts (`Runs.exec`), no act writes the queue, and a request that has been
answered holds no frame back. -/
theorem everyCommandGoesOnAndKeepsTheQueue : Obligations.EveryCommandGoesOnAndKeepsTheQueue := by
  unfold Obligations.EveryCommandGoesOnAndKeepsTheQueue
  intro c s
  obtain ⟨t, next, run⟩ := Runs.exec s c
  refine ⟨t, next, run.pending, ?_⟩
  rw [betweenSteps_iff, betweenSteps_iff]
  exact run.idle

end Sys2Proof.Machine
end

section
/-! The vane contexts under the telling of a change of holders, and the invariants on wait lists, the vane-clear
lines, the limits and the booking table. -/

namespace Sys2Proof.Machine

open Sys2Proof.Safety

/-! ### Frames and alarms -/

/-- Alarms and frames alone are written. -/
def AlarmFrame (s t : State) : Prop :=
  t = { s with alarms := t.alarms, attn := t.attn, held := t.held, tx := t.tx }

theorem AlarmFrame.refl (s : State) : AlarmFrame s s := rfl

theorem AlarmFrame.trans {s t u : State} (h : AlarmFrame s t) (k : AlarmFrame t u) :
    AlarmFrame s u := by
  calc u = { t with alarms := u.alarms, attn := u.attn, held := u.held, tx := u.tx } := k
    _ = { s with alarms := u.alarms, attn := u.attn, held := u.held, tx := u.tx } := by rw [h]

theorem AlarmFrame.raise (s : State) (l : Link) (f : Frame) : AlarmFrame s (s.raise l f) := by
  rcases s.raise_cases l f with ⟨-, e⟩ | ⟨-, e⟩ <;> rw [e] <;> rfl

theorem AlarmFrame.notify (s : State) (n : Station) (x : Notice) :
    AlarmFrame s (s.notify n x) := by
  unfold State.notify
  split
  · rfl
  · exact .raise s _ _

theorem AlarmFrame.alarmBegins (s : State) (i : AlarmId) : AlarmFrame s (s.alarmBegins i) := by
  unfold State.alarmBegins
  extract_lets e t
  have entered : AlarmFrame s t := rfl
  split
  · exact entered.trans (.raise t _ _)
  · exact entered

theorem AlarmFrame.alarmEnds (s : State) (i : AlarmId) : AlarmFrame s (s.alarmEnds i) := rfl

theorem AlarmFrame.alarmIs (s : State) (i : AlarmId) (b : Bool) :
    AlarmFrame s (s.alarmIs i b) := by
  unfold State.alarmIs
  split
  · exact .alarmBegins s i
  · exact .alarmEnds s i

theorem AlarmFrame.vane {s t : State} (h : AlarmFrame s t) : t.vane = s.vane := by rw [h]

/-! ### Alarm entries -/

@[simp] theorem State.raise_alarms (s : State) (l : Link) (f : Frame) :
    (s.raise l f).alarms = s.alarms := by
  rcases s.raise_cases l f with ⟨-, e⟩ | ⟨-, e⟩ <;> rw [e] <;> rfl

@[simp] theorem State.notify_alarms (s : State) (n : Station) (x : Notice) :
    (s.notify n x).alarms = s.alarms := by
  unfold State.notify
  split
  · rfl
  · exact s.raise_alarms _ _

theorem AlarmTable.get_set (t : AlarmTable) (i j : AlarmId) (e : Entry) :
    (t.set i e).get j = if j = i then e else t.get j := by
  by_cases same : j = i
  · subst same; simp
  · simp [same]

theorem State.alarmBegins_get (s : State) (i j : AlarmId) :
    (s.alarmBegins i).alarms.get j =
      if j = i then (s.alarms.get i).begins else s.alarms.get j := by
  unfold State.alarmBegins
  extract_lets e t
  have entered : t.alarms.get j = if j = i then (s.alarms.get i).begins else s.alarms.get j :=
    AlarmTable.get_set _ i j _
  split
  · rwa [State.raise_alarms]
  · exact entered

theorem State.alarmEnds_get (s : State) (i j : AlarmId) :
    (s.alarmEnds i).alarms.get j =
      if j = i then (s.alarms.get i).ends i.kind.latchClass else s.alarms.get j :=
  AlarmTable.get_set _ i j _

theorem State.alarmIs_get (s : State) (i j : AlarmId) (b : Bool) :
    (s.alarmIs i b).alarms.get j = if j = i then
      (if b then (s.alarms.get i).begins else (s.alarms.get i).ends i.kind.latchClass)
      else s.alarms.get j := by
  cases b with
  | true => exact s.alarmBegins_get i j
  | false => exact s.alarmEnds_get i j

theorem State.setOverdue_get_ne (s : State) (v : Station) (b : Bool) {j : AlarmId}
    (ne : j ≠ .clearanceOverdue v) : (s.setOverdue v b).alarms.get j = s.alarms.get j := by
  unfold State.setOverdue
  extract_lets c
  split
  · rfl
  · rw [State.alarmIs_get, if_neg ne]
    rfl

theorem State.judgeClear_get_ne (s : State) (v : Station) {j : AlarmId}
    (ne : j ≠ .clearanceOverdue v) : (s.judgeClear v).alarms.get j = s.alarms.get j := by
  unfold State.judgeClear
  extract_lets c
  split
  · rw [State.setOverdue_get_ne _ v _ ne]
    rfl
  · rfl

theorem State.judgeSwingLine_alarms (s : State) (v : Station) (z : Zone) :
    (s.judgeSwingLine v z).alarms = s.alarms := by
  unfold State.judgeSwingLine
  extract_lets c
  split <;> rfl

/-- The telling of a change of holder ends CLEARANCE_OVERDUE conditions alone. -/
theorem State.holderTold_get_ne (s : State) (z : Zone) {j : AlarmId}
    (ne : ∀ v, j ≠ .clearanceOverdue v) : (s.holderTold z).alarms.get j = s.alarms.get j :=
  foldl_related (R := fun s t : State => t.alarms.get j = s.alarms.get j) (fun _ => rfl)
    (fun h k => k.trans h)
    (fun s m => by rw [State.judgeSwingLine_alarms, State.judgeClear_get_ne s m (ne m)])
    s (s.members z)

/-! ### The vane contexts -/

theorem State.setOverdue_vane (s : State) (v n : Station) (b : Bool) :
    (s.setOverdue v b).vane.get n =
      if n = v then { s.vane.get v with overdue := b } else s.vane.get n := by
  unfold State.setOverdue
  extract_lets c
  split
  case isTrue same =>
    split
    case isTrue e => subst e same; rfl
    case isFalse => rfl
  case isFalse =>
    rw [(AlarmFrame.alarmIs _ _ b).vane, State.setVane_vane, PerStation.get_set]

theorem State.judgeClear_vane (s : State) (v n : Station) :
    (s.judgeClear v).vane.get n =
      if n = v ∧ (s.vane.get v).vane = .clearing ∧ s.clearCondition v = true then
        { s.vane.get v with vane := .clear, timer := .stopped, vc := true, overdue := false }
      else s.vane.get n := by
  unfold State.judgeClear
  extract_lets c
  split
  case isTrue judged =>
    rw [State.setOverdue_vane]
    by_cases e : n = v
    · simp [e, judged, c]
    · simp [e]
  case isFalse judged =>
    rw [if_neg fun h => judged h.2]

theorem State.judgeSwingLine_vane (s : State) (v n : Station) (z : Zone) :
    (s.judgeSwingLine v z).vane.get n =
      if n = v ∧ (s.vane.get v).vane = .vaning ∧ s.heldByOther z v = true then
        { s.vane.get v with vc := false } else s.vane.get n := by
  unfold State.judgeSwingLine
  extract_lets c
  split
  case isTrue judged =>
    by_cases e : n = v
    · simp [e, judged, c]
    · simp [e]
  case isFalse judged => rw [if_neg fun h => judged h.2]

/-! ### Zones held by others -/

theorem State.memberZones_of_live {s t : State} (live : t.plan.live = s.plan.live) (n : Station) :
    t.memberZones n = s.memberZones n := by
  simp only [State.memberZones, State.isMember, State.member, State.zone, live]

theorem State.zonesClearFor_iff {s : State} {n : Station} :
    s.zonesClearFor n = true ↔
      ∀ z ∈ s.memberZones n, ∀ h, s.holder z = some h → h = n := by
  unfold State.zonesClearFor State.heldByOther
  rw [List.all_eq_true]
  refine forall_congr' fun z => imp_congr_right fun _ => ?_
  cases s.holder z <;> simp

theorem State.mem_memberZones {s : State} {n : Station} {z : Zone} :
    z ∈ s.memberZones n ↔ (s.zone z).enabled = true ∧ s.isMember z n = true := by
  simp [State.memberZones, Zone.mem_all]

theorem State.mem_members {s : State} {n : Station} {z : Zone} :
    n ∈ s.members z ↔ s.isMember z n = true := by
  simp only [State.members, State.isMember, State.member, memberOf, List.mem_map,
    Option.isSome_iff_exists]
  constructor
  · rintro ⟨m, mem, rfl⟩
    exact Option.isSome_iff_exists.mp (List.find?_isSome.mpr ⟨m, mem, by simp⟩)
  · rintro ⟨m, found⟩
    exact ⟨m, List.mem_of_find?_eq_some found, by simpa using List.find?_some found⟩

theorem State.holder_of_get {s t : State} {z : Zone} (h : t.zones.get z = s.zones.get z) :
    t.holder z = s.holder z := by simp [State.holder, State.holding, h]

/-- Fewer zones are held, by the same stations. -/
theorem State.zonesClearFor_mono {s t : State} (live : t.plan.live = s.plan.live)
    (holder : ∀ z, t.holder z = s.holder z ∨ t.holder z = none) {n : Station}
    (h : s.zonesClearFor n = true) : t.zonesClearFor n = true := by
  rw [State.zonesClearFor_iff] at *
  intro z mem k hold
  rw [State.memberZones_of_live live] at mem
  rcases holder z with same | free
  · exact h z mem k (same ▸ hold)
  · rw [free] at hold; cases hold

/-- What says of a vane line holds with fewer zones held. -/
theorem VaneCtx.LineSound.mono {c : VaneCtx} {p q : Prop} (h : c.LineSound p) (k : p → q) :
    c.LineSound q := by
  obtain ⟨named, clear, vaning⟩ := h
  exact ⟨named, fun e => k (clear e), fun e on => k (vaning e on)⟩

/-! ### The vane-clear line (R134, R136) -/

/-- The vane-clear line of a station says what R134 and R136 have it say. -/
def State.LineSound (s : State) (n : Station) : Prop :=
  (s.vane.get n).LineSound (s.zonesClearFor n = true)

theorem State.LineSound.of_vane {s t : State} {n : Station} (live : t.plan.live = s.plan.live)
    (vane : t.vane.get n = s.vane.get n)
    (holder : ∀ z, t.holder z = s.holder z ∨ t.holder z = none) (h : s.LineSound n) :
    t.LineSound n := by
  unfold State.LineSound
  rw [vane]
  exact h.mono (State.zonesClearFor_mono live holder)

theorem holders_of_holderWork {s t : State} (h : holderWork s t) (z : Zone) :
    t.holder z = s.holder z ∨ t.holder z = none :=
  .inl (by simp [State.holder, State.holding, zones_of_holderWork h])

theorem State.LineSound.judgeClear {s : State} {n : Station} (h : s.LineSound n) (v : Station) :
    (s.judgeClear v).LineSound n := by
  have work := holderWork_judgeClear s v
  have free (f : s.zonesClearFor n = true) :=
    State.zonesClearFor_mono (congrArg (·.live) (Kept.of_holderWork work).plan)
      (holders_of_holderWork work) f
  unfold State.LineSound
  rw [State.judgeClear_vane]
  split
  case isTrue judged =>
    obtain ⟨rfl, -, condition⟩ := judged
    exact VaneCtx.lineSound_of_free (free (Bool.and_eq_true_iff.mp condition).2) rfl
  case isFalse => exact VaneCtx.LineSound.mono h free

theorem State.LineSound.judgeSwingLine {s : State} {n : Station} (h : s.LineSound n)
    (v : Station) (z : Zone) : (s.judgeSwingLine v z).LineSound n := by
  have work := holderWork_judgeSwingLine s v z
  have free (f : s.zonesClearFor n = true) :=
    State.zonesClearFor_mono (congrArg (·.live) (Kept.of_holderWork work).plan)
      (holders_of_holderWork work) f
  unfold State.LineSound
  rw [State.judgeSwingLine_vane]
  split
  case isTrue judged =>
    obtain ⟨rfl, vaning, -⟩ := judged
    exact VaneCtx.lineSound_of_off rfl (by simp [vaning])
  case isFalse => exact VaneCtx.LineSound.mono h free

/-- A station whose zone another has just been granted: it is neither CLEARING nor CLEAR, and its line stands only
for a swing. -/
structure State.Swinging (s : State) (n : Station) (z : Zone) : Prop where
  held : s.heldByOther z n = true
  clearing : (s.vane.get n).vane ≠ .clearing
  clear : (s.vane.get n).vane ≠ .clear
  line : (s.vane.get n).vc = true → (s.vane.get n).vane = .vaning

/-- The telling of the station itself withdraws its line. -/
theorem State.Swinging.told {s : State} {n : Station} {z : Zone} (h : s.Swinging n z) :
    ((s.judgeClear n).judgeSwingLine n z).LineSound n := by
  have same : s.judgeClear n = s := by
    unfold State.judgeClear
    rw [if_neg fun judged => h.clearing judged.1]
  unfold State.LineSound
  rw [same, State.judgeSwingLine_vane]
  split
  · exact VaneCtx.lineSound_of_off rfl h.clear
  case isFalse judged =>
    refine VaneCtx.lineSound_of_off ?_ h.clear
    rw [← Bool.not_eq_true]
    exact fun on => judged ⟨rfl, h.line on, h.held⟩

theorem State.heldByOther_of_holder {s t : State} {z : Zone} (h : t.holder z = s.holder z)
    (n : Station) : t.heldByOther z n = s.heldByOther z n := by simp [State.heldByOther, h]

/-- The telling of another station leaves it so. -/
theorem State.Swinging.other {s : State} {n m : Station} {z : Zone} (h : s.Swinging n z)
    (ne : m ≠ n) : ((s.judgeClear m).judgeSwingLine m z).Swinging n z := by
  have work := holderWork_trans (holderWork_judgeClear s m)
    (holderWork_judgeSwingLine (s.judgeClear m) m z)
  have vane : ((s.judgeClear m).judgeSwingLine m z).vane.get n = s.vane.get n := by
    rw [State.judgeSwingLine_vane, if_neg fun e => ne e.1.symm, State.judgeClear_vane,
      if_neg fun e => ne e.1.symm]
  have holder := State.holder_of_get (congrArg (·.get z) (zones_of_holderWork work))
  exact ⟨by rw [State.heldByOther_of_holder holder]; exact h.held, by rw [vane]; exact h.clearing,
    by rw [vane]; exact h.clear, by rw [vane]; exact h.line⟩

/-- A change of holders is told to each member, after which every line is sound. -/
theorem State.lineSound_told {z : Zone} {n : Station} {ms : List Station} {s : State}
    (h : s.LineSound n ∨ n ∈ ms ∧ s.Swinging n z) :
    (ms.foldl (fun s m => (s.judgeClear m).judgeSwingLine m z) s).LineSound n := by
  induction ms generalizing s with
  | nil => exact h.elim id fun h => nomatch h.1
  | cons m ms ih =>
    refine ih ?_
    rcases h with sound | ⟨mem, swinging⟩
    · exact .inl ((sound.judgeClear m).judgeSwingLine m z)
    · by_cases e : m = n
      · subst e
        exact .inl swinging.told
      · refine .inr ⟨?_, swinging.other e⟩
        simpa [Ne.symm e] using mem

end Sys2Proof.Machine
end

section
/-! The invariants on wait lists, the vane-clear lines, the limits and the booking table: every act keeps them. -/

namespace Sys2Proof.Machine

open Sys2Proof.Safety

/-! ### Zone records -/

/-- A fold of edits over zones without repeats edits each of them once. -/
theorem State.foldl_modZone_get (f : Zone → ZoneDyn → ZoneDyn) {zs : List Zone} (nodup : zs.Nodup)
    (s : State) (z : Zone) :
    (zs.foldl (fun s z => s.modZone z (f z)) s).zones.get z =
      if z ∈ zs then (s.zones.get z).map (f z) else s.zones.get z := by
  induction zs generalizing s with
  | nil => simp
  | cons y zs ih =>
    obtain ⟨new, nodup⟩ := List.nodup_cons.mp nodup
    rw [List.foldl_cons, ih nodup]
    by_cases e : z = y
    · subst e
      simp [new, State.modZone_get]
    · simp [e, State.modZone_get]

theorem State.nodup_memberZones (s : State) (n : Station) : (s.memberZones n).Nodup :=
  Zone.nodup_all.filter _

theorem State.sweepAdd_get (s : State) (v : Station) (z : Zone) :
    (s.sweepAdd v).zones.get z = if z ∈ s.memberZones v then
      (s.zones.get z).map (fun d => { d with swept := d.swept.set v true })
      else s.zones.get z :=
  State.foldl_modZone_get (fun _ d => { d with swept := d.swept.set v true })
    (s.nodup_memberZones v) s z

/-- The zones keep their holders and wait lists while a jib sweeps them. -/
theorem State.sweepAdd_claims {s : State} {v : Station} {z : Zone} {e : ZoneDyn}
    (h : (s.sweepAdd v).zones.get z = some e) :
    ∃ d, s.zones.get z = some d ∧ d.hold = e.hold ∧ d.waiting = e.waiting := by
  rw [State.sweepAdd_get] at h
  split at h
  · obtain ⟨d, record, rfl⟩ := Option.map_eq_some_iff.mp h
    exact ⟨d, record, rfl, rfl⟩
  · exact ⟨e, h, rfl, rfl⟩

theorem State.sweepAdd_frame (s : State) (v : Station) :
    s.sweepAdd v = { s with zones := (s.sweepAdd v).zones } := by
  refine foldl_related (R := fun s t : State => t = { s with zones := t.zones })
    (fun _ => rfl) (fun {s t u} h k => ?_) (fun s z => s.modZone_frame z _) s (s.memberZones v)
  calc u = { t with zones := u.zones } := k
    _ = { s with zones := u.zones } := by rw [h]

theorem State.recreateZone_get (s : State) (z y : Zone) :
    (s.recreateZone z).zones.get y =
      if y = z then (if (s.zone z).enabled then some .fresh else none) else s.zones.get y := by
  by_cases e : y = z
  · subst e; simp [State.recreateZone]
  · simp [State.recreateZone, e]

/-- Zones are created afresh as the live plan enables them. -/
theorem State.foldl_recreateZone_get (zs : List Zone) (s : State) (z : Zone) :
    (zs.foldl State.recreateZone s).zones.get z =
      if z ∈ zs then (if (s.zone z).enabled then some .fresh else none) else s.zones.get z := by
  induction zs generalizing s with
  | nil => simp
  | cons y zs ih =>
    rw [List.foldl_cons, ih, State.recreateZone_get]
    have live : (s.recreateZone y).zone z = s.zone z := rfl
    by_cases e : z = y
    · subst e; simp [live]
    · simp [e, live]

theorem CommitFrame.plan_commitStation (s : State) (n : Station) :
    (s.commitStation n).plan = s.plan ∧ (s.commitStation n).zones = s.zones := ⟨rfl, rfl⟩

theorem State.foldl_commitStation_frame (ns : List Station) (s : State) :
    (ns.foldl State.commitStation s).plan = s.plan ∧
      (ns.foldl State.commitStation s).zones = s.zones :=
  foldl_related (R := fun s t : State => t.plan = s.plan ∧ t.zones = s.zones)
    (fun _ => ⟨rfl, rfl⟩) (fun h k => ⟨k.1.trans h.1, k.2.trans h.2⟩)
    CommitFrame.plan_commitStation s ns

theorem State.committedZones_plan (s : State) : s.committedZones.plan = s.replaceLive.plan := by
  have recreated := foldl_related (R := fun s t : State => t.plan = s.plan) (fun _ => rfl)
    (fun h k => k.trans h) (f := State.recreateZone) (fun _ _ => rfl)
    (s.disabledByStaged.foldl State.commitStation s.replaceLive) (Zone.all.filter s.zoneChanged)
  exact recreated.trans (State.foldl_commitStation_frame s.disabledByStaged s.replaceLive).1

theorem State.committedZones_live (s : State) : s.committedZones.plan.live = s.plan.staged := by
  rw [s.committedZones_plan]
  rfl

theorem State.committedZones_zone (s : State) (z : Zone) :
    s.committedZones.zone z = s.plan.staged.zones.get z := by
  rw [State.zone, s.committedZones_live]

/-- A commit creates the record of a changed zone afresh, or discards it (R13, R69). -/
theorem State.committedZones_get (s : State) (z : Zone) :
    s.committedZones.zones.get z = if s.zoneChanged z then
      (if (s.plan.staged.zones.get z).enabled then some .fresh else none)
      else s.zones.get z := by
  obtain ⟨plan, zones⟩ := State.foldl_commitStation_frame s.disabledByStaged s.replaceLive
  rw [State.committedZones, State.foldl_recreateZone_get, State.zone, plan, zones]
  simp only [List.mem_filter, Zone.mem_all, true_and]
  rfl

theorem State.zone_of_not_changed {s : State} {z : Zone} (h : s.zoneChanged z = false) :
    s.plan.staged.zones.get z = s.zone z := by
  simpa [State.zoneChanged, State.zone] using h

/-! ### Wait lists -/

theorem ZoneDyn.listSound_give {d : ZoneDyn} (h : d.listSound) (k : Holding) (entry : Timer) :
    (d.give k entry).listSound := by
  obtain ⟨nodup, -⟩ := h
  refine ⟨nodup.erase _, fun l hold => ?_⟩
  obtain rfl : k = l := Option.some.inj hold
  exact nodup.not_mem_erase

theorem ZoneDyn.listSound_fresh : ZoneDyn.fresh.listSound := ⟨.nil, nofun⟩

/-- Every wait list is in its form. -/
def State.ListsSound (s : State) : Prop := ∀ z d, s.zones.get z = some d → d.listSound

theorem Move.listsSound {x : Set Station} {s t : State} (h : Move x s t) (hs : s.ListsSound) :
    t.ListsSound := by
  intro z e record
  rcases h.zones_get z with same | ⟨d, e', old, new, written⟩
  · exact hs z e (same ▸ record)
  · obtain rfl : e' = e := Option.some.inj (new.symm.trans record)
    rcases written with edited | ⟨k, entry, rfl, -, -⟩
    · exact edited.list (hs z d old)
    · exact ZoneDyn.listSound_give (hs z d old) k entry

theorem Work.listsSound {x : Set Station} {s t : State} (h : Work x s t) (hs : s.ListsSound) :
    t.ListsSound := h.keeps (fun move => move.listsSound) hs

theorem State.ListsSound.sweepAdd {s : State} (hs : s.ListsSound) (v : Station) :
    (s.sweepAdd v).ListsSound := by
  intro z e record
  obtain ⟨d, old, hold, waiting⟩ := State.sweepAdd_claims record
  have sound := hs z d old
  unfold ZoneDyn.listSound at *
  rwa [hold, waiting] at sound

theorem freshZones_get (p : PlanImage) (z : Zone) :
    (freshZones p).get z = if (p.zones.get z).enabled then some .fresh else none := by
  simp [freshZones]

theorem listSound_of_freshZones {p : PlanImage} {z : Zone} {d : ZoneDyn}
    (h : (freshZones p).get z = some d) : d.listSound := by
  rw [freshZones_get] at h
  split at h
  · cases h; exact ZoneDyn.listSound_fresh
  · cases h

theorem State.ListsSound.committedZones {s : State} (hs : s.ListsSound) :
    s.committedZones.ListsSound := by
  intro z d record
  rw [State.committedZones_get] at record
  split at record
  · split at record
    · cases record; exact ZoneDyn.listSound_fresh
    · cases record
  · exact hs z d record

theorem Act.listsSound {b : Bool} {s t : State} (h : Act b s t) (hs : s.ListsSound) :
    t.ListsSound := by
  cases h with
  | work h => exact h.listsSound hs
  | apply v h => exact h.listsSound hs
  | swing v => exact hs.sweepAdd v
  | release v =>
    have begun : ((s.setVane v { s.vane.get v with unsafeLatched := true }).alarmBegins
        (.unsafeVane v)).ListsSound := by
      unfold State.ListsSound
      rw [AlarmFrame.alarmBegins]
      exact hs
    exact begun.sweepAdd v
  | plan | enter => exact hs
  | commit k => exact (s.commitEffect_of_committedZones k).listsSound hs.committedZones
  | warm => exact fun z d => listSound_of_freshZones
  | cold => exact fun z d => listSound_of_freshZones
  | enrol code =>
    unfold State.answerEnrol
    split <;> exact hs

/-- Settles O11: every act keeps every wait list free of repeats and of the holder. -/
theorem waitListsHoldEachStationOnce : Obligations.WaitListsHoldEachStationOnce := by
  unfold Obligations.WaitListsHoldEachStationOnce
  intro s t kept step
  exact keeps_step (P := State.ListsSound) (fun act => act.listsSound) (fun _ _ _ _ h => h)
    (fun _ h => h) step fun z => waitListKept_iff.mp (kept z)

end Sys2Proof.Machine
end

section
/-! The vane-clear lines: every act keeps them to stations whose zones no other holds (R134, R136). -/

namespace Sys2Proof.Machine

open Sys2Proof.Safety

/-- Every vane-clear line is sound. -/
def State.LinesSound (s : State) : Prop := ∀ n, s.LineSound n

/-- A write of neither the plan, nor a vane context, nor a zone's holder. -/
theorem State.LinesSound.of_frame {s t : State} (h : s.LinesSound)
    (live : t.plan.live = s.plan.live := by rfl) (vane : t.vane = s.vane := by rfl)
    (zones : t.zones = s.zones := by rfl) : t.LinesSound :=
  fun n => (h n).of_vane live (by rw [vane]) fun _ => .inl (by rw [State.holder, State.holding, zones]; rfl)

theorem State.LinesSound.recompute {s : State} (h : s.LinesSound) (n : Station) :
    (s.recompute n).LinesSound := by
  obtain ⟨l, e, -⟩ := s.recompute_cases n
  rw [e]
  exact h.of_frame

theorem State.LinesSound.reevalPermit {s : State} (h : s.LinesSound) (n : Station) :
    (s.reevalPermit n).LinesSound := by
  rcases s.reevalPermit_cases n with ⟨-, e⟩ | ⟨-, e⟩ <;> rw [e]
  · exact h
  · exact State.LinesSound.recompute h.of_frame n

theorem State.LinesSound.alarms {s t : State} (h : s.LinesSound) (frame : AlarmFrame s t) :
    t.LinesSound := by
  rw [frame]
  exact h.of_frame

theorem State.setZone_holder (s : State) (z y : Zone) (d : ZoneDyn) :
    (s.setZone z (some d)).holder y =
      if y = z then d.hold.map (·.station) else s.holder y := by
  by_cases e : y = z
  · subst e; simp [State.holder, State.holding]
  · simp [State.holder, State.holding, e]

/-- A zone's record is written, with the holder it had or none. -/
theorem State.LinesSound.setZone {s : State} (h : s.LinesSound) {z : Zone} {d e : ZoneDyn}
    (record : s.zones.get z = some d)
    (holder : e.hold.map (·.station) = d.hold.map (·.station) ∨ e.hold = none) :
    (s.setZone z (some e)).LinesSound := by
  refine fun n => State.LineSound.of_vane (s := s) rfl rfl (fun y => ?_) (h n)
  rw [State.setZone_holder]
  split
  case isTrue same =>
    refine holder.imp (fun kept => ?_) fun free => by rw [free]; rfl
    rw [kept, same, State.holder, State.holding, record]
    rfl
  case isFalse => exact .inl rfl

/-- A zone that is granted where it is not closed: the grant is told, and the lines of the other members that swing
are withdrawn (R46, R136). -/
theorem State.LinesSound.give {s t : State} (h : s.LinesSound) {z : Zone} {d : ZoneDyn}
    {k : Holding} {entry : Timer} (opened : s.closedTo z k.station = false)
    (told : Between (s.setZone z (some (d.give k entry))) t) : (t.holderTold z).LinesSound := by
  have holder (y : Zone) : t.holder y = if y = z then some k.station else s.holder y := by
    rw [State.holder_of_get (congrArg (·.get y) told.zones), State.setZone_holder]
    rfl
  have plan : t.plan = s.plan := by rw [told.frame]; rfl
  have vane : t.vane = s.vane := by rw [told.frame]; rfl
  have members : t.members z = s.members z := by simp [State.members, State.zone, plan]
  have closed : ∀ m ∈ s.members z, m ≠ k.station → (s.vane.get m).vane.closes = false := by
    have noMember := (Bool.or_eq_false_iff.mp opened).2
    simpa [List.any_eq_false] using noMember
  refine fun n => State.lineSound_told ?_
  by_cases other : n ∈ s.members z ∧ n ≠ k.station
  · obtain ⟨member, ne⟩ := other
    have still := closed n member ne
    refine .inr ⟨members ▸ member, ?_, ?_, ?_, ?_⟩
    · simp [State.heldByOther, holder, Ne.symm ne]
    · rw [vane]; intro e; simp [e, Vane.closes] at still
    · rw [vane]; intro e; simp [e, Vane.closes] at still
    · rw [vane]
      refine fun on => ((h n).1 on).resolve_left fun e => ?_
      simp [e, Vane.closes] at still
  · refine .inl ?_
    unfold State.LineSound
    rw [vane]
    refine (h n).mono fun free => ?_
    rw [State.zonesClearFor_iff] at *
    intro y mem m hold
    rw [State.memberZones_of_live (congrArg (·.live) plan)] at mem
    rw [holder] at hold
    split at hold
    case isTrue e =>
      obtain rfl : k.station = m := Option.some.inj hold
      rw [e, State.mem_memberZones] at mem
      exact (Classical.byContradiction fun ne =>
        other ⟨State.mem_members.mpr mem.2, Ne.symm ne⟩)
    case isFalse => exact free y mem m hold

theorem Move.linesSound {x : Set Station} {s t : State} (h : Move x s t) (hs : s.LinesSound) :
    t.LinesSound := by
  cases h with
  | quiet frame => rw [frame]; exact hs.of_frame
  | raise l f => exact hs.alarms (.raise s l f)
  | permit n => exact hs.reevalPermit n
  | limits n => exact hs.recompute n
  | ctx | speed | still | entry | bookings => exact hs.of_frame
  | vanes v written => exact fun n => (written n).line (hs n)
  | zone z record edited => exact hs.setZone record edited.holder
  | give z record free opened told => exact hs.give opened told

theorem Work.linesSound {x : Set Station} {s t : State} (h : Work x s t) (hs : s.LinesSound) :
    t.LinesSound := h.keeps (fun move => move.linesSound) hs

theorem State.sweepAdd_holder (s : State) (v : Station) (z : Zone) :
    (s.sweepAdd v).holder z = s.holder z := by
  rw [State.holder, State.holding, State.sweepAdd_get]
  split
  · cases record : s.zones.get z <;> simp [State.holder, State.holding, record]
  · rfl

theorem State.sweepAdd_vane (s : State) (v : Station) : (s.sweepAdd v).vane = s.vane := by
  rw [s.sweepAdd_frame v]

theorem State.sweepAdd_plan (s : State) (v : Station) : (s.sweepAdd v).plan = s.plan := by
  rw [s.sweepAdd_frame v]

theorem State.LinesSound.sweepAdd {s : State} (h : s.LinesSound) (v : Station) :
    (s.sweepAdd v).LinesSound :=
  fun n => (h n).of_vane (by rw [s.sweepAdd_plan]) (by rw [s.sweepAdd_vane]) fun z =>
    .inl (s.sweepAdd_holder v z)

/-- A station's context is written soundly. -/
theorem State.LinesSound.setVane {s : State} (h : s.LinesSound) {n : Station} {c : VaneCtx}
    (sound : c.LineSound (s.zonesClearFor n = true)) : (s.setVane n c).LinesSound := by
  intro m
  unfold State.LineSound
  by_cases e : m = n
  · subst e
    rw [State.setVane_vane, PerStation.get_set_same]
    exact sound
  · rw [State.setVane_vane, PerStation.get_set_ne e]
    exact h m

theorem State.LinesSound.committedZones {s : State} (h : s.LinesSound) :
    s.committedZones.LinesSound := by
  intro n
  have vane : s.committedZones.vane = s.vane := by rw [(CommitFrame.committedZones s).frame]
  unfold State.LineSound
  rw [vane]
  refine (h n).mono fun free => ?_
  rw [State.zonesClearFor_iff] at *
  intro z mem k hold
  cases changed : s.zoneChanged z with
  | true =>
    rw [State.holder, State.holding, State.committedZones_get, if_pos changed] at hold
    split at hold <;> simp [ZoneDyn.fresh] at hold
  | false =>
    have same := State.zone_of_not_changed changed
    refine free z ?_ k ?_
    · simpa only [State.mem_memberZones, State.isMember, State.member, State.committedZones_zone,
        same] using mem
    · rw [← hold]
      refine (State.holder_of_get ?_).symm
      rw [State.committedZones_get, changed]
      rfl

theorem VaneCtx.lineSound_reset (free : Prop) : VaneCtx.reset.LineSound free :=
  VaneCtx.lineSound_of_off rfl (by simp [VaneCtx.reset])

theorem State.linesSound_of_reset {s : State} (h : s.vane = .const .reset) : s.LinesSound := by
  intro n
  unfold State.LineSound
  rw [h, PerStation.get_const]
  exact VaneCtx.lineSound_reset _

theorem Act.linesSound {b : Bool} {s t : State} (h : Act b s t) (hs : s.LinesSound) :
    t.LinesSound := by
  cases h with
  | work h => exact h.linesSound hs
  | apply v h => exact h.linesSound hs
  | swing v clear =>
    refine (hs.sweepAdd v).setVane ?_
    obtain ⟨named, free, -⟩ := hs.sweepAdd v v
    rw [State.sweepAdd_vane] at *
    exact ⟨fun _ => .inr rfl, nofun, fun _ _ => free clear⟩
  | release v =>
    have begun : ((s.setVane v { s.vane.get v with unsafeLatched := true }).alarmBegins
        (.unsafeVane v)).LinesSound :=
      State.LinesSound.alarms
        (hs.setVane (c := { s.vane.get v with unsafeLatched := true }) (hs v))
        (.alarmBegins _ (.unsafeVane v))
    exact (begun.sweepAdd v).setVane (VaneCtx.lineSound_of_off rfl nofun)
  | plan p live => exact hs.of_frame (live := live)
  | enter => exact hs.of_frame
  | commit k => exact (s.commitEffect_of_committedZones k).linesSound hs.committedZones
  | warm => exact State.linesSound_of_reset rfl
  | cold => exact State.linesSound_of_reset rfl
  | enrol code =>
    unfold State.answerEnrol
    split
    · exact hs.of_frame
    · exact hs

/-- Settles O9: every act keeps every line sound; what a line says of the zones is read off it. -/
theorem vaneClearMeansNoZoneHeldByAnother : Obligations.VaneClearMeansNoZoneHeldByAnother := by
  unfold Obligations.VaneClearMeansNoZoneHeldByAnother
  intro s t kept step n
  have sound : t.LinesSound :=
    keeps_step (P := State.LinesSound) (fun act => act.linesSound) (fun _ _ _ _ h => h)
      (fun _ h => h) step fun n => vaneClearKept_iff.mp (kept n)
  refine ⟨vaneClearKept_iff.mpr (sound n), fun on => ?_⟩
  obtain ⟨named, clear, vaning⟩ := sound n
  refine ⟨named on, State.zonesClearFor_iff.mp ?_⟩
  rcases named on with e | e
  · exact clear e
  · exact vaning e on

end Sys2Proof.Machine
end

section
/-! The limits: every act keeps the slew limits at 0 without the permit and v_wind within its bound (R82 .. R85). -/

namespace Sys2Proof.Machine

open Sys2Proof.Safety

/-! ### Slew limits without the permit (R40, R84) -/

/-- Vane contexts, alarms and frames alone are written. -/
def VaneFrame (s t : State) : Prop :=
  t = { s with vane := t.vane, alarms := t.alarms, attn := t.attn, held := t.held, tx := t.tx }

theorem VaneFrame.refl (s : State) : VaneFrame s s := rfl

theorem VaneFrame.trans {s t u : State} (h : VaneFrame s t) (k : VaneFrame t u) :
    VaneFrame s u := by
  calc u = { t with vane := u.vane, alarms := u.alarms, attn := u.attn, held := u.held,
                    tx := u.tx } := k
    _ = { s with vane := u.vane, alarms := u.alarms, attn := u.attn, held := u.held,
                 tx := u.tx } := by rw [h]

theorem VaneFrame.of_alarms {s t : State} (h : AlarmFrame s t) : VaneFrame s t := by
  unfold VaneFrame
  rw [h]

theorem VaneFrame.setOverdue (s : State) (v : Station) (b : Bool) :
    VaneFrame s (s.setOverdue v b) := by
  unfold State.setOverdue
  extract_lets c
  split
  · rfl
  · exact VaneFrame.trans (t := s.setVane v _) rfl (.of_alarms (.alarmIs _ _ b))

theorem VaneFrame.judgeClear (s : State) (v : Station) : VaneFrame s (s.judgeClear v) := by
  unfold State.judgeClear
  extract_lets c
  split
  · exact VaneFrame.trans (t := s.setVane v _) rfl (.setOverdue _ v false)
  · rfl

theorem VaneFrame.judgeSwingLine (s : State) (v : Station) (z : Zone) :
    VaneFrame s (s.judgeSwingLine v z) := by
  unfold State.judgeSwingLine
  extract_lets c
  split <;> rfl

theorem VaneFrame.holderTold (s : State) (z : Zone) : VaneFrame s (s.holderTold z) :=
  foldl_related .refl .trans
    (fun s m => (VaneFrame.judgeClear s m).trans (.judgeSwingLine _ m z)) s (s.members z)

/-- The slew limits of a station are 0 while its permit is withdrawn. -/
def State.SlewHeld (s : State) (n : Station) : Prop :=
  (s.ctx.get n).mp = false → (s.lim.get n).cw = 0 ∧ (s.lim.get n).ccw = 0

theorem limitsFollow_iff {s : State} {n : Station} :
    limitsFollow s n = true ↔ s.SlewHeld n := by
  unfold limitsFollow State.SlewHeld
  cases (s.ctx.get n).mp <;> simp

theorem State.SlewHeld.of_frame {s t : State} {n : Station} (h : s.SlewHeld n)
    (ctx : (t.ctx.get n).mp = (s.ctx.get n).mp) (lim : t.lim.get n = s.lim.get n) :
    t.SlewHeld n := by
  unfold State.SlewHeld
  rwa [ctx, lim]

/-- A computation withdraws the slew limits of a station without the permit. -/
theorem State.slewHeld_recompute_self (s : State) (n : Station) : (s.recompute n).SlewHeld n := by
  unfold State.recompute
  extract_lets r l eff obs mp
  split
  · simp [State.SlewHeld]
  · split
    · simp [State.SlewHeld]
    · simp [State.SlewHeld]
    · simp [State.SlewHeld]
    · intro off
      have withdrawn : mp = false := off
      simp [slewLimit, withdrawn]

theorem State.SlewHeld.recompute {s : State} {n : Station} (h : s.SlewHeld n) (m : Station) :
    (s.recompute m).SlewHeld n := by
  by_cases e : n = m
  · subst e
    exact s.slewHeld_recompute_self n
  · obtain ⟨l, written, -⟩ := s.recompute_cases m
    rw [written]
    exact h.of_frame rfl (by simp [e])

theorem State.SlewHeld.reevalPermit {s : State} {n : Station} (h : s.SlewHeld n) (m : Station) :
    (s.reevalPermit m).SlewHeld n := by
  rcases s.reevalPermit_cases m with ⟨-, e⟩ | ⟨-, e⟩ <;> rw [e]
  · exact h
  · by_cases e : n = m
    · subst e
      exact State.slewHeld_recompute_self _ n
    · refine State.SlewHeld.recompute (s := s.setCtx m { s.ctx.get m with mp := s.permit m }) ?_ m
      exact h.of_frame (by simp [e]) rfl

theorem Move.slewHeld {x : Set Station} {s t : State} (h : Move x s t) {n : Station}
    (hs : s.SlewHeld n) : t.SlewHeld n := by
  cases h with
  | quiet frame => rw [frame]; exact hs
  | raise l f => rw [AlarmFrame.raise s l f]; exact hs
  | permit m => exact hs.reevalPermit m
  | limits m => exact hs.recompute m
  | ctx c mp => exact hs.of_frame (mp n) rfl
  | speed m v =>
    by_cases e : n = m
    · subst e
      simpa [State.SlewHeld] using hs
    · exact hs.of_frame rfl (by simp [e])
  | still m =>
    by_cases e : n = m
    · subst e
      simp [State.SlewHeld, LimitCtx.reset]
    · exact hs.of_frame rfl (by simp [e])
  | vanes | entry | zone | bookings => exact hs
  | @give z d k entry u record free opened told =>
    have before : u.SlewHeld n := by rw [told.frame]; exact hs
    rw [VaneFrame.holderTold u z]
    exact before

theorem Work.slewHeld {x : Set Station} {s t : State} (h : Work x s t) {n : Station}
    (hs : s.SlewHeld n) : t.SlewHeld n := h.keeps (fun move => move.slewHeld) hs

theorem State.slewHeld_of_reset {s : State} (h : s.lim = .const .reset) (n : Station) :
    s.SlewHeld n := by
  unfold State.SlewHeld
  rw [h, PerStation.get_const]
  exact fun _ => ⟨rfl, rfl⟩

theorem Act.slewHeld {b : Bool} {s t : State} (h : Act b s t) {n : Station} (hs : s.SlewHeld n) :
    t.SlewHeld n := by
  cases h with
  | work h => exact h.slewHeld hs
  | apply v h => exact h.slewHeld hs
  | swing v =>
    unfold State.releasedClear
    rw [s.sweepAdd_frame v]
    exact hs
  | release v =>
    unfold State.releasedUnsafely
    extract_lets _ t
    rw [t.sweepAdd_frame v, show t = _ from AlarmFrame.alarmBegins _ _]
    exact hs
  | plan | enter => exact hs
  | commit k =>
    refine (s.commitEffect_of_committedZones k).slewHeld ?_
    have first := CommitFrame.committedZones s
    exact hs.of_frame (first.mp n) (by rw [first.frame])
  | warm => exact State.slewHeld_of_reset rfl n
  | cold => exact State.slewHeld_of_reset rfl n
  | enrol code =>
    unfold State.answerEnrol
    split <;> exact hs

/-! ### The bound of v_wind (R82, R85) -/

/-- v_wind lies within V_rated, and is 0 for a disabled station. -/
def State.SpeedBounded (s : State) (n : Station) : Prop :=
  ((s.station n).enabled = true → (s.lim.get n).vWind ≤ (s.station n).vRated) ∧
    ((s.station n).enabled = false → (s.lim.get n).vWind = 0)

theorem speedKept_iff {s : State} {n : Station} : speedKept s n = true ↔ s.SpeedBounded n := by
  unfold speedKept State.SpeedBounded
  cases (s.station n).enabled <;> simp

/-- What a write does to the wind-limited speed of a station: nothing, or it sets it to 0 or, of an enabled station,
to no more than the greater of its value and V_rated. -/
theorem Move.vWind {x : Set Station} {s t : State} (h : Move x s t) (n : Station) :
    (t.lim.get n).vWind = (s.lim.get n).vWind ∨ (t.lim.get n).vWind = 0 ∨
      (s.station n).enabled = true ∧
        (t.lim.get n).vWind ≤ max (s.lim.get n).vWind (s.station n).vRated := by
  cases h with
  | quiet frame => rw [frame]; exact .inl rfl
  | raise l f => rw [AlarmFrame.raise s l f]; exact .inl rfl
  | permit m => exact .inl ((holderWork_reevalPermit s m).2 n).2
  | limits m => exact .inl ((holderWork_recompute s m).2 n).2
  | speed m v bound =>
    by_cases e : n = m
    · subst e
      refine .inr (bound.imp (fun zero => ?_) fun below => ?_)
      · simpa using zero
      · simpa using below
    · exact .inl (by simp [e])
  | still m =>
    by_cases e : n = m
    · subst e
      exact .inr (.inl (by simp [LimitCtx.reset]))
    · exact .inl (by simp [e])
  | ctx | vanes | entry | zone | bookings => exact .inl rfl
  | @give z d k entry u record free opened told =>
    have given : u.lim = s.lim := by rw [told.frame]; rfl
    have told : (u.holderTold z).lim = u.lim := by rw [VaneFrame.holderTold u z]
    exact .inl (by rw [told, given])

theorem Move.speedBounded {x : Set Station} {s t : State} (h : Move x s t) {n : Station}
    (hs : s.SpeedBounded n) : t.SpeedBounded n := by
  obtain ⟨below, zero⟩ := hs
  have station : t.station n = s.station n := by rw [State.station, h.kept.plan]; rfl
  unfold State.SpeedBounded
  rw [station]
  rcases h.vWind n with same | none | ⟨enabled, bound⟩
  · rw [same]
    exact ⟨below, zero⟩
  · rw [none]
    exact ⟨fun _ => Nat.zero_le _, fun _ => rfl⟩
  · refine ⟨fun _ => bound.trans (max_le (below enabled) le_rfl), fun off => ?_⟩
    rw [enabled] at off
    cases off

theorem Work.speedBounded {x : Set Station} {s t : State} (h : Work x s t) {n : Station}
    (hs : s.SpeedBounded n) : t.SpeedBounded n := h.keeps (fun move => move.speedBounded) hs

/-! ### The telling of the Limit Unit at a commit (R82, R87) -/

/-- A station that is not enabled is disabled by the commit or stands still. -/
def State.StillOr (disabled : List Station) (s : State) (n : Station) : Prop :=
  (s.station n).enabled = false → n ∈ disabled ∨ (s.lim.get n).vWind = 0

theorem Work.stillOr {x : Set Station} {disabled : List Station} {s t : State} (h : Work x s t)
    {n : Station} (hs : s.StillOr disabled n) : t.StillOr disabled n := by
  refine h.keeps (P := fun s => s.StillOr disabled n) (fun {s t} move hs off => ?_) hs
  have station : t.station n = s.station n := by rw [State.station, move.kept.plan]; rfl
  rw [station] at off
  rcases move.vWind n with same | zero | ⟨enabled, -⟩
  · rw [same]
    exact hs off
  · exact .inr zero
  · rw [enabled] at off
    cases off

theorem State.setVWind_vWind (s : State) (n : Station) (v : Nat) :
    ((s.setVWind n v).lim.get n).vWind = v := by
  unfold State.setVWind
  extract_lets l t
  have set : (t.lim.get n).vWind = v := by simp [t]
  have told : holderWork t ((t.reevalPermit n).judgeClear n) :=
    holderWork_trans (holderWork_reevalPermit t n) (holderWork_judgeClear _ n)
  split
  · exact set
  · exact ((told.2 n).2).trans set

/-- The Limit Unit brings the speed of a station within its bound. -/
theorem State.commitSpeed_bounded {disabled : List Station} {s : State} {n : Station}
    (h : s.StillOr disabled n) : (State.commitSpeed disabled s n).SpeedBounded n := by
  unfold State.commitSpeed
  split
  case isTrue =>
    unfold State.SpeedBounded
    simp [LimitCtx.reset]
  case isFalse kept =>
    have notDisabled : n ∉ disabled := by simpa using kept
    split
    case isTrue slower =>
      unfold State.SpeedBounded
      rw [State.setVWind_vWind, State.station, State.setVWind_plan]
      exact ⟨fun _ => le_rfl, fun off => by rw [State.station] at slower; simp_all⟩
    case isFalse bound =>
      exact ⟨fun on => Nat.le_of_not_lt fun slower => bound ⟨slower, on⟩,
        fun off => (h off).resolve_left notDisabled⟩

theorem State.foldl_commitSpeed_bounded {disabled : List Station} {ns : List Station} {s : State}
    {n : Station} (still : s.StillOr disabled n) (h : n ∈ ns ∨ s.SpeedBounded n) :
    (ns.foldl (State.commitSpeed disabled) s).SpeedBounded n := by
  induction ns generalizing s with
  | nil => exact h.elim nofun id
  | cons m ns ih =>
    have told : Work ∅ s (State.commitSpeed disabled s m) := (Work.refl s).commitSpeed disabled m
    refine ih (told.stillOr still) ?_
    by_cases e : n = m
    · subst e
      exact .inr (State.commitSpeed_bounded still)
    · exact h.imp (fun mem => by simpa [e] using mem) told.speedBounded

theorem State.commitLimits_bounded {disabled : List Station} {s : State} {n : Station}
    (still : s.StillOr disabled n) : (s.commitLimits disabled).SpeedBounded n := by
  unfold State.commitLimits
  extract_lets t
  have bounded : t.SpeedBounded n :=
    State.foldl_commitSpeed_bounded still (.inl (Station.mem_all n))
  exact Work.speedBounded (x := ∅) ((Work.refl t).foldl (f := State.recompute)
    (fun n h => h.recompute n) _) bounded

theorem State.committedZones_stillOr {s : State} {n : Station} (h : s.SpeedBounded n) :
    s.committedZones.StillOr s.disabledByStaged n := by
  intro off
  have live : s.committedZones.station n = s.plan.staged.stations.get n := by
    rw [State.station, s.committedZones_live]
  have lim : s.committedZones.lim = s.lim := by rw [(CommitFrame.committedZones s).frame]
  rw [live] at off
  rw [lim]
  cases enabled : (s.station n).enabled with
  | true => exact .inl (by simp [State.disabledByStaged, Station.mem_all, enabled, off])
  | false => exact .inr (h.2 enabled)

theorem State.speedBounded_of_reset {s : State} (h : s.lim = .const .reset) (n : Station) :
    s.SpeedBounded n := by
  unfold State.SpeedBounded
  rw [h, PerStation.get_const]
  exact ⟨fun _ => Nat.zero_le _, fun _ => rfl⟩

theorem Act.speedBounded {b : Bool} {s t : State} (h : Act b s t) {n : Station}
    (hs : s.SpeedBounded n) : t.SpeedBounded n := by
  cases h with
  | work h => exact h.speedBounded hs
  | apply v h => exact h.speedBounded hs
  | swing v =>
    unfold State.releasedClear
    rw [s.sweepAdd_frame v]
    exact hs
  | release v =>
    unfold State.releasedUnsafely
    extract_lets _ t
    rw [t.sweepAdd_frame v, show t = _ from AlarmFrame.alarmBegins _ _]
    exact hs
  | plan p live =>
    unfold State.SpeedBounded State.station at *
    rwa [State.setPlan_plan, live]
  | enter => exact hs
  | commit k =>
    have still := (Work.committedStages (x := ∅) s k).stillOr (State.committedZones_stillOr hs)
    exact (Work.committedShutdown s k).speedBounded (State.commitLimits_bounded still)
  | warm => exact State.speedBounded_of_reset rfl n
  | cold => exact State.speedBounded_of_reset rfl n
  | enrol code =>
    unfold State.answerEnrol
    split <;> exact hs

/-- Settles O8: every act keeps both claims of a station; a commit passes through states in which the second fails
and ends in one in which it holds. -/
theorem slewLimitsAreZeroWithoutPermit : Obligations.SlewLimitsAreZeroWithoutPermit := by
  unfold Obligations.SlewLimitsAreZeroWithoutPermit
  refine ⟨fun s t kept step n => ?_, fun s t kept step n => ?_⟩
  · exact keeps_step (P := fun s => s.SlewHeld n) (fun act => act.slewHeld) (fun _ _ _ _ h => h)
      (fun _ h => h) step (limitsFollow_iff.mp (kept n))
  · exact keeps_step (P := fun s => s.SpeedBounded n) (fun act => act.speedBounded)
      (fun _ _ _ _ h => h) (fun _ h => h) step (speedKept_iff.mp (kept n))

end Sys2Proof.Machine
end

section
/-! The airspace of a swinging jib: every act keeps it closed (R46). -/

namespace Sys2Proof.Machine

open Sys2Proof.Safety

/-- A station that sweeps a zone is a member of it, swings, and but for an unsafe release no other holds the zone. -/
structure State.Sweeps (s : State) (z : Zone) (d : ZoneDyn) (m : Station) : Prop where
  member : s.isMember z m = true
  vaning : (s.vane.get m).vane = .vaning
  closed : ((s.vane.get m).unsafeLatched = true ∧ (s.alarms.get (.unsafeVane m)).state = .active) ∨
    ∀ h, d.hold = some h → h.station = m

/-- Every zone that a station sweeps is closed by it. -/
def State.SweepClosed (s : State) (m : Station) : Prop :=
  ∀ z d, s.zones.get z = some d → d.swept.get m = true → s.Sweeps z d m

theorem State.sweeps_iff {s : State} {z : Zone} {d : ZoneDyn} {m : Station} :
    s.Sweeps z d m ↔ (s.isMember z m = true ∧ (s.vane.get m).vane = .vaning) ∧
      (((s.vane.get m).unsafeLatched = true ∧ (s.alarms.get (.unsafeVane m)).state = .active) ∨
        ∀ h, d.hold = some h → h.station = m) :=
  ⟨fun ⟨member, vaning, closed⟩ => ⟨⟨member, vaning⟩, closed⟩,
    fun ⟨⟨member, vaning⟩, closed⟩ => ⟨member, vaning, closed⟩⟩

theorem sweptKept_iff {s : State} {z : Zone} :
    sweptKept s z = true ↔
      ∀ m d, s.zones.get z = some d → d.swept.get m = true → s.Sweeps z d m := by
  unfold sweptKept
  cases s.zones.get z with
  | none => simp
  | some d =>
    simp only [List.all_eq_true, Option.some.injEq, forall_eq', State.sweeps_iff]
    refine ⟨fun h m swept => ?_, fun h m _ => ?_⟩
    · have kept := h m (Station.mem_all m)
      cases hold : d.hold <;> simpa [swept, hold] using kept
    · cases swept : d.swept.get m with
      | false => simp
      | true =>
        have kept := h m swept
        cases hold : d.hold <;> simpa [hold] using kept

/-- A zone's record stands exactly while the live plan enables the zone (R42). -/
def State.TableFollows (s : State) : Prop :=
  ∀ z, (s.zones.get z).isSome = (s.zone z).enabled

/-- While a commit is pending, the staged plan passes the cross-record check. -/
def State.StagedChecked (s : State) : Prop :=
  s.plan.pendingCommit ≠ .absent → CrossSound s.plan.staged

/-- The airspace of every swinging jib is closed. -/
structure State.AirClosed (s : State) : Prop where
  staged : s.StagedChecked
  lines : s.LinesSound
  table : s.TableFollows
  sweeps : ∀ m, s.SweepClosed m

theorem airspaceClosed_iff {s : State} : airspaceClosed s = true ↔ s.AirClosed := by
  have staged : stagedChecked s = true ↔ s.StagedChecked := by
    unfold stagedChecked State.StagedChecked State.commitPending
    rw [← State.crossCheck_eq_none_iff]
    cases s.crossCheck <;> simp
  have lines : Station.all.all (vaneClearKept s) = true ↔ s.LinesSound := by
    simp only [List.all_eq_true, vaneClearKept_iff]
    exact ⟨fun h n => h n (Station.mem_all n), fun h n _ => h n⟩
  have zones : (Zone.all.all fun z => zoneTableFollows s z && sweptKept s z) = true ↔
      s.TableFollows ∧ ∀ m, s.SweepClosed m := by
    simp only [List.all_eq_true, Bool.and_eq_true, sweptKept_iff, zoneTableFollows, beq_iff_eq]
    exact ⟨fun h => ⟨fun z => (h z (Zone.mem_all z)).1, fun m z => (h z (Zone.mem_all z)).2 m⟩,
      fun h z _ => ⟨h.1 z, fun m => h.2 m z⟩⟩
  unfold airspaceClosed
  rw [Bool.and_eq_true, Bool.and_eq_true, staged, lines, zones]
  exact ⟨fun ⟨⟨staged, lines⟩, table, sweeps⟩ => ⟨staged, lines, table, sweeps⟩,
    fun ⟨staged, lines, table, sweeps⟩ => ⟨⟨staged, lines⟩, table, sweeps⟩⟩

/-! ### Work -/

theorem State.isMember_of_plan {s t : State} (plan : t.plan = s.plan) (z : Zone) (n : Station) :
    t.isMember z n = s.isMember z n := by simp [State.isMember, State.member, State.zone, plan]

/-- A write that leaves the plan, the zones, the vane context and the UNSAFE_VANE entry of a station. -/
theorem State.SweepClosed.of_frame {s t : State} {m : Station} (h : s.SweepClosed m)
    (live : t.plan.live = s.plan.live) (vane : t.vane.get m = s.vane.get m)
    (zones : t.zones = s.zones)
    (entry : t.alarms.get (.unsafeVane m) = s.alarms.get (.unsafeVane m)) : t.SweepClosed m := by
  intro z d record swept
  obtain ⟨member, vaning, closed⟩ := h z d (zones ▸ record) swept
  refine ⟨?_, by rwa [vane], by rwa [vane, entry]⟩
  simpa only [State.isMember, State.member, State.zone, live] using member

/-- An alarm entry of another kind, or one that stays ACTIVE. -/
theorem State.SweepClosed.entry {s : State} {m : Station} (h : s.SweepClosed m) (i : AlarmId)
    (e : Entry) (stands : i = .unsafeVane m → (s.alarms.get i).state = .active → e.state = .active) :
    (s.setEntry i e).SweepClosed m := by
  intro z d record swept
  obtain ⟨member, vaning, closed⟩ := h z d record swept
  refine ⟨member, vaning, closed.imp (fun ⟨latched, active⟩ => ⟨latched, ?_⟩) id⟩
  by_cases same : i = .unsafeVane m
  · subst same
    simpa [State.setEntry] using stands rfl active
  · simpa [State.setEntry, Ne.symm same] using active

/-- A write of a station's vane context that keeps its swing and, with its entry ACTIVE, its latch. -/
theorem State.Sweeps.of_vane {s t : State} {z : Zone} {d e : ZoneDyn} {m : Station}
    (h : s.Sweeps z d m) (member : t.isMember z m = s.isMember z m)
    (vaning : (s.vane.get m).vane = .vaning → (t.vane.get m).vane = .vaning)
    (latched : (s.vane.get m).unsafeLatched = true →
      (s.alarms.get (.unsafeVane m)).state = .active →
      (t.vane.get m).unsafeLatched = true ∧ (t.alarms.get (.unsafeVane m)).state = .active)
    (hold : ∀ k, e.hold = some k → (∃ h, d.hold = some h ∧ h.station = k.station) ∨
      k.station = m) : t.Sweeps z e m := by
  refine ⟨member.trans h.member, vaning h.vaning, ?_⟩
  refine h.closed.imp (fun ⟨on, active⟩ => latched on active) fun own k holds => ?_
  rcases hold k holds with ⟨l, held, same⟩ | own'
  · exact same ▸ own l held
  · exact own'

theorem State.holderTold_vane (s : State) (z : Zone) (m : Station) :
    ((s.vane.get m).vane = .vaning → ((s.holderTold z).vane.get m).vane = .vaning) ∧
      ((s.holderTold z).vane.get m).unsafeLatched = (s.vane.get m).unsafeLatched := by
  refine foldl_related (R := fun s t : State =>
    ((s.vane.get m).vane = .vaning → (t.vane.get m).vane = .vaning) ∧
      (t.vane.get m).unsafeLatched = (s.vane.get m).unsafeLatched) (fun _ => ⟨id, rfl⟩)
    (fun h k => ⟨k.1 ∘ h.1, k.2.trans h.2⟩) (fun s v => ?_) s (s.members z)
  have clear : ((s.vane.get m).vane = .vaning → ((s.judgeClear v).vane.get m).vane = .vaning) ∧
      ((s.judgeClear v).vane.get m).unsafeLatched = (s.vane.get m).unsafeLatched := by
    rw [State.judgeClear_vane s v m]
    split
    case isTrue judged =>
      obtain ⟨rfl, clearing, -⟩ := judged
      exact ⟨fun e => absurd (e.symm.trans clearing) nofun, rfl⟩
    case isFalse => exact ⟨id, rfl⟩
  rw [State.judgeSwingLine_vane]
  split
  case isTrue judged =>
    obtain ⟨rfl, -, -⟩ := judged
    exact clear
  case isFalse => exact clear

/-- Every write keeps the closed airspace of a station that is not exempt. -/
theorem Move.sweepClosed {x : Set Station} {s t : State} (h : Move x s t) {m : Station}
    (exempt : m ∉ x) (hs : s.SweepClosed m) : t.SweepClosed m := by
  cases h with
  | quiet frame => rw [frame]; exact hs.of_frame rfl rfl rfl rfl
  | raise l f => rw [AlarmFrame.raise s l f, State.raise_alarms]; exact hs.of_frame rfl rfl rfl rfl
  | permit n =>
    rcases s.reevalPermit_cases n with ⟨-, e⟩ | ⟨-, e⟩ <;> rw [e]
    · exact hs
    · obtain ⟨l, written, -⟩ :=
        (s.setCtx n { s.ctx.get n with mp := s.permit n }).recompute_cases n
      rw [written]
      exact hs.of_frame rfl rfl rfl rfl
  | limits n =>
    obtain ⟨l, written, -⟩ := s.recompute_cases n
    rw [written]
    exact hs.of_frame rfl rfl rfl rfl
  | ctx | speed | still | bookings => exact hs.of_frame rfl rfl rfl rfl
  | vanes v written =>
    obtain ⟨-, ends, latch, -⟩ := written m
    refine fun z d record swept => (hs z d record swept).of_vane rfl (ends.resolve_left exempt) ?_
      fun k hold => .inl ⟨k, hold, rfl⟩
    intro on active
    rcases latch with same | ⟨-, exempted | clear⟩
    · exact ⟨same.trans on, active⟩
    · exact absurd exempted exempt
    · rw [clear] at active
      cases active
  | entry i e stands =>
    exact hs.entry i e fun same active => (stands m same).resolve_left exempt active
  | @zone y d e record edited =>
    intro z e' record' swept
    by_cases same : z = y
    · subst same
      obtain rfl : e = e' := by simpa using record'
      have old : d.swept.get m = true := by
        rcases edited.swept with kept | ⟨v, mem, kept⟩
        · rwa [kept] at swept
        · have ne : m ≠ v := fun e => exempt (e ▸ mem)
          rwa [kept, PerStation.get_set_ne ne] at swept
      refine (hs z d record old).of_vane rfl id (fun on active => ⟨on, active⟩) fun k hold => ?_
      rcases edited.holder with kept | free
      · rw [hold, Option.map_some, eq_comm, Option.map_eq_some_iff] at kept
        exact .inl kept
      · rw [free] at hold
        cases hold
    · have old : s.zones.get z = some e' := (PerZone.get_set_ne same).symm.trans record'
      exact (hs z e' old swept).of_vane rfl id (fun on active => ⟨on, active⟩)
        fun k hold => .inl ⟨k, hold, rfl⟩
  | @give y d k entry u record free opened told =>
    have zones : (u.holderTold y).zones = s.zones.set y (some (d.give k entry)) := by
      rw [zones_of_holderWork (holderWork_holderTold u y), told.zones]
      rfl
    have plan : (u.holderTold y).plan = s.plan :=
      (Kept.of_holderWork (holderWork_holderTold u y)).plan.trans (by rw [told.frame]; rfl)
    have vane : u.vane = s.vane := by rw [told.frame]; rfl
    have alarms : u.alarms = s.alarms := by rw [told.frame]; rfl
    obtain ⟨vaning, latched⟩ := u.holderTold_vane y m
    have entry : (u.holderTold y).alarms.get (.unsafeVane m) = s.alarms.get (.unsafeVane m) := by
      rw [u.holderTold_get_ne y (by simp), alarms]
    rw [vane] at vaning latched
    have kept {z : Zone} {d e : ZoneDyn} (h : s.Sweeps z d m) (hold : ∀ k, e.hold = some k →
        (∃ h, d.hold = some h ∧ h.station = k.station) ∨ k.station = m) :
        (u.holderTold y).Sweeps z e m :=
      h.of_vane (State.isMember_of_plan plan z m) vaning
        (fun on active => ⟨latched.trans on, by rw [entry]; exact active⟩) hold
    intro z e record' swept
    rw [zones] at record'
    by_cases same : z = y
    · subst same
      obtain rfl : d.give k _ = e := by simpa using record'
      refine kept (hs z d record swept) fun l hold => .inr ?_
      obtain rfl : k = l := Option.some.inj hold
      have notOther : sweptByOther d.swept k.station = false := by
        simpa [record] using (Bool.or_eq_false_iff.mp opened).1
      by_contra ne
      have mine : d.swept.get m = true := swept
      have other : sweptByOther d.swept k.station = true :=
        List.any_eq_true.mpr ⟨m, Station.mem_all m, by simp [Ne.symm ne, mine]⟩
      rw [other] at notOther
      cases notOther
    · rw [PerZone.get_set_ne same] at record'
      exact kept (hs z e record' swept) fun k hold => .inl ⟨k, hold, rfl⟩

theorem Work.sweepClosed {x : Set Station} {s t : State} (h : Work x s t) {m : Station}
    (exempt : m ∉ x) (hs : s.SweepClosed m) : t.SweepClosed m :=
  h.keeps (fun move => move.sweepClosed exempt) hs

theorem State.Unswept.sweepClosed {s : State} {m : Station} (h : s.Unswept m) : s.SweepClosed m := by
  intro z d record swept
  rw [h z d record] at swept
  cases swept

/-- Work that exempts no station that sweeps a zone keeps the whole airspace closed. -/
theorem Work.sweepsClosed {x : Set Station} {s t : State} (h : Work x s t)
    (exempt : ∀ m ∈ x, t.Unswept m) (hs : ∀ m ∉ x, s.SweepClosed m) (m : Station) :
    t.SweepClosed m := by
  by_cases mem : m ∈ x
  · exact (exempt m mem).sweepClosed
  · exact h.sweepClosed mem (hs m mem)

theorem Entry.begins_state (e : Entry) : e.begins.state = .active := by
  unfold Entry.begins
  split
  · assumption
  · rfl
  · rfl

theorem State.SweepClosed.alarmBegins {s : State} {m : Station} (h : s.SweepClosed m)
    (i : AlarmId) : (s.alarmBegins i).SweepClosed m := by
  have frame := AlarmFrame.alarmBegins s i
  have plan : (s.alarmBegins i).plan = s.plan := by rw [frame]
  intro z d record swept
  rw [frame] at record
  refine (h z d record swept).of_vane (State.isMember_of_plan plan z m) (by rw [frame.vane]; exact id)
    (fun on active => ⟨by rw [frame.vane]; exact on, ?_⟩) fun k hold => .inl ⟨k, hold, rfl⟩
  rw [State.alarmBegins_get]
  split
  · exact Entry.begins_state _
  · exact active

/-! ### The zone table -/

theorem Move.tableFollows {x : Set Station} {s t : State} (h : Move x s t) (hs : s.TableFollows) :
    t.TableFollows := by
  intro z
  rw [State.zone, h.kept.plan]
  refine Eq.trans ?_ (hs z)
  rcases h.zones_get z with same | ⟨d, e, old, new, -⟩
  · rw [same]
  · rw [old, new]
    rfl

theorem Work.tableFollows {x : Set Station} {s t : State} (h : Work x s t) (hs : s.TableFollows) :
    t.TableFollows := h.keeps (fun move => move.tableFollows) hs

theorem Work.airClosed {x : Set Station} {s t : State} (h : Work x s t)
    (exempt : ∀ m ∈ x, t.Unswept m) (staged : s.StagedChecked) (lines : s.LinesSound)
    (table : s.TableFollows) (sweeps : ∀ m ∉ x, s.SweepClosed m) : t.AirClosed where
  staged := by unfold State.StagedChecked; rw [h.kept.plan]; exact staged
  lines := h.linesSound lines
  table := h.tableFollows table
  sweeps := h.sweepsClosed exempt sweeps

/-! ### Acts -/

/-- A jib begins to sweep the zones of its station, each of which no other holds, or unsafely (R137, R140). -/
theorem State.sweepAdd_sweeps {s : State} {v m : Station} {c : VaneCtx} (hs : s.SweepClosed m)
    (begins : c.vane = .vaning) (still : (s.vane.get v).vane ≠ .vaning)
    (closed : (c.unsafeLatched = true ∧ (s.alarms.get (.unsafeVane v)).state = .active) ∨
      s.zonesClearFor v = true) : ((s.sweepAdd v).setVane v c).SweepClosed m := by
  have alarms : (s.sweepAdd v).alarms = s.alarms := by rw [s.sweepAdd_frame v]
  have plan : (s.sweepAdd v).plan = s.plan := s.sweepAdd_plan v
  intro z e record swept
  have record : (s.sweepAdd v).zones.get z = some e := record
  by_cases own : m = v
  · subst own
    have claims := State.sweepAdd_claims record
    rw [State.sweepAdd_get] at record
    split at record
    case isTrue mem =>
      refine ⟨(State.isMember_of_plan plan z m).trans (State.mem_memberZones.mp mem).2,
        by simpa using begins, ?_⟩
      refine closed.imp (fun ⟨on, active⟩ => ⟨by simpa using on, alarms ▸ active⟩) fun free k hold => ?_
      obtain ⟨d, old, same, -⟩ := claims
      refine State.zonesClearFor_iff.mp free z mem k.station ?_
      simp [State.holder, State.holding, old, same, hold]
    case isFalse => exact absurd (hs z e record swept).vaning still
  · have old : ∃ d, s.zones.get z = some d ∧ d.hold = e.hold ∧ d.swept.get m = true := by
      rw [State.sweepAdd_get] at record
      split at record
      · obtain ⟨d, old, rfl⟩ := Option.map_eq_some_iff.mp record
        exact ⟨d, old, rfl, by simpa [own] using swept⟩
      · exact ⟨e, record, rfl, swept⟩
    obtain ⟨d, old, hold, mine⟩ := old
    have vane : ((s.sweepAdd v).setVane v c).vane.get m = s.vane.get m := by
      rw [State.setVane_vane, PerStation.get_set_ne own, State.sweepAdd_vane]
    refine (hs z d old mine).of_vane (State.isMember_of_plan plan z m) (by rw [vane]; exact id) ?_
      fun k holds => .inl ⟨k, hold.trans holds, rfl⟩
    rw [vane]
    exact fun on active => ⟨on, alarms ▸ active⟩

theorem State.TableFollows.sweepAdd {s : State} (hs : s.TableFollows) (v : Station) :
    (s.sweepAdd v).TableFollows := by
  intro z
  rw [State.zone, State.sweepAdd_plan, State.sweepAdd_get]
  refine Eq.trans ?_ (hs z)
  split
  · rw [Option.isSome_map]
  · rfl

theorem State.TableFollows.committedZones {s : State} (hs : s.TableFollows) :
    s.committedZones.TableFollows := by
  intro z
  rw [State.committedZones_get, State.committedZones_zone]
  cases changed : s.zoneChanged z with
  | true => cases (s.plan.staged.zones.get z).enabled <;> rfl
  | false =>
    rw [State.zone_of_not_changed changed]
    exact hs z

theorem State.clearStationEntries_get (s : State) (n : Station) {i : AlarmId}
    (other : ∀ k ∈ ([.unsafeVane n, .intrusion n, .conflict n, .clearanceOverdue n, .windLost n,
      .linkStale n] : List AlarmId), i ≠ k) :
    (s.clearStationEntries n).alarms.get i = s.alarms.get i := by
  simp only [List.forall_mem_cons] at other
  obtain ⟨unsafeVane, intrusion, conflict, overdue, lost, stale, -⟩ := other
  simp [State.clearStationEntries, State.setEntry, unsafeVane, intrusion, conflict, overdue, lost,
    stale]

theorem State.committedZones_entry (s : State) {m : Station} (kept : m ∉ s.disabledByStaged) :
    s.committedZones.alarms.get (.unsafeVane m) = s.alarms.get (.unsafeVane m) := by
  have told (ns : List Station) (t : State) (out : m ∉ ns) :
      (ns.foldl State.commitStation t).alarms.get (.unsafeVane m) =
        t.alarms.get (.unsafeVane m) := by
    induction ns generalizing t with
    | nil => rfl
    | cons n ns ih =>
      simp only [List.mem_cons, not_or] at out
      rw [List.foldl_cons, ih _ out.2, State.commitStation, State.clearStationEntries_get]
      · rfl
      · simp [out.1]
  have recreated := foldl_related (R := fun s t : State => t.alarms = s.alarms) (fun _ => rfl)
    (fun h k => k.trans h) (f := State.recreateZone) (fun _ _ => rfl)
    (s.disabledByStaged.foldl State.commitStation s.replaceLive) (Zone.all.filter s.zoneChanged)
  rw [State.committedZones, recreated, told _ _ kept]
  simp [State.replaceLive, State.handOnSettings, State.alarmEnds, State.setEntry]

/-- No station that the commit disables sweeps a zone after it: it would be a member of an enabled zone (R9). -/
theorem State.AirClosed.disabled_unswept {s : State} (h : s.AirClosed) (passed : s.Committable)
    {n : Station} (mem : n ∈ s.disabledByStaged) : s.committedZones.Unswept n := by
  intro z d record
  have cross : CrossSound s.plan.staged := by
    by_cases pending : s.plan.pendingCommit = .absent
    · exact passed.cross pending
    · exact h.staged pending
  have off : (s.plan.staged.stations.get n).enabled = false := by
    have parts := (List.mem_filter.mp mem).2
    simp only [Bool.and_eq_true, Bool.not_eq_true'] at parts
    exact parts.2
  rw [State.committedZones_get] at record
  split at record
  case isTrue =>
    split at record
    · cases record
      simp [ZoneDyn.fresh]
    · cases record
  case isFalse unchanged =>
    rw [Bool.not_eq_true] at unchanged
    by_contra swept
    rw [Bool.not_eq_false] at swept
    have enabled : (s.zone z).enabled = true := by
      rw [← h.table z, record]
      rfl
    obtain ⟨m, found⟩ := Option.isSome_iff_exists.mp (h.sweeps n z d record swept).member
    have memberIn : m ∈ (s.zone z).members := List.mem_of_find?_eq_some found
    have station : m.station = n := by simpa using List.find?_some found
    have fails : zoneCrossFails s.plan.staged z = true := by
      rw [zoneCrossFails, State.zone_of_not_changed unchanged, enabled, Bool.true_and]
      exact List.any_eq_true.mpr ⟨m, memberIn, by simp [station, off]⟩
    rw [cross.2 z] at fails
    cases fails

theorem State.AirClosed.committedZones_sweeps {s : State} (h : s.AirClosed) {m : Station}
    (kept : m ∉ s.disabledByStaged) : s.committedZones.SweepClosed m := by
  have vane : s.committedZones.vane = s.vane := by rw [(CommitFrame.committedZones s).frame]
  intro z d record swept
  rw [State.committedZones_get] at record
  split at record
  case isTrue =>
    split at record
    · cases record
      simp [ZoneDyn.fresh] at swept
    · cases record
  case isFalse unchanged =>
    rw [Bool.not_eq_true] at unchanged
    refine (h.sweeps m z d record swept).of_vane ?_ (by rw [vane]; exact id) ?_
      fun k hold => .inl ⟨k, hold, rfl⟩
    · simp only [State.isMember, State.member, State.committedZones_zone,
        State.zone_of_not_changed unchanged]
    · rw [vane, s.committedZones_entry kept]
      exact fun on active => ⟨on, active⟩

/-- After a reset every record is fresh and every vane context at its reset values. -/
theorem State.airClosed_of_reset {s : State} (staged : s.plan.pendingCommit = .absent)
    (vane : s.vane = .const .reset) (zones : s.zones = freshZones s.plan.live) : s.AirClosed where
  staged := fun pending => absurd staged pending
  lines := State.linesSound_of_reset vane
  table z := by
    rw [zones, freshZones_get, State.zone]
    cases (s.plan.live.zones.get z).enabled <;> rfl
  sweeps m := by
    intro z d record swept
    rw [zones, freshZones_get] at record
    split at record
    · cases record
      simp [ZoneDyn.fresh] at swept
    · cases record

/-- A write of neither the live plan, nor a zone, nor a vane context, nor an alarm entry. -/
theorem State.AirClosed.of_frame {s t : State} (h : s.AirClosed) (staged : t.StagedChecked)
    (live : t.plan.live = s.plan.live := by rfl) (zones : t.zones = s.zones := by rfl)
    (vane : t.vane = s.vane := by rfl) (alarms : t.alarms = s.alarms := by rfl) : t.AirClosed where
  staged := staged
  lines := h.lines.of_frame live vane zones
  table z := by
    rw [zones, State.zone, live]
    exact h.table z
  sweeps m := (h.sweeps m).of_frame live (by rw [vane]) zones (by rw [alarms])

theorem Act.airClosed {b : Bool} {s t : State} (h : Act b s t) (hs : s.AirClosed) :
    t.AirClosed := by
  have lines := h.linesSound hs.lines
  cases h with
  | work h => exact h.airClosed nofun hs.staged hs.lines hs.table fun m _ => hs.sweeps m
  | apply v h unswept =>
    exact h.airClosed (fun m e => e ▸ unswept) hs.staged hs.lines hs.table fun m _ => hs.sweeps m
  | swing v clear =>
    refine ⟨?_, lines, hs.table.sweepAdd v, fun m => ?_⟩
    · have staged : (s.sweepAdd v).StagedChecked := by
        unfold State.StagedChecked
        rw [s.sweepAdd_plan v]
        exact hs.staged
      exact staged
    · exact State.sweepAdd_sweeps (hs.sweeps m) rfl (by simp [clear])
        (.inr ((hs.lines v).2.1 clear))
  | release v held =>
    have still : (s.vane.get v).vane ≠ .vaning := by rcases held with e | e <;> simp [e]
    let c : VaneCtx := { s.vane.get v with unsafeLatched := true }
    let t := (s.setVane v c).alarmBegins (.unsafeVane v)
    have vane : (t.vane.get v) = c := by
      rw [(AlarmFrame.alarmBegins (s.setVane v c) (.unsafeVane v)).vane]
      simp
    have plan : t.plan = s.plan := by rw [show t = _ from AlarmFrame.alarmBegins _ _]; rfl
    have zones : t.zones = s.zones := by rw [show t = _ from AlarmFrame.alarmBegins _ _]; rfl
    have begun (m : Station) : t.SweepClosed m := by
      refine State.SweepClosed.alarmBegins ?_ _
      by_cases own : m = v
      · subst own
        exact fun z d record swept => absurd (hs.sweeps m z d record swept).vaning still
      · exact (hs.sweeps m).of_frame rfl (by simp [own]) rfl rfl
    have table : t.TableFollows := fun z => by rw [zones, State.zone, plan]; exact hs.table z
    refine ⟨?_, lines, table.sweepAdd v, fun m => ?_⟩
    · have staged : (t.sweepAdd v).StagedChecked := by
        unfold State.StagedChecked
        rw [t.sweepAdd_plan v, plan]
        exact hs.staged
      exact staged
    · refine State.sweepAdd_sweeps (begun m) rfl (by rw [vane]; exact still) (.inl ⟨?_, ?_⟩)
      · rw [State.sweepAdd_vane]
        exact congrArg VaneCtx.unsafeLatched vane
      · exact (congrArg Entry.state (State.alarmBegins_get _ _ _)).trans (by simp [Entry.begins_state])
  | plan p live frozen =>
    refine hs.of_frame (fun pending => ?_) live
    obtain ⟨staged, passed⟩ := frozen pending
    have kept : CrossSound s.plan.staged := by
      by_cases absent : s.plan.pendingCommit = .absent
      · exact passed absent
      · exact hs.staged absent
    exact staged ▸ kept
  | enter => exact hs.of_frame hs.staged
  | commit k passed =>
    refine (s.commitEffect_of_committedZones k).airClosed (fun m mem => ?_) ?_
      hs.lines.committedZones hs.table.committedZones fun m kept => hs.committedZones_sweeps kept
    · exact (s.commitEffect_of_committedZones k).unswept (hs.disabled_unswept passed mem)
    · intro pending
      rw [s.committedZones_plan] at pending
      exact absurd rfl pending
  | warm => exact State.airClosed_of_reset rfl rfl rfl
  | cold => exact State.airClosed_of_reset rfl rfl rfl
  | enrol code =>
    unfold State.answerEnrol
    split
    · exact hs.of_frame hs.staged
    · exact hs

/-- Settles O10: every act keeps the airspace closed, with the zone table, the lines and the check of the staged
plan; that a holder outside the swept set stands beside an unsafe release is read off it. -/
theorem sweptAirspaceStaysClosed : Obligations.SweptAirspaceStaysClosed := by
  unfold Obligations.SweptAirspaceStaysClosed
  intro s t kept step
  have closed : t.AirClosed :=
    keeps_step (P := State.AirClosed) (fun act => act.airClosed)
      (fun _ _ _ _ h => h.of_frame h.staged) (fun _ h => h.of_frame h.staged) step
      (airspaceClosed_iff.mp kept)
  refine ⟨airspaceClosed_iff.mpr closed, fun z d h record hold ⟨m, swept⟩ => ?_⟩
  rcases (closed.sweeps m z d record swept).closed with ⟨latched, -⟩ | own
  · exact .inr ⟨m, swept, latched⟩
  · exact .inl (own h hold ▸ swept)

end Sys2Proof.Machine
end

section
/-! The booking table: every act keeps its numbers unique, ascending and in range, at most 48 of them (R154, R157). -/

namespace Sys2Proof.Machine

open Sys2Proof.Safety

/-! ### The number of an admitted booking (R157) -/

/-- A booking number lies in 1 .. 65 535. -/
def NumberFits (n : Nat) : Prop := 1 ≤ n ∧ n ≤ 65535

theorem numberFits_one : NumberFits 1 := ⟨le_rfl, by decide⟩

theorem inRange_iff {lo v hi : Nat} : inRange lo v hi = true ↔ lo ≤ v ∧ v ≤ hi := by
  simp [inRange]

theorem NumberFits.next {n : Nat} (h : NumberFits n) : NumberFits (nextBookingNumber n) := by
  unfold NumberFits nextBookingNumber at *
  split <;> omega

/-- The numbers that follow one another, from 65 535 to 1. -/
theorem iterate_nextBookingNumber {n : Nat} (h : NumberFits n) (i : Nat) :
    nextBookingNumber^[i] n = (n - 1 + i) % 65535 + 1 := by
  unfold NumberFits at h
  induction i with
  | zero => simp only [Function.iterate_zero, id_eq]; omega
  | succ i ih =>
    rw [Function.iterate_succ_apply', ih, nextBookingNumber]
    split <;> omega

theorem freeNumber_fits (used : List Nat) (fuel : Nat) {n : Nat} (h : NumberFits n) :
    NumberFits (freeNumber used fuel n) := by
  induction fuel generalizing n with
  | zero => exact h
  | succ fuel ih =>
    unfold freeNumber
    split
    · exact ih h.next
    · exact h

/-- The search finds a number that is not in use, or passes one in use at each step. -/
theorem freeNumber_cases (used : List Nat) (fuel n : Nat) :
    freeNumber used fuel n ∉ used ∨ ∀ i < fuel, nextBookingNumber^[i] n ∈ used := by
  induction fuel generalizing n with
  | zero => exact .inr nofun
  | succ fuel ih =>
    unfold freeNumber
    split
    case isTrue taken =>
      refine (ih (nextBookingNumber n)).imp id fun passed i lt => ?_
      cases i with
      | zero => simpa using taken
      | succ i => exact passed i (Nat.lt_of_succ_lt_succ lt)
    case isFalse free => exact .inl (by simpa using free)

/-- Of fewer than 48 numbers in use the search passes them all. -/
theorem freeNumber_free {used : List Nat} {n : Nat} (fits : NumberFits n)
    (room : used.length < 48) : freeNumber used 48 n ∉ used := by
  refine (freeNumber_cases used 48 n).resolve_right fun passed => ?_
  have nodup : ((List.range 48).map fun i => nextBookingNumber^[i] n).Nodup := by
    refine List.Nodup.map_on (fun i hi j hj same => ?_) List.nodup_range
    rw [List.mem_range] at hi hj
    simp only [iterate_nextBookingNumber fits] at same
    unfold NumberFits at fits
    omega
  have subset : ((List.range 48).map fun i => nextBookingNumber^[i] n) ⊆ used := by
    intro k mem
    obtain ⟨i, hi, rfl⟩ := List.mem_map.mp mem
    exact passed i (List.mem_range.mp hi)
  have length := (List.Nodup.subperm nodup subset).length_le
  simp only [List.length_map, List.length_range] at length
  omega

/-! ### The table (R154) -/

/-- The numbers of a booking table: at most 48, ascending, and each in 1 .. 65 535; the next number is one too. -/
structure NumbersKept (numbers : List Nat) (next : Nat) : Prop where
  length : numbers.length ≤ 48
  ascending : numbers.Pairwise (· < ·)
  fits : ∀ n ∈ numbers, NumberFits n
  next : NumberFits next

theorem bookingTableKept_iff {s : State} :
    bookingTableKept s = true ↔ NumbersKept (s.bookings.map (·.number)) s.nextNumber := by
  unfold bookingTableKept
  simp only [Bool.and_eq_true, decide_eq_true_eq, List.all_eq_true, inRange_iff]
  constructor
  · rintro ⟨⟨⟨length, ascending⟩, fits⟩, next⟩
    exact ⟨by simpa using length, ascending, by simpa [NumberFits] using fits, next⟩
  · rintro ⟨length, ascending, fits, next⟩
    exact ⟨⟨⟨by simpa using length, ascending⟩, by simpa [NumberFits] using fits⟩, next⟩

theorem NumbersKept.sublist {numbers fewer : List Nat} {next : Nat} (h : NumbersKept numbers next)
    (sub : fewer.Sublist numbers) : NumbersKept fewer next :=
  ⟨sub.length_le.trans h.length, h.ascending.sublist sub, fun n mem => h.fits n (sub.subset mem),
    h.next⟩

theorem mem_insertBooking {b c : Booking} {bs : List Booking} :
    c ∈ insertBooking b bs ↔ c = b ∨ c ∈ bs := by
  induction bs with
  | nil => simp [insertBooking]
  | cons k bs ih =>
    unfold insertBooking
    split
    · simp
    · simp only [List.mem_cons, ih]
      tauto

theorem length_insertBooking (b : Booking) (bs : List Booking) :
    (insertBooking b bs).length = bs.length + 1 := by
  induction bs with
  | nil => rfl
  | cons k bs ih =>
    unfold insertBooking
    split <;> simp [ih]

theorem insertBooking_ascending {b : Booking} {bs : List Booking}
    (ascending : (bs.map (·.number)).Pairwise (· < ·)) (new : b.number ∉ bs.map (·.number)) :
    ((insertBooking b bs).map (·.number)).Pairwise (· < ·) := by
  induction bs with
  | nil => simp [insertBooking]
  | cons k bs ih =>
    simp only [List.map_cons, List.pairwise_cons, List.mem_map, List.mem_cons, not_or] at *
    obtain ⟨above, ascending⟩ := ascending
    unfold insertBooking
    split
    case isTrue below =>
      have lt : b.number < k.number := Nat.lt_of_le_of_ne below new.1
      simp only [List.map_cons, List.pairwise_cons, List.mem_map, List.mem_cons]
      refine ⟨?_, above, ascending⟩
      rintro n (rfl | mem)
      · exact lt
      · exact lt.trans (above n mem)
    case isFalse notBelow =>
      simp only [List.map_cons, List.pairwise_cons, List.mem_map]
      refine ⟨?_, ih ascending new.2⟩
      rintro n ⟨c, mem, rfl⟩
      rcases mem_insertBooking.mp mem with rfl | mem
      · omega
      · exact above _ ⟨c, mem, rfl⟩

theorem Move.bookings_numbers {x : Set Station} {s t : State} (h : Move x s t) :
    (t.bookings.map (·.number)).Sublist (s.bookings.map (·.number)) := by
  cases h with
  | quiet frame => rw [frame]
  | raise l f => rw [AlarmFrame.raise s l f]
  | permit n => rw [bookings_of_holderWork (holderWork_reevalPermit s n)]
  | limits n => rw [bookings_of_holderWork (holderWork_recompute s n)]
  | ctx | speed | still | vanes | entry | zone => exact List.Sublist.refl _
  | @give z d k entry u record free opened told =>
    rw [bookings_of_holderWork (holderWork_holderTold u z), told.numbers]
    exact List.Sublist.refl _
  | bookings bs numbers => exact numbers

/-- The numbers of the booking table are in their form. -/
def State.NumbersFit (s : State) : Prop := NumbersKept (s.bookings.map (·.number)) s.nextNumber

theorem Work.numbersFit {x : Set Station} {s t : State} (h : Work x s t) (hs : s.NumbersFit) :
    t.NumbersFit := by
  refine h.keeps (P := State.NumbersFit) (fun {s t} move ih => ?_) hs
  unfold State.NumbersFit
  rw [move.kept.nextNumber]
  exact NumbersKept.sublist ih move.bookings_numbers

theorem State.newNumber_fits {s : State} (hs : s.NumbersFit) : NumberFits s.newNumber :=
  freeNumber_fits _ _ hs.next

theorem State.newNumber_free {s : State} (hs : s.NumbersFit) (room : s.bookings.length < 48) :
    s.newNumber ∉ s.bookings.map (·.number) :=
  freeNumber_free hs.next (by simpa using room)

theorem Act.numbersFit {b : Bool} {s t : State} (h : Act b s t) (hs : s.NumbersFit) :
    t.NumbersFit := by
  cases h with
  | work h => exact h.numbersFit hs
  | apply v h => exact h.numbersFit hs
  | swing v =>
    unfold State.releasedClear
    rw [s.sweepAdd_frame v]
    exact hs
  | release v =>
    unfold State.releasedUnsafely
    extract_lets _ t
    rw [t.sweepAdd_frame v, show t = _ from AlarmFrame.alarmBegins _ _]
    exact hs
  | plan => exact hs
  | enter k number room =>
    have fits := State.newNumber_fits hs
    refine ⟨?_, insertBooking_ascending hs.ascending ?_, fun n mem => ?_, ?_⟩
    · simpa [length_insertBooking] using room
    · rw [number]
      exact State.newNumber_free hs room
    · obtain ⟨c, entered, rfl⟩ := List.mem_map.mp mem
      rcases mem_insertBooking.mp entered with rfl | mem
      · exact number ▸ fits
      · exact hs.fits _ (List.mem_map_of_mem mem)
    · exact (number ▸ fits).next
  | commit k =>
    refine (s.commitEffect_of_committedZones k).numbersFit ?_
    unfold State.NumbersFit
    rw [(CommitFrame.committedZones s).frame]
    exact hs
  | warm => exact ⟨Nat.zero_le _, .nil, nofun, numberFits_one⟩
  | cold => exact ⟨Nat.zero_le _, .nil, nofun, numberFits_one⟩
  | enrol code =>
    unfold State.answerEnrol
    split <;> exact hs

theorem numbersFit_step {s t : State} (step : Machine.step s = .next t) (hs : s.NumbersFit) :
    t.NumbersFit :=
  keeps_step (fun act => act.numbersFit) (fun _ _ _ _ h => h) (fun _ h => h) step hs

end Sys2Proof.Machine
end

section
/-! The queries of the supervisor and of a crane. -/

namespace Sys2Proof.Machine

open Sys2Proof.Safety

/-! ### Answers that change nothing -/

/-- The state as a request of a link finds it (R193, R194). -/
def State.taken (s : State) (l : Link) : State :=
  { s.setRx l .hunting with handling := some l, held := [] }

/-- A supervisor command whose work leaves the state is `replied` with what it answers. -/
theorem command_of_unchanged {s : State} {tag cmd : Nat}
    {work : State → State × Code × Data} {code : Code} {data : Data}
    (h : work (s.taken .supervisor) = (s.taken .supervisor, code, data)) :
    s.command tag cmd work = replied .supervisor (.answerSL tag cmd code data) s :=
  State.command_answers s tag cmd work h

/-- A crane's request whose work leaves the state is `replied` with what it answers. -/
theorem craneRequest_of_unchanged {s : State} {n : Station} {kind : Byte}
    {work : State → State × Code × Data} {code : Code} {data : Data}
    (h : work (s.taken (.crane n)) = (s.taken (.crane n), code, data)) :
    s.craneRequest n kind work = replied (.crane n) (.answer kind code data) s :=
  State.craneRequest_answers s n kind work h

/-- A request other than HELLO and POSITION of a station that is not ONLINE (R24). -/
theorem onlineRequest_of_not_online {s : State} {n : Station} {kind : Byte}
    {work : State → State × Code × Data} (h : (s.ctx.get n).link ≠ .online) :
    s.onlineRequest n kind work = replied (.crane n) (.answer kind .notJoined .empty) s := by
  have off : ((s.taken (.crane n)).ctx.get n).link ≠ .online := h
  exact craneRequest_of_unchanged (if_neg off)

/-- A request of an ONLINE station that leaves the state. -/
theorem onlineRequest_of_unchanged {s : State} {n : Station} {kind : Byte}
    {work : State → State × Code × Data} {code : Code} {data : Data}
    (h : (s.ctx.get n).link = .online)
    (w : work (s.taken (.crane n)) = (s.taken (.crane n), code, data)) :
    s.onlineRequest n kind work = replied (.crane n) (.answer kind code data) s := by
  have on : ((s.taken (.crane n)).ctx.get n).link = .online := h
  exact craneRequest_of_unchanged ((if_pos on).trans w)

/-! ### What the views show -/

theorem State.mem_heldAs {s : State} {n : Station} {seen : Bool} {z : Zone} :
    (match s.holding z with
      | some h => h.station == n && h.seen == seen
      | none => false) = true ↔ ∃ h, s.holding z = some h ∧ h.station = n ∧ h.seen = seen := by
  cases s.holding z <;> simp

/-- The four zone sets show the holder, the clearance requests and the wait lists (R33). -/
theorem zoneSetsViewed_zoneSets (s : State) (n : Station) : zoneSetsViewed s n (s.zoneSets n) := by
  refine ⟨fun z => ?_, fun z => ?_, fun z => ?_, fun z i => ?_⟩
  · simp only [State.zoneSets, List.mem_filter, Zone.mem_all, true_and]
    exact State.mem_heldAs
  · simp only [State.zoneSets, List.mem_filter, Zone.mem_all, true_and]
    exact State.mem_heldAs
  · simp [State.zoneSets, Zone.mem_all, State.holds]
  · simp only [State.zoneSets, List.mem_filterMap, Zone.mem_all, true_and]
    constructor
    · rintro ⟨y, h⟩
      obtain ⟨d, record, h⟩ := Option.bind_eq_some_iff.mp h
      obtain ⟨j, index, e⟩ := Option.map_eq_some_iff.mp h
      obtain ⟨rfl, e⟩ := Prod.mk.injEq _ _ _ _ ▸ e
      obtain rfl : j = i := by omega
      exact ⟨d, record, index⟩
    · rintro ⟨d, record, index⟩
      exact ⟨z, by simp [record, index]⟩

/-- The first booking of a station beyond PENDING is shown, and none when there is none. -/
theorem stationViewed_stationView (s : State) (n : Station) :
    stationViewed s n (s.stationView n) := by
  refine ⟨rfl, rfl, rfl, zoneSetsViewed_zoneSets s n, rfl, rfl, rfl, fun none => ?_, fun some => ?_,
    rfl⟩
  · have noBooking : (s.bookings.find? fun b => b.station == n && b.state != .pending) = .none := by
      simpa using none
    simp [State.stationView, noBooking]
  · obtain ⟨b, mem, own, begun⟩ := some
    have found : (s.bookings.find? fun b => b.station == n && b.state != .pending).isSome :=
      List.find?_isSome.mpr ⟨b, mem, by simp [own, begun]⟩
    obtain ⟨c, e⟩ := Option.isSome_iff_exists.mp found
    have claims := List.find?_some e
    simp only [Bool.and_eq_true, beq_iff_eq, bne_iff_ne] at claims
    exact ⟨c, List.mem_of_find?_eq_some e, claims.1, claims.2, by simp [State.stationView, e],
      by simp [State.stationView, e]⟩

theorem sweptByOther_iff {swept : PerStation Bool} {n : Station} :
    sweptByOther swept n = true ↔ ∃ m, m ≠ n ∧ swept.get m = true := by
  simp [sweptByOther, Station.mem_all]

theorem Vane.closes_iff {v : Vane} : v.closes = true ↔ v = .clearing ∨ v = .clear := by
  cases v <;> simp [Vane.closes]

/-- A zone is closed to a station: its swept set holds another, or another member is CLEARING or CLEAR (R46). -/
theorem State.closedTo_iff {s : State} {z : Zone} {d : ZoneDyn} {n : Station}
    (record : s.zones.get z = some d) :
    s.closedTo z n = true ↔ (∃ m, m ≠ n ∧ d.swept.get m = true) ∨
      ∃ m ∈ s.members z, m ≠ n ∧ ((s.vane.get m).vane = .clearing ∨ (s.vane.get m).vane = .clear) := by
  simp only [State.closedTo, record, Bool.or_eq_true, sweptByOther_iff, List.any_eq_true,
    Bool.and_eq_true, bne_iff_ne, Vane.closes_iff]

theorem zoneViewed_zoneView {s : State} {z : Zone} {d : ZoneDyn} (record : s.zones.get z = some d) :
    zoneViewed s z d (s.zoneView z d) := by
  refine ⟨rfl, fun free => ?_, fun k b reserved found => ?_, fun n => ?_⟩
  · simp [State.zoneView, State.reserving, record, free]
  · simp [State.zoneView, State.reserving, record, reserved, found]
  · simp only [State.zoneView, List.mem_filter, State.closedTo_iff record]

/-! ### READ_RECORD (R183) -/

theorem State.readRecord_range {s : State} {image cls k : Nat}
    (h : 1 < image ∨ 2 < cls ∨ (cls = 0 ∧ Station.ofNumber? k = none) ∨
      (cls = 1 ∧ Zone.ofNumber? k = none)) : s.readRecord image cls k = (s, .range, .empty) := by
  have none : ((s.image? image).bind fun p => recordOf p cls k) = .none := by
    rcases h with image' | cls' | ⟨rfl, station⟩ | ⟨rfl, zone⟩
    · have noImage : s.image? image = .none := by
        unfold State.image?
        split
        · omega
        · omega
        · rfl
      rw [noImage]
      rfl
    · have noRecord (p : PlanImage) : recordOf p cls k = .none := by
        unfold recordOf
        split
        · omega
        · omega
        · omega
        · rfl
      simp [noRecord]
    · simp [recordOf, station]
    · simp [recordOf, zone]
  simp [State.readRecord, none]

/-- The record of an image that a class and a number name. -/
theorem State.readRecord_some {s : State} {image cls k : Nat} {p : PlanImage} {d : Data}
    (h : (image = 0 ∧ p = s.plan.live) ∨ (image = 1 ∧ p = s.plan.staged))
    (record : recordOf p cls k = some d) : s.readRecord image cls k = (s, .ok, d) := by
  rcases h with ⟨rfl, rfl⟩ | ⟨rfl, rfl⟩ <;> simp [State.readRecord, State.image?, record]

/-- Settles O29: each query leaves the state, and its answer shows what the view lemmas say. -/
theorem supervisorQueriesAnswerTheStateAsItStands :
    Obligations.SupervisorQueriesAnswerTheStateAsItStands := by
  unfold Obligations.SupervisorQueriesAnswerTheStateAsItStands
  intro s tag
  have read {image cls k : Nat} {code : Code} {data : Data}
      (h : ∀ t : State, t.plan = s.plan → t.readRecord image cls k = (t, code, data)) :
      exec (.readRecord tag image cls k) s =
        .next (replied .supervisor (.answerSL tag 0x36 code data) s) :=
    congrArg _ (command_of_unchanged (h (s.taken .supervisor) rfl))
  refine ⟨fun k none => ?_, fun k none => ?_, fun k z named none => ?_, fun first filter above => ?_,
    fun k none => ?_, fun image cls k out => ?_, fun k n named => ?_, fun k z d named record => ?_,
    fun first filter within => ?_, fun k a named => ?_, ?_, ?_, fun image p images => ⟨fun k n named =>
    ?_, fun k z named => ?_, fun k => ?_⟩, ?_⟩
  · exact congrArg _ (command_of_unchanged (by simp [State.queryStation, none]))
  · exact congrArg _ (command_of_unchanged (by simp [State.queryZone, none]))
  · have record : (s.taken .supervisor).zones.get z = .none := none
    exact congrArg _ (command_of_unchanged (by simp [State.queryZone, named, record]))
  · exact congrArg _ (command_of_unchanged (by simp [State.queryBookings, above]))
  · exact congrArg _ (command_of_unchanged (by simp [State.querySensor, none]))
  · exact read fun t _ => State.readRecord_range out
  · exact ⟨_, congrArg _ (command_of_unchanged (by simp only [State.queryStation, named]; rfl)),
      stationViewed_stationView s n⟩
  · have taken : (s.taken .supervisor).zones.get z = some d := record
    exact ⟨_, congrArg _ (command_of_unchanged (by simp only [State.queryZone, named, taken]; rfl)),
      zoneViewed_zoneView record⟩
  · have below : ¬ 6 < filter := Nat.not_lt.mpr within
    exact congrArg _ (command_of_unchanged (by rw [State.queryBookings, if_neg below]; rfl))
  · exact congrArg _ (command_of_unchanged (by simp only [State.querySensor, named]; rfl))
  · exact congrArg Host.Outcome.next (command_of_unchanged (work := State.queryTime) rfl)
  · refine ⟨s.planView.stations, s.planView.zones, ?_, fun n => ?_, fun z => ?_⟩
    · refine congrArg Host.Outcome.next (command_of_unchanged (work := State.queryPlan) ?_)
      have writing : (s.plan.storeState != .idle) = !decide (s.plan.storeState = .idle) := rfl
      rw [← writing]
      rfl
    · simp [State.planView, Station.mem_all]
    · simp [State.planView, State.zoneChanged, Zone.mem_all]
  · exact read fun t same => State.readRecord_some (p := p) (by rwa [same]) (by simp [recordOf, named])
  · exact read fun t same => State.readRecord_some (p := p) (by rwa [same]) (by simp [recordOf, named])
  · exact read fun t same => State.readRecord_some (p := p) (by rwa [same]) rfl
  · exact congrArg Host.Outcome.next (command_of_unchanged (work := State.queryAlarms) rfl)

/-! ### The queries of a crane (R35, R36) -/

theorem State.myZone_of_member {s : State} {n : Station} {z : Zone} {m : Member}
    (h : s.member z n = some m) : s.myZone n z = some
      { zone := z, lo := m.lo, hi := m.hi, floor := m.floor,
        others := (s.members z).filter fun k => k != n } := by
  simp [State.myZone, h]

/-- Every listed zone has an entry, in the order of the zones. -/
theorem State.map_zone_filterMap_myZone {s : State} {n : Station} {zs : List Zone}
    (members : ∀ z ∈ zs, s.isMember z n = true) :
    (zs.filterMap (s.myZone n)).map (·.zone) = zs := by
  induction zs with
  | nil => rfl
  | cons z zs ih =>
    obtain ⟨m, member⟩ := Option.isSome_iff_exists.mp (members z (by simp))
    rw [List.filterMap_cons_some (State.myZone_of_member member), List.map_cons,
      ih fun y mem => members y (by simp [mem])]

/-- Settles O30: each query leaves the state; the listed zones and bookings are read off their definitions. -/
theorem craneQueriesChangeNothing : Obligations.CraneQueriesChangeNothing := by
  unfold Obligations.CraneQueriesChangeNothing
  refine ⟨fun s n first off => ⟨congrArg _ (onlineRequest_of_not_online off),
    congrArg _ (onlineRequest_of_not_online off)⟩, fun s n first on => ⟨fun above => ?_,
    fun within => ?_, congrArg _ (onlineRequest_of_unchanged on rfl)⟩⟩
  · exact congrArg _ (onlineRequest_of_unchanged on (by simp [State.listZones, above]))
  · intro zs
    have members : ∀ z ∈ zs.take 16, s.isMember z n = true := fun z mem =>
      (State.mem_memberZones.mp (List.mem_of_mem_filter (List.mem_of_mem_take mem))).2
    refine ⟨(zs.take 16).filterMap (s.myZone n), congrArg _ (onlineRequest_of_unchanged on ?_),
      State.map_zone_filterMap_myZone members, fun e mem => ?_⟩
    · rw [State.listZones, if_neg (Nat.not_lt.mpr within)]
      rfl
    · obtain ⟨z, -, entry⟩ := List.mem_filterMap.mp mem
      obtain ⟨m, member, rfl⟩ := Option.map_eq_some_iff.mp entry
      exact ⟨m, member, rfl, rfl, rfl, fun k => by simp⟩

end Sys2Proof.Machine
end

section
/-! Staging (R3, R5, R6, R7): what the checks accept, what an accepted record carries, and what staging writes. -/

namespace Sys2Proof.Machine

open Sys2Proof.Safety

/-! ### A station record (R3) -/

@[simp] theorem profileAt_readStation (w : WireStation) (i : ProfileIx) :
    profileAt (readStation w) i = readProfile w.profiles[i.val] := by
  simp [profileAt, readStation]

theorem anyInUse_readStation {w : WireStation} :
    (readStation w).profiles.toList.any (·.inUse) = true ↔
      ∃ i : ProfileIx, w.profiles[i.val].inUse = 1 := by
  simp [readStation, readProfile, yesNo, Vector.toList_ofFn, Fin.exists_fin_succ]

/-- The fields are in range, threshold by threshold and profile by profile. -/
theorem stationFieldsOk_iff {w : WireStation} :
    stationFieldsOk w = true ↔
      (w.enabled ≤ 1 ∧ w.identity ≤ 4294967295 ∧ 1 ≤ w.jibRadius ∧ w.jibRadius ≤ 1023 ∧
        1 ≤ w.vRated ∧ w.vRated ≤ 4095 ∧ w.source ≤ 1 ∧ w.anemometers ≤ 15 ∧ w.hysteresis ≤ 200 ∧
        (w.persistence = 1 ∨ w.persistence = 4 ∨ w.persistence = 8 ∨ w.persistence = 16) ∧
        60 ≤ w.dropDwell ∧ w.dropDwell ≤ 3600 ∧ w.derateCaution ≤ 1000 ∧ w.derateHold ≤ 1000 ∧
        w.mode ≤ 1 ∧ w.rampDown ≤ 7 ∧ w.rampUp ≤ 7 ∧ 6 ≤ w.reportTimeout ∧ w.reportTimeout ≤ 50 ∧
        5 ≤ w.offlineDwell ∧ w.offlineDwell ≤ 120 ∧ 5 ≤ w.entryTimeout ∧ w.entryTimeout ≤ 255 ∧
        w.releaseDwell ≤ 255 ∧ w.loadStart ≤ 1) ∧
      (∀ p ∈ w.profiles.toList, 1 ≤ p.decel ∧ p.decel ≤ 1023 ∧ p.slewMargin ≤ 4095 ∧
        p.radialMargin ≤ 255 ∧ p.speedCap ≤ 1000 ∧ p.inUse ≤ 1) ∧
      (∀ t, t = w.gustAt ∨ t = w.meanAt → t.caution ≤ 999 ∧ t.hold ≤ 999 ∧ t.shutdown ≤ 999) ∧
      (w.source = 0 ∨ w.fixedIndex ≤ 7) := by
  simp only [stationFieldsOk, profileOk, levelsOk, yesNoOk, inRange, Bool.and_eq_true,
    Bool.or_eq_true, List.all_eq_true, decide_eq_true_eq, beq_iff_eq, List.contains_iff_mem,
    List.mem_cons, List.not_mem_nil, or_false, Nat.zero_le, true_and, forall_eq_or_imp, forall_eq, and_assoc]
  tauto

/-- The source of an accepted station record (R199: the index counts for a FIXED source alone). -/
theorem readStation_source (w : WireStation) :
    (readStation w).source =
      if w.source = 0 then .crane else .fixed (Fin.ofNat 8 w.fixedIndex) := rfl

theorem fin_ofNat_val {i : ProfileIx} {k : Nat} (h : i.val = k) : Fin.ofNat 8 k = i := by
  subst h
  simp

/-- The checks beyond the ranges, for fields in range. -/
theorem stationConsistent_iff {w : WireStation} (source : w.source ≤ 1)
    (index : w.source = 0 ∨ w.fixedIndex ≤ 7) :
    stationConsistent (readStation w) = true ↔
      (∀ t, t = w.gustAt ∨ t = w.meanAt →
        t.caution ≤ t.hold ∧ t.hold ≤ t.shutdown ∧ w.hysteresis < t.caution) ∧
      (∃ i : ProfileIx, w.profiles[i.val].inUse = 1) ∧
      (w.source = 1 → ∃ i : ProfileIx, i.val = w.fixedIndex ∧ w.profiles[i.val].inUse = 1) := by
  have named : (w.source = 0 ∧ (readStation w).source = .crane) ∨ ∃ i : ProfileIx,
      w.source = 1 ∧ i.val = w.fixedIndex ∧ (readStation w).source = .fixed i := by
    rw [readStation_source]
    by_cases crane : w.source = 0
    · exact .inl ⟨crane, if_pos crane⟩
    · refine .inr ⟨⟨w.fixedIndex, by omega⟩, by omega, rfl, ?_⟩
      rw [if_neg crane, fin_ofNat_val (i := ⟨w.fixedIndex, by omega⟩) rfl]
  have levels : (levelsRise w.gustAt && levelsRise w.meanAt &&
        decide (w.hysteresis < w.gustAt.caution) && decide (w.hysteresis < w.meanAt.caution)) = true ↔
      ∀ t, t = w.gustAt ∨ t = w.meanAt →
        t.caution ≤ t.hold ∧ t.hold ≤ t.shutdown ∧ w.hysteresis < t.caution := by
    simp only [Bool.and_eq_true, levelsRise, decide_eq_true_eq, forall_eq_or_imp, forall_eq]
    tauto
  have first : (levelsRise (readStation w).gustAt && levelsRise (readStation w).meanAt &&
        decide ((readStation w).hysteresis < (readStation w).gustAt.caution) &&
        decide ((readStation w).hysteresis < (readStation w).meanAt.caution)) = true ↔ _ := levels
  unfold stationConsistent
  rw [Bool.and_eq_true, Bool.and_eq_true, first, anyInUse_readStation, and_assoc]
  refine and_congr_right fun _ => and_congr_right fun _ => ?_
  rcases named with ⟨crane, e⟩ | ⟨i, fixed, here, e⟩
  · rw [e]
    simp [crane]
  · rw [e]
    simp only [profileAt_readStation, readProfile, yesNo, beq_iff_eq, fixed, forall_const]
    refine ⟨fun used => ⟨i, here, used⟩, fun ⟨j, there, used⟩ => ?_⟩
    obtain rfl : j = i := Fin.ext (there.trans here.symm)
    exact used

theorem acceptStation_isSome {w : WireStation} :
    (acceptStation w).isSome = true ↔ stationStaged w := by
  have both : (acceptStation w).isSome = true ↔
      stationFieldsOk w = true ∧ stationConsistent (readStation w) = true := by
    rw [← Bool.and_eq_true]
    unfold acceptStation
    split <;> simp_all
  rw [both, stationFieldsOk_iff]
  unfold stationStaged
  constructor
  · rintro ⟨⟨fields, profiles, levels, index⟩, consistent⟩
    obtain ⟨rise, used, named⟩ := (stationConsistent_iff (by omega) index).mp consistent
    exact ⟨fields, profiles, fun t mem => ⟨(rise t mem).1, (rise t mem).2.1, (levels t mem).2.2,
      (rise t mem).2.2⟩, used, named⟩
  · rintro ⟨fields, profiles, levels, used, named⟩
    have index : w.source = 0 ∨ w.fixedIndex ≤ 7 := by
      by_cases fixed : w.source = 1
      · obtain ⟨i, here, -⟩ := named fixed
        exact .inr (by omega)
      · exact .inl (by omega)
    refine ⟨⟨fields, profiles, fun t mem => ?_, index⟩,
      (stationConsistent_iff (by omega) index).mpr ⟨fun t mem => ?_, used, named⟩⟩
    · obtain ⟨caution, hold, shutdown, -⟩ := levels t mem
      omega
    · obtain ⟨caution, hold, shutdown, below⟩ := levels t mem
      exact ⟨caution, hold, below⟩

theorem eq_readStation_of_accept {w : WireStation} {r : StationRec}
    (h : acceptStation w = some r) : r = readStation w := by
  unfold acceptStation at h
  split at h <;> simp_all

theorem yesNo_iff {v : Nat} : yesNo v = true ↔ v = 1 := by simp [yesNo]

theorem stationCarried_of_accept {w : WireStation} {r : StationRec}
    (h : acceptStation w = some r) : stationCarried w r := by
  obtain ⟨-, -, -, -, named⟩ := acceptStation_isSome.mp (Option.isSome_of_eq_some h)
  obtain rfl := eq_readStation_of_accept h
  refine ⟨yesNo_iff, rfl, rfl, rfl, fun crane => if_pos crane, fun fixed => ?_, fun i => ?_,
    fun a => ?_, rfl, rfl, rfl, rfl, rfl, rfl, rfl, fun acting => if_pos acting, fun advisory => ?_,
    rfl, rfl, rfl, rfl, rfl, rfl, yesNo_iff⟩
  · obtain ⟨i, here, -⟩ := named fixed
    exact ⟨i, here, by rw [readStation_source, if_neg (by omega), fin_ofNat_val here]⟩
  · rw [profileAt_readStation]
    simp [readProfile, yesNo, Bool.beq_eq_decide_eq]
  · cases a <;> rfl
  · exact if_neg (by omega)

/-! ### A zone record (R5) -/

theorem Station.ofNumber?_isSome {k : Nat} :
    (Station.ofNumber? k).isSome = true ↔ 1 ≤ k ∧ k ≤ 6 := by
  constructor
  · intro h
    obtain ⟨n, e⟩ := Option.isSome_iff_exists.mp h
    have := Station.number_of_ofNumber? e
    cases n <;> simp_all [Station.number] <;> omega
  · rintro ⟨low, high⟩
    interval_cases k <;> rfl

theorem acceptZone_isSome {w : WireZone} : (acceptZone w).isSome = true ↔ zoneStaged w := by
  have accepted : (acceptZone w).isSome = true ↔
      yesNoOk w.enabled = true ∧ w.members.all memberOk = true ∧ w.members.length ≤ 4 ∧
        (w.members.map (·.station)).Nodup ∧ (w.enabled = 0 ∨ 2 ≤ w.members.length) := by
    unfold acceptZone
    split
    case isTrue ok => simpa [and_assoc] using ok
    case isFalse refused => simpa [and_assoc] using refused
  rw [accepted]
  unfold zoneStaged
  have members : w.members.all memberOk = true ↔ ∀ m ∈ w.members, 1 ≤ m.station ∧ m.station ≤ 6 ∧
      m.floor ≤ 1023 ∧ (m.hi - m.lo).toNat + 1 ≤ 32768 := by
    simp [memberOk, inRange, intervalWidth, and_assoc]
  rw [members]
  simp only [yesNoOk, decide_eq_true_eq]
  constructor
  · rintro ⟨enabled, ok, length, nodup, two⟩
    exact ⟨enabled, length, nodup, ok, fun on => two.resolve_left (by omega)⟩
  · rintro ⟨enabled, length, nodup, ok, two⟩
    refine ⟨enabled, ok, length, nodup, ?_⟩
    by_cases on : w.enabled = 1
    · exact .inr (two on)
    · exact .inl (by omega)

/-- Members in range are read as they stand. -/
theorem map_readMembers {ms : List WireMember}
    (ok : ∀ m ∈ ms, (Station.ofNumber? m.station).isSome = true) :
    (readMembers ms).map (fun m => (m.station.number, m.lo, m.hi, m.floor)) =
      ms.map fun m => (m.station, m.lo, m.hi, m.floor) := by
  induction ms with
  | nil => rfl
  | cons m ms ih =>
    obtain ⟨n, named⟩ := Option.isSome_iff_exists.mp (ok m (by simp))
    have rest := ih fun k mem => ok k (by simp [mem])
    simp only [readMembers] at rest
    simp [readMembers, named, rest, Station.number_of_ofNumber? named]

theorem zoneCarried_of_accept {w : WireZone} {r : ZoneRec} (h : acceptZone w = some r) :
    zoneCarried w r := by
  obtain ⟨-, -, -, ok, -⟩ := acceptZone_isSome.mp (Option.isSome_of_eq_some h)
  have record : r = { enabled := yesNo w.enabled, members := readMembers w.members } := by
    unfold acceptZone at h
    split at h <;> simp_all
  subst record
  refine ⟨yesNo_iff, map_readMembers fun m mem => Station.ofNumber?_isSome.mpr ?_⟩
  obtain ⟨low, high, -⟩ := ok m mem
  exact ⟨low, high⟩

/-! ### The plan-wide record (R6) -/

theorem acceptSite_eq (c d e : Nat) : acceptSite c d e =
    if 10 ≤ c ∧ c ≤ 600 ∧ e ≤ 1 then
      some { clearanceTimeout := c, siteDerate := min d 1000, realign := decide (e = 1) }
    else none := by
  unfold acceptSite
  simp only [inRange, yesNoOk, Bool.and_eq_true, decide_eq_true_eq, and_assoc, yesNo,
    Bool.beq_eq_decide_eq]

/-! ### What staging writes -/

/-- Settles O23: the checks field by field, and each staging command by the definition of its work. -/
theorem stagingReplacesTheStagedRecord : Obligations.StagingReplacesTheStagedRecord := by
  unfold Obligations.StagingReplacesTheStagedRecord
  refine ⟨fun w => ⟨acceptStation_isSome, fun r => stationCarried_of_accept⟩,
    fun w => ⟨acceptZone_isSome, fun r => zoneCarried_of_accept⟩, acceptSite_eq,
    fun s tag absent => ?_⟩
  intro p put ok
  have free : (s.taken .supervisor).commitPending = false := by
    simp [State.commitPending, State.taken, State.setRx, absent]
  have answers {cmd : Nat} {work : State → State × Code × Data} {u : State} {code : Code}
      (h : work (s.taken .supervisor) = (u.taken .supervisor, code, .empty)) :
      Host.Outcome.next (s.command tag cmd work) =
        (.next (replied .supervisor (.answerSL tag cmd code .empty) u) :
          Host.Outcome State Fault Refusal) :=
    congrArg _ (State.command_answers s tag cmd work h)
  refine ⟨fun number f n r named record => answers ?_, fun number f z r named record => answers ?_,
    fun c d e r record => answers ?_, answers ?_, fun number f refused => answers ?_,
    fun number f refused => answers ?_, fun c d e refused => answers ?_⟩
  · simp only [State.stageStation, free, named, record]
    rfl
  · simp only [State.stageZone, free, named, record]
    rfl
  · simp only [State.stageSite, free, record]
    rfl
  · simp only [State.restage, free]
    rfl
  · simp only [State.stageStation, free]
    rcases refused with unnamed | refused
    · simp [unnamed]
    · simp [refused]
  · simp only [State.stageZone, free]
    rcases refused with unnamed | refused
    · simp [unnamed]
    · simp [refused]
  · simp [State.stageSite, free, refused]

end Sys2Proof.Machine
end

section
/-! Reading back what the part sends: the fields of a frame (R195), and the records of the plan (R199). -/

namespace Sys2Proof.Machine

open Sys2Proof.Safety

/-! ### Fields (R195) -/

@[simp] theorem length_u8 (v : Nat) : (u8 v).length = 1 := rfl
@[simp] theorem length_u16 (v : Nat) : (u16 v).length = 2 := rfl
@[simp] theorem length_u32 (v : Nat) : (u32 v).length = 4 := rfl
@[simp] theorem length_flag (b : Bool) : (flag b).length = 1 := rfl

/-- A field that begins behind a first part. -/
theorem field_append {a b : List Byte} {n k w : Nat} (length : a.length = n) :
    field (a ++ b) (k + n) w = field b k w := by
  subst length
  rw [field, Nat.add_comm, ← List.drop_drop, List.drop_left, field]

/-- A field that is the first part. -/
theorem field_front {a b : List Byte} {w : Nat} (length : a.length = w) :
    field (a ++ b) 0 w = bytesValue a := by
  subst length
  simp [field]

theorem field_u8_skip (v k w : Nat) (b : List Byte) : field (u8 v ++ b) (k + 1) w = field b k w :=
  field_append rfl

theorem field_u16_skip (v k w : Nat) (b : List Byte) :
    field (u16 v ++ b) (k + 2) w = field b k w := field_append rfl

theorem field_u32_skip (v k w : Nat) (b : List Byte) :
    field (u32 v ++ b) (k + 4) w = field b k w := field_append rfl

theorem field_flag_skip (v : Bool) (k w : Nat) (b : List Byte) :
    field (flag v ++ b) (k + 1) w = field b k w := field_append rfl

theorem bytesValue_u8 (v : Nat) : bytesValue (u8 v) = v % 256 := by
  simp [bytesValue, u8]

theorem bytesValue_u16 (v : Nat) : bytesValue (u16 v) = v % 65536 := by
  simp only [bytesValue, u16, u8, List.cons_append, List.nil_append, List.foldl_cons,
    List.foldl_nil, BitVec.toNat_ofNat]
  omega

theorem bytesValue_u32 (v : Nat) : bytesValue (u32 v) = v % 4294967296 := by
  simp only [bytesValue, u32, u16, u8, List.cons_append, List.nil_append, List.foldl_cons,
    List.foldl_nil, BitVec.toNat_ofNat]
  omega

theorem bytesValue_flag (b : Bool) : bytesValue (flag b) = b.toNat := by
  cases b <;> rfl

theorem field_u8 (v : Nat) (b : List Byte) : field (u8 v ++ b) 0 1 = v % 256 :=
  (field_front rfl).trans (bytesValue_u8 v)

theorem field_u16 (v : Nat) (b : List Byte) : field (u16 v ++ b) 0 2 = v % 65536 :=
  (field_front rfl).trans (bytesValue_u16 v)

theorem field_u32 (v : Nat) (b : List Byte) : field (u32 v ++ b) 0 4 = v % 4294967296 :=
  (field_front rfl).trans (bytesValue_u32 v)

theorem field_flag (v : Bool) (b : List Byte) : field (flag v ++ b) 0 1 = v.toNat :=
  (field_front rfl).trans (bytesValue_flag v)

/-- The entries of a list of bytes, each of one width. -/
theorem drop_take_flatMap {α : Type} {f : α → List Byte} {w : Nat} {xs : List α}
    (width : ∀ x ∈ xs, (f x).length = w) (rest : List Byte) {i : Nat} (h : i < xs.length) :
    ((xs.flatMap f ++ rest).drop (w * i)).take w = f xs[i] := by
  induction xs generalizing i with
  | nil => cases h
  | cons x xs ih =>
    have first : (f x).length = w := width x (by simp)
    cases i with
    | zero => simp [← first]
    | succ i =>
      have skip : w * (i + 1) = (f x).length + w * i := by rw [first, Nat.mul_succ, Nat.add_comm]
      rw [List.flatMap_cons, List.append_assoc, skip, ← List.drop_drop, List.drop_left]
      exact ih (fun y mem => width y (by simp [mem])) (by simpa using h)

/-! ### The plan-wide record (R6) -/

theorem yesNo_toNat {v : Nat} (h : v ≤ 1) : (yesNo v).toNat = v := by
  interval_cases v <;> rfl

theorem acceptSite_readBack {c d e : Nat} {r : SiteRec} (h : acceptSite c d e = some r) :
    acceptSite (field (siteRecBytes r) 0 2) (field (siteRecBytes r) 2 2)
      (field (siteRecBytes r) 4 1) = some r := by
  rw [acceptSite_eq] at h
  split at h
  case isFalse => cases h
  case isTrue range =>
    obtain ⟨low, high, flagged⟩ := range
    cases h
    have bytes : siteRecBytes ⟨c, min d 1000, decide (e = 1)⟩ =
        u16 c ++ (u16 (min d 1000) ++ (flag (decide (e = 1)) ++ [])) := by simp [siteRecBytes]
    have realign : (decide (e = 1)).toNat = e := yesNo_toNat flagged
    have timeout : field (siteRecBytes ⟨c, min d 1000, decide (e = 1)⟩) 0 2 = c := by
      rw [bytes, field_u16, Nat.mod_eq_of_lt (by omega)]
    have derate : field (siteRecBytes ⟨c, min d 1000, decide (e = 1)⟩) 2 2 = min d 1000 := by
      rw [bytes, field_u16_skip c 0, field_u16, Nat.mod_eq_of_lt (by omega)]
    have flagField : field (siteRecBytes ⟨c, min d 1000, decide (e = 1)⟩) 4 1 = e := by
      rw [bytes, field_u16_skip c 2, field_u16_skip _ 0, field_flag, realign]
    rw [timeout, derate, flagField, acceptSite_eq, if_pos ⟨low, high, flagged⟩]
    simp

/-! ### A zone record (R5) -/

@[simp] theorem length_memberBytes (m : Member) : (memberBytes m).length = 7 := rfl

/-- A member entry in range is read back as the entry staged. -/
def wireMember (m : Member) : WireMember := ⟨m.station.number, m.lo, m.hi, m.floor⟩

theorem angleField_u16 (a : Angle) (b : List Byte) : angleField (u16 a.toNat ++ b) 0 = a := by
  rw [angleField, field_u16, Nat.mod_eq_of_lt a.isLt]
  simp

theorem readWireMember_memberBytes {m : Member} (floor : m.floor < 65536) :
    readWireMember (memberBytes m) = wireMember m := by
  have number : m.station.number < 256 := by cases m.station <;> decide
  have bytes : memberBytes m = u8 m.station.number ++ (u16 m.lo.toNat ++ (u16 m.hi.toNat ++
      (u16 m.floor ++ []))) := by simp [memberBytes]
  have lo : angleField (memberBytes m) 1 = m.lo := by
    rw [bytes, angleField, field_u8_skip _ 0]
    exact angleField_u16 m.lo _
  have hi : angleField (memberBytes m) 3 = m.hi := by
    rw [bytes, angleField, field_u8_skip _ 2, field_u16_skip _ 0]
    exact angleField_u16 m.hi _
  rw [readWireMember, lo, hi, bytes, field_u8, field_u8_skip _ 4, field_u16_skip _ 2,
    field_u16_skip _ 0, field_u16, Nat.mod_eq_of_lt number, Nat.mod_eq_of_lt floor]
  rfl

theorem readMembers_wireMember {ms : List WireMember}
    (ok : ∀ m ∈ ms, (Station.ofNumber? m.station).isSome = true) :
    (readMembers ms).map wireMember = ms := by
  induction ms with
  | nil => rfl
  | cons m ms ih =>
    obtain ⟨n, named⟩ := Option.isSome_iff_exists.mp (ok m (by simp))
    have rest := ih fun k mem => ok k (by simp [mem])
    simp only [readMembers] at rest
    simp [readMembers, named, rest, wireMember, Station.number_of_ofNumber? named]

/-- The listed entries are read back one by one. -/
theorem readWireMembers_listBytes {ms : List Member} (count : ms.length < 256)
    (floor : ∀ m ∈ ms, m.floor < 65536) (enabled : Bool) :
    readWireZone (zoneRecBytes ⟨enabled, ms⟩) =
      { enabled := enabled.toNat, members := ms.map wireMember } := by
  have bytes : zoneRecBytes ⟨enabled, ms⟩ =
      flag enabled ++ (u8 ms.length ++ (ms.flatMap memberBytes ++ [])) := by
    simp [zoneRecBytes, listBytes]
  have length : field (zoneRecBytes ⟨enabled, ms⟩) 1 1 = ms.length := by
    rw [bytes, field_flag_skip _ 0, field_u8, Nat.mod_eq_of_lt count]
  have entry (i : Nat) (h : i < ms.length) :
      ((zoneRecBytes ⟨enabled, ms⟩).drop (2 + 7 * i)).take 7 = memberBytes ms[i] := by
    have front : flag enabled ++ (u8 ms.length ++ (ms.flatMap memberBytes ++ [])) =
        (flag enabled ++ u8 ms.length) ++ (ms.flatMap memberBytes ++ []) := by simp
    have two : (flag enabled ++ u8 ms.length).length = 2 := rfl
    rw [bytes, front, ← List.drop_drop, ← two, List.drop_left]
    exact drop_take_flatMap (fun m _ => length_memberBytes m) [] h
  unfold readWireZone
  rw [length]
  congr 1
  · rw [bytes, field_flag]
  · refine List.ext_getElem (by simp) fun i h _ => ?_
    have below : i < ms.length := by simpa using h
    simp only [List.getElem_map, List.getElem_range, entry i below]
    exact readWireMember_memberBytes (floor _ (List.getElem_mem below))

theorem acceptZone_readBack {w : WireZone} {r : ZoneRec} (h : acceptZone w = some r) :
    acceptZone (readWireZone (zoneRecBytes r)) = some r := by
  obtain ⟨enabled, length, -, ok, -⟩ := acceptZone_isSome.mp (Option.isSome_of_eq_some h)
  have record : r = { enabled := yesNo w.enabled, members := readMembers w.members } := by
    unfold acceptZone at h
    split at h <;> simp_all
  have named (m : WireMember) (mem : m ∈ w.members) : (Station.ofNumber? m.station).isSome = true :=
    Station.ofNumber?_isSome.mpr ⟨(ok m mem).1, (ok m mem).2.1⟩
  have members := readMembers_wireMember named
  have count : (readMembers w.members).length = w.members.length := by
    rw [← List.length_map, members]
  have floor (m : Member) (mem : m ∈ readMembers w.members) : m.floor < 65536 := by
    have staged : wireMember m ∈ w.members := members ▸ List.mem_map_of_mem mem
    have bound : m.floor ≤ 1023 := (ok _ staged).2.2.1
    omega
  have back : readWireZone (zoneRecBytes r) = w := by
    rw [record, readWireMembers_listBytes (by omega) floor, members, yesNo_toNat enabled]
  rw [back, h]

/-! ### A station record (R3) -/

@[simp] theorem length_profileBytes (p : Profile) : (profileBytes p).length = 9 := rfl

theorem readWireProfile_profileBytes {p : WireProfile} (decel : p.decel ≤ 1023)
    (slew : p.slewMargin ≤ 4095) (radial : p.radialMargin ≤ 255) (cap : p.speedCap ≤ 1000)
    (used : p.inUse ≤ 1) : readWireProfile (profileBytes (readProfile p)) = p := by
  have bytes : profileBytes (readProfile p) = u16 p.decel ++ (u16 p.slewMargin ++
      (u16 p.radialMargin ++ (u16 p.speedCap ++ (flag (yesNo p.inUse) ++ [])))) := by
    simp [profileBytes, readProfile]
  unfold readWireProfile
  rw [bytes]
  simp only [field_u16_skip _ 0, field_u16_skip _ 2, field_u16_skip _ 4, field_u16_skip _ 6,
    field_u16, field_flag, yesNo_toNat used]
  congr 1 <;> exact Nat.mod_eq_of_lt (by omega)

/-- A byte that holds a set of addresses is read back as the same byte. -/
theorem bytesValue_addrSetBytes {v : Nat} (h : v ≤ 15) :
    bytesValue (addrSetBytes ⟨v.testBit 0, v.testBit 1, v.testBit 2, v.testBit 3⟩) = v := by
  interval_cases v <;> rfl

/-- The source byte and the index byte (R199). -/
def sourceBytes : ProfileSource → List Byte
  | .crane => u8 0 ++ u8 0
  | .fixed i => u8 1 ++ u8 i.val

/-- The fields behind the profiles and the addresses. -/
def tailBytes (r : StationRec) : List Byte :=
  levelBytes r.gustAt ++ (levelBytes r.meanAt ++ (u16 r.hysteresis ++ (u8 r.persistence ++
    (u16 r.dropDwell ++ (u16 r.derateCaution ++ (u16 r.derateHold ++
    (u8 (if r.mode = .acting then 0 else 1) ++ (u8 r.rampDown ++ (u8 r.rampUp ++
    (u16 r.reportTimeout ++ (u16 r.offlineDwell ++ (u16 r.entryTimeout ++
    (u16 r.releaseDwell ++ (flag r.loadStart ++ []))))))))))))))

/-- The bytes of a station record, from the front to the end. -/
theorem stationRecBytes_eq (r : StationRec) : stationRecBytes r =
    flag r.enabled ++ (u32 r.identity ++ (u16 r.jibRadius ++ (u16 r.vRated ++
      (sourceBytes r.source ++ (r.profiles.toList.flatMap profileBytes ++
      (addrSetBytes r.anemometers ++ tailBytes r)))))) := by
  unfold stationRecBytes tailBytes
  cases r.source with
  | crane => simp only [sourceBytes, List.append_assoc, List.append_nil]
  | fixed i => simp only [sourceBytes, List.append_assoc, List.append_nil]

@[simp] theorem length_sourceBytes (x : ProfileSource) : (sourceBytes x).length = 2 := by
  cases x <;> rfl

@[simp] theorem length_addrSetBytes (t : PerAddr Bool) : (addrSetBytes t).length = 1 := rfl

theorem length_profilesBytes (ps : Vector Profile 8) :
    (ps.toList.flatMap profileBytes).length = 72 := by
  simp [List.length_flatMap]

/-- The fields before the profiles. -/
def headBytes (r : StationRec) : List Byte :=
  flag r.enabled ++ (u32 r.identity ++ (u16 r.jibRadius ++ (u16 r.vRated ++ sourceBytes r.source)))

theorem stationRecBytes_parts (r : StationRec) : stationRecBytes r =
    headBytes r ++ (r.profiles.toList.flatMap profileBytes ++
      (addrSetBytes r.anemometers ++ tailBytes r)) := by
  rw [stationRecBytes_eq]
  simp only [headBytes, List.append_assoc]

theorem length_headBytes (r : StationRec) : (headBytes r).length = 11 := by simp [headBytes]

/-- A field before the profiles. -/
theorem field_head (r : StationRec) {o w : Nat} (h : o + w ≤ 11) :
    field (stationRecBytes r) o w = field (headBytes r) o w := by
  rw [stationRecBytes_parts, field, field, List.drop_append_of_le_length (by
    rw [length_headBytes]; omega), List.take_append_of_le_length (by
    rw [List.length_drop, length_headBytes]; omega)]

theorem field_anemometers (r : StationRec) :
    field (stationRecBytes r) 83 1 = bytesValue (addrSetBytes r.anemometers) := by
  rw [stationRecBytes_parts]
  refine (field_append (n := 11) (k := 72) (length_headBytes r)).trans ?_
  refine (field_append (n := 72) (k := 0) (length_profilesBytes r.profiles)).trans ?_
  exact field_front rfl

/-- A field behind the profiles and the addresses. -/
theorem field_tail (r : StationRec) (k w : Nat) :
    field (stationRecBytes r) (k + 84) w = field (tailBytes r) k w := by
  rw [stationRecBytes_parts]
  refine (field_append (n := 11) (k := k + 73) (length_headBytes r)).trans ?_
  refine (field_append (n := 72) (k := k + 1) (length_profilesBytes r.profiles)).trans ?_
  exact field_append rfl

theorem profile_chunk (r : StationRec) (i : ProfileIx) :
    ((stationRecBytes r).drop (11 + 9 * i.val)).take 9 = profileBytes (profileAt r i) := by
  rw [stationRecBytes_parts, ← List.drop_drop, ← length_headBytes r, List.drop_left,
    drop_take_flatMap (fun p _ => length_profileBytes p) _ (by simp)]
  simp [profileAt]

theorem acting_code {k : Nat} (h : k ≤ 1) :
    (if (if k = 0 then WindMode.acting else .advisory) = .acting then 0 else 1) = k := by
  interval_cases k <;> rfl

/-- What is read back of an accepted station record: what was staged, and the index byte 0 for source CRANE. -/
theorem readWireStation_stationRecBytes {w : WireStation} (h : stationStaged w) :
    readWireStation (stationRecBytes (readStation w)) =
      { w with fixedIndex := if w.source = 0 then 0 else w.fixedIndex } := by
  obtain ⟨fields, profiles, levels, -, named⟩ := h
  obtain ⟨gustCaution, gustHold, gustShutdown, -⟩ := levels w.gustAt (.inl rfl)
  obtain ⟨meanCaution, meanHold, meanShutdown, -⟩ := levels w.meanAt (.inr rfl)
  have chunks : (Vector.ofFn fun i : Fin 8 =>
      readWireProfile (((stationRecBytes (readStation w)).drop (11 + 9 * i.val)).take 9)) =
        w.profiles := by
    refine Vector.ext fun i h => ?_
    obtain ⟨-, decel, slew, radial, cap, used⟩ := profiles w.profiles[i] (by simp)
    simp only [Vector.getElem_ofFn]
    rw [profile_chunk _ ⟨i, h⟩, profileAt_readStation]
    exact readWireProfile_profileBytes decel slew radial cap used
  have source : field (sourceBytes (if w.source = 0 then .crane
      else .fixed (Fin.ofNat 8 w.fixedIndex))) 0 1 = w.source := by
    by_cases crane : w.source = 0
    · rw [if_pos crane, crane]
      rfl
    · have fixed : w.source = 1 := by omega
      rw [if_neg crane, fixed]
      rfl
  have index : field (sourceBytes (if w.source = 0 then .crane
      else .fixed (Fin.ofNat 8 w.fixedIndex))) 1 1 = if w.source = 0 then 0 else w.fixedIndex := by
    by_cases crane : w.source = 0
    · rw [if_pos crane, if_pos crane]
      rfl
    · obtain ⟨i, here, -⟩ := named (by omega)
      rw [if_neg crane, if_neg crane, fin_ofNat_val here]
      refine (field_append (n := 1) (k := 0) (length_u8 1)).trans ?_
      rw [field, List.drop_zero, List.take_of_length_le (by simp), bytesValue_u8]
      omega
  unfold readWireStation
  rw [chunks, field_anemometers]
  simp (disch := omega) only [field_head, field_tail, headBytes, tailBytes, levelBytes, List.append_assoc,
    field_flag_skip, field_u32_skip, field_u16_skip, field_u8_skip, field_flag, field_u32,
    field_u16, field_u8, readStation]
  rw [source, index, bytesValue_addrSetBytes (by omega)]
  simp (disch := omega) only [Nat.mod_eq_of_lt, yesNo_toNat, acting_code]

/-- The index byte of source CRANE is ignored (R199). -/
theorem acceptStation_index (w : WireStation) :
    acceptStation { w with fixedIndex := if w.source = 0 then 0 else w.fixedIndex } =
      acceptStation w := by
  by_cases crane : w.source = 0
  · have fields : stationFieldsOk { w with fixedIndex := if w.source = 0 then 0 else w.fixedIndex } =
        stationFieldsOk w := by simp [stationFieldsOk, crane]
    have record : readStation { w with fixedIndex := if w.source = 0 then 0 else w.fixedIndex } =
        readStation w := by simp [readStation, crane]
    rw [acceptStation, acceptStation, fields, record]
  · rw [if_neg crane]

theorem acceptStation_readBack {w : WireStation} {r : StationRec} (h : acceptStation w = some r) :
    acceptStation (readWireStation (stationRecBytes r)) = some r := by
  have staged := acceptStation_isSome.mp (Option.isSome_of_eq_some h)
  obtain rfl := eq_readStation_of_accept h
  rw [readWireStation_stationRecBytes staged, acceptStation_index, h]

/-- Settles O14: each record's bytes are read back as the fields staged. -/
theorem planRecordsReadBackAsStaged : Obligations.PlanRecordsReadBackAsStaged :=
  ⟨fun _ _ => acceptStation_readBack, fun _ _ => acceptZone_readBack,
    fun _ _ _ _ => acceptSite_readBack⟩

end Sys2Proof.Machine
end

section
/-! The receiver (R193): it takes the frames sent, one after the other. -/

namespace Sys2Proof.Machine

open Sys2Proof.Safety

/-- The bytes of a frame behind its start byte are collected as the frame. -/
theorem collect_envelope (f : Taken) (short : f.payload.length ≤ 254) (rest : List Byte) :
    collect (u8 (f.kind :: f.payload).length ++ (f.kind :: f.payload) ++
      crcBytes (u8 (f.kind :: f.payload).length ++ (f.kind :: f.payload)) ++ rest) =
        .good f rest := by
  have length : (BitVec.ofNat 8 (f.payload.length + 1)).toNat = f.payload.length + 1 := by
    rw [BitVec.toNat_ofNat]
    omega
  have nonzero : BitVec.ofNat 8 (f.payload.length + 1) ≠ 0 := by
    intro zero
    rw [zero] at length
    simp at length
  simp only [u8, crcBytes, List.length_cons, List.cons_append, List.nil_append, List.append_assoc,
    collect, nonzero, if_false, length, List.take_succ_cons, List.drop_succ_cons,
    List.take_left, List.drop_left, if_true]

/-- A receiver that hunts over frames takes the first and hunts over the others. -/
theorem hunt_envelopes (frames : List Taken) (short : ∀ f ∈ frames, f.payload.length ≤ 254)
    (fuel : Nat) (enough : frames.length < fuel) :
    hunt fuel (frames.flatMap fun f => envelope (f.kind :: f.payload)) = (frames, none) := by
  induction frames generalizing fuel with
  | nil =>
    obtain ⟨k, rfl⟩ := Nat.exists_eq_succ_of_ne_zero (Nat.ne_of_gt (Nat.zero_lt_of_lt enough))
    rfl
  | cons f frames ih =>
    obtain ⟨k, rfl⟩ := Nat.exists_eq_succ_of_ne_zero (Nat.ne_of_gt (Nat.zero_lt_of_lt enough))
    have others := ih (fun g mem => short g (by simp [mem])) k (by simpa using enough)
    have first := collect_envelope f (short f (by simp))
      (frames.flatMap fun f => envelope (f.kind :: f.payload))
    rw [List.flatMap_cons, envelope, List.append_assoc, List.append_assoc, List.singleton_append,
      ← List.append_assoc, hunt, if_pos rfl, first]
    simp only [others]

theorem length_le_flatMap_envelope (frames : List Taken) :
    frames.length ≤ (frames.flatMap fun f => envelope (f.kind :: f.payload)).length := by
  induction frames with
  | nil => exact Nat.zero_le _
  | cons f frames ih =>
    have sent : 1 ≤ (envelope (f.kind :: f.payload)).length := by simp [envelope]
    rw [List.flatMap_cons, List.length_append, List.length_cons]
    omega

/-- Settles O13, by induction on the frames. -/
theorem receiverTakesEveryFrameSent : Obligations.ReceiverTakesEveryFrameSent := by
  unfold Obligations.ReceiverTakesEveryFrameSent
  intro frames short
  exact hunt_envelopes frames short _ (Nat.lt_succ_of_le (length_le_flatMap_envelope frames))

end Sys2Proof.Machine
end

section
/-! Refused plan commands (R8 to R10). -/

namespace Sys2Proof.Machine

open Sys2Proof.Safety

/-! ### The lowest-numbered record that fails (R8) -/

/-- In a list of everything by ascending numbers, the first that passes a test is the lowest. -/
theorem find?_eq_some_iff_lowest {α : Type} {l : List α} {number : α → Nat}
    (ascending : l.Pairwise fun a b => number a < number b) (all : ∀ a, a ∈ l) {p : α → Bool}
    {a : α} : l.find? p = some a ↔ p a = true ∧ ∀ b, number b < number a → p b = false := by
  rw [List.find?_eq_some_iff_append]
  refine and_congr_right fun _ => ⟨?_, fun lowest => ?_⟩
  · rintro ⟨before, after, rfl, fail⟩ b lt
    obtain ⟨-, behind, -⟩ := List.pairwise_append.mp ascending
    have here := all b
    rw [List.mem_append, List.mem_cons] at here
    obtain here | rfl | here := here
    · simpa using fail b here
    · exact absurd lt (Nat.lt_irrefl _)
    · exact absurd lt (Nat.lt_asymm (List.rel_of_pairwise_cons behind here))
  · obtain ⟨before, after, rfl⟩ := List.append_of_mem (all a)
    obtain ⟨-, -, apart⟩ := List.pairwise_append.mp ascending
    exact ⟨before, after, rfl, fun b mem => by simp [lowest b (apart b mem a (by simp))]⟩

theorem Station.all_ascending : Station.all.Pairwise fun a b => a.number < b.number := by decide

theorem Zone.all_ascending : Zone.all.Pairwise fun a b => a.val < b.val := by
  simpa [Zone.all] using List.pairwise_lt_finRange 64

/-- A check by the first failing record names the lowest one, stations first. -/
theorem namesLowest_firstFailing {station : Station → Bool} {zone : Zone → Bool}
    {failsAt : Station → Prop} {failsIn : Zone → Prop} (stations : ∀ n, station n = true ↔ failsAt n)
    (zones : ∀ z, zone z = true ↔ failsIn z) :
    namesLowest (firstFailing station zone) failsAt failsIn := by
  have none : Station.all.find? station = none ↔ ∀ n, ¬ failsAt n := by
    simp [List.find?_eq_none, Station.mem_all, ← stations]
  refine ⟨?_, fun n => ?_, fun z => ?_⟩
  · rw [firstFailing_eq_none_iff]
    simp [← stations, ← zones]
  · have lowest := find?_eq_some_iff_lowest Station.all_ascending Station.mem_all
      (p := station) (a := n)
    simp only [← Bool.not_eq_true, stations] at lowest
    rw [← lowest, firstFailing]
    cases Station.all.find? station <;> simp
  · have lowest := find?_eq_some_iff_lowest Zone.all_ascending Zone.mem_all (p := zone) (a := z)
    simp only [← Bool.not_eq_true, zones] at lowest
    change _ ↔ _ ∧ failsIn z ∧ ∀ y : Zone, y.val < z.val → _
    rw [← lowest, ← none, firstFailing]
    cases Station.all.find? station <;> simp

/-! ### The two checks -/

theorem stationCrossFails_iff {p : PlanImage} {n : Station} : stationCrossFails p n = true ↔
    (p.stations.get n).enabled = true ∧ ∀ a, (p.stations.get n).anemometers.get a = false := by
  simp [stationCrossFails, Addr.mem_all]

theorem zoneCrossFails_iff {p : PlanImage} {z : Zone} : zoneCrossFails p z = true ↔
    (p.zones.get z).enabled = true ∧
      ∃ m ∈ (p.zones.get z).members, (p.stations.get m.station).enabled = false := by
  simp [zoneCrossFails]

theorem State.stationInUse_iff {s : State} {n : Station} : s.stationInUse n = true ↔
    (s.station n).enabled = true ∧ (s.plan.staged.stations.get n).enabled = false ∧
      (s.ctx.get n).link ≠ .offline := by
  simp [State.stationInUse, and_assoc]

theorem ZoneDyn.clear_iff {d : ZoneDyn} : d.clear = true ↔
    d.hold = none ∧ d.waiting = [] ∧ d.reservation = none ∧ ∀ m, d.swept.get m = false := by
  have swept : d.swept = .const false ↔ ∀ m, d.swept.get m = false :=
    ⟨fun h m => by simp [h], fun h => PerStation.eq_of_get fun m => by simp [h]⟩
  simp [ZoneDyn.clear, swept, and_assoc]

theorem State.zoneInUse_iff {s : State} {z : Zone} : s.zoneInUse z = true ↔
    s.plan.staged.zones.get z ≠ s.plan.live.zones.get z ∧ (s.zone z).enabled = true ∧
      ∃ d, s.zones.get z = some d ∧ ¬ (d.hold = none ∧ d.waiting = [] ∧
        d.reservation = none ∧ ∀ m, d.swept.get m = false) := by
  rw [State.zoneInUse, State.zoneChanged, Bool.and_eq_true, Bool.and_eq_true, bne_iff_ne, and_assoc]
  refine and_congr_right fun _ => and_congr_right fun _ => ?_
  cases s.zones.get z with
  | none => simp
  | some d => simp [← ZoneDyn.clear_iff]

/-! ### Refusals -/

/-- A COMMIT that a record fails is refused by the first of the two checks. -/
theorem State.commitChecked_of_crossCheck {s : State} {r : RecordName} (h : s.crossCheck = some r)
    (m : CommitMode) : s.commitChecked m = (s, .invalid, .record r) := by
  simp [State.commitChecked, h]

theorem State.commitChecked_of_inUseCheck {s : State} {r : RecordName} (passed : s.crossCheck = none)
    (h : s.inUseCheck = some r) (m : CommitMode) :
    s.commitChecked m = (s, .inUse, .record r) := by
  simp [State.commitChecked, passed, h]

/-- A COMMIT of any mode whose target, where there is one, lies ahead comes to the two checks. -/
theorem State.commit_checked {s : State} {mode target : Nat}
    (idle : s.plan.pendingCommit = .absent)
    (ahead : mode < 2 ∨
      (mode = 2 ∧ s.clock.timeSet = true ∧ s.clock.time < target ∧ target ≤ maxTime)) :
    ∃ m, readCommitMode mode target = some m ∧ s.commit mode target = s.commitChecked m := by
  have free : s.commitPending = false := by simp [State.commitPending, idle]
  obtain small | ⟨rfl, set, later, fits⟩ := ahead
  · obtain rfl | rfl : mode = 0 ∨ mode = 1 := by omega
    · exact ⟨.now, rfl, by simp [State.commit, free, readCommitMode]⟩
    · exact ⟨.atMark, rfl, by simp [State.commit, free, readCommitMode]⟩
  · refine ⟨.atTime target, by simp [readCommitMode, fits], ?_⟩
    simp [State.commit, free, readCommitMode, fits, set, Nat.not_le.mpr later]

theorem State.commit_timeUnset {s : State} {target : Nat} (idle : s.plan.pendingCommit = .absent)
    (fits : target ≤ maxTime) (unset : s.clock.timeSet = false) :
    s.commit 2 target = (s, .timeUnset, .empty) := by
  simp [State.commit, State.commitPending, idle, readCommitMode, fits, unset]

theorem State.commit_late {s : State} {target : Nat} (idle : s.plan.pendingCommit = .absent)
    (fits : target ≤ maxTime) (set : s.clock.timeSet = true) (late : target ≤ s.clock.time) :
    s.commit 2 target = (s, .late, .empty) := by
  simp [State.commit, State.commitPending, idle, readCommitMode, fits, set, late]

/-- Settles O24: each check by the lowest failing record, and each refusal by its branch. -/
theorem refusedPlanCommandsChangeNothing : Obligations.RefusedPlanCommandsChangeNothing := by
  unfold Obligations.RefusedPlanCommandsChangeNothing
  refine ⟨fun s => ⟨?_, ?_⟩, fun s tag pending => ?_, fun s tag mode target idle ahead => ?_⟩
  · exact namesLowest_firstFailing (fun _ => stationCrossFails_iff) fun _ => zoneCrossFails_iff
  · exact namesLowest_firstFailing (fun _ => State.stationInUse_iff) fun _ => State.zoneInUse_iff
  · have frozen : (s.taken .supervisor).commitPending = true := (State.commitPending_iff _).mpr pending
    exact ⟨fun _ _ => congrArg Host.Outcome.next (command_of_unchanged (if_pos frozen)),
      fun _ _ => congrArg Host.Outcome.next (command_of_unchanged (if_pos frozen)),
      fun _ _ _ => congrArg Host.Outcome.next (command_of_unchanged (if_pos frozen)),
      congrArg Host.Outcome.next (command_of_unchanged (if_pos frozen)),
      fun _ _ => congrArg Host.Outcome.next (command_of_unchanged (if_pos frozen))⟩
  · obtain ⟨m, -, checked⟩ := State.commit_checked (s := s.taken .supervisor) idle ahead
    refine ⟨fun r fails => ?_, fun r passes fails => ?_, fun late fits => ⟨?_, ?_⟩⟩
    · exact congrArg Host.Outcome.next (command_of_unchanged
        (checked.trans (State.commitChecked_of_crossCheck (s := s.taken .supervisor) fails m)))
    · exact congrArg Host.Outcome.next (command_of_unchanged
        (checked.trans (State.commitChecked_of_inUseCheck (s := s.taken .supervisor) passes fails m)))
    · exact fun unset => congrArg Host.Outcome.next (command_of_unchanged
        (State.commit_timeUnset (s := s.taken .supervisor) idle fits unset))
    · exact fun past set => congrArg Host.Outcome.next (command_of_unchanged
        (State.commit_late (s := s.taken .supervisor) idle fits set past))

end Sys2Proof.Machine
end

section
/-! The arithmetic of the limits (R78 to R81): the root, the derate, the target and the ramp. -/

namespace Sys2Proof.Machine

open Sys2Proof.Safety

/-! ### The root -/

/-- Bit by bit from bit `k - 1` down, a root within `2 ^ k` of the true one becomes the true one. -/
theorem isqrtBits_spec {k n r : Nat} (low : r * r ≤ n) (high : n < (r + 2 ^ k) * (r + 2 ^ k)) :
    isqrtBits k n r * isqrtBits k n r ≤ n ∧
      n < (isqrtBits k n r + 1) * (isqrtBits k n r + 1) := by
  induction k generalizing r with
  | zero => exact ⟨low, high⟩
  | succ k ih =>
    rw [isqrtBits]
    split
    case isTrue keeps =>
      refine ih keeps ?_
      rwa [Nat.add_assoc, ← Nat.two_mul, ← Nat.pow_succ']
    case isFalse passes => exact ih low (Nat.not_le.mp passes)

theorem isqrt_spec (n : Nat) : isqrt n * isqrt n ≤ n ∧ n < (isqrt n + 1) * (isqrt n + 1) := by
  refine isqrtBits_spec (Nat.zero_le _) ?_
  rw [Nat.zero_add, ← Nat.pow_add]
  exact Nat.lt_of_lt_of_le Nat.lt_log2_self (Nat.pow_le_pow_right (by decide) (by omega))

/-! ### The target -/

/-- The floor of V_rated · (1000 − D) / 1000 (R80). -/
theorem targetSpeed_spec (vRated derate : Nat) :
    targetSpeed vRated derate * 1000 ≤ vRated * (1000 - derate) ∧
      vRated * (1000 - derate) < (targetSpeed vRated derate + 1) * 1000 := by
  unfold targetSpeed
  omega

/-! ### The ramp -/

theorem rampTicks_pos {code : Nat} (h : code ≠ 0) : 0 < rampTicks code := by
  obtain ⟨k, rfl⟩ := Nat.exists_eq_succ_of_ne_zero h
  exact Nat.mul_pos (by decide) (Nat.two_pow_pos k)

/-- The step of a code is the ceiling of V_rated divided by its ticks. -/
theorem rampStepSize_le_iff {vRated code m : Nat} (h : code ≠ 0) :
    rampStepSize vRated code ≤ m ↔ vRated ≤ m * rampTicks code := by
  have ticks := rampTicks_pos h
  rw [rampStepSize, Nat.div_le_iff_le_mul_add_pred ticks, Nat.mul_comm]
  omega

theorem vRated_le_rampStepSize_mul (vRated : Nat) {code : Nat} (h : code ≠ 0) :
    vRated ≤ rampStepSize vRated code * rampTicks code := (rampStepSize_le_iff h).mp le_rfl

/-- The least step whose ticks make up V_rated is the step of the code. -/
theorem eq_rampStepSize {vRated code step : Nat} (h : code ≠ 0)
    (enough : vRated ≤ step * rampTicks code)
    (least : ∀ m, vRated ≤ m * rampTicks code → step ≤ m) : step = rampStepSize vRated code :=
  Nat.le_antisymm (least _ (vRated_le_rampStepSize_mul vRated h)) ((rampStepSize_le_iff h).mpr enough)

section
variable {r : StationRec} {v target : Nat}

theorem rampStep_down_immediate (code : r.rampDown = 0) (h : target ≤ v) :
    rampStep r v target = target := by
  unfold rampStep
  split <;> grind

theorem rampStep_up_immediate (code : r.rampUp = 0) (h : v ≤ target) :
    rampStep r v target = target := by
  unfold rampStep
  split <;> grind

theorem rampStep_down (code : r.rampDown ≠ 0) (h : target ≤ v) :
    rampStep r v target = max target (v - rampStepSize r.vRated r.rampDown) := by
  unfold rampStep
  rw [if_neg code]
  split <;> [rfl; (rw [if_neg (by omega)]; omega)]

theorem rampStep_up (code : r.rampUp ≠ 0) (h : v ≤ target) :
    rampStep r v target = min target (v + rampStepSize r.vRated r.rampUp) := by
  unfold rampStep
  rw [if_neg (by omega), if_neg code]
  split <;> omega

/-- The ramp down goes on by the step of its code and ends at the target. -/
theorem iterate_rampStep_down (code : r.rampDown ≠ 0) (h : target ≤ v) (k : Nat) :
    (fun x => rampStep r x target)^[k] v =
      max target (v - rampStepSize r.vRated r.rampDown * k) := by
  induction k with
  | zero => rw [Function.iterate_zero, id_eq]; omega
  | succ k ih =>
    rw [Function.iterate_succ_apply', ih, rampStep_down code (Nat.le_max_left ..), Nat.mul_succ]
    omega

theorem iterate_rampStep_up (code : r.rampUp ≠ 0) (h : v ≤ target) (k : Nat) :
    (fun x => rampStep r x target)^[k] v =
      min target (v + rampStepSize r.vRated r.rampUp * k) := by
  induction k with
  | zero => rw [Function.iterate_zero, id_eq]; omega
  | succ k ih =>
    rw [Function.iterate_succ_apply', ih, rampStep_up code (Nat.min_le_left ..), Nat.mul_succ]
    omega

/-- The ramp down keeps between the target and v_wind, and reaches the target within its ticks (R81). -/
theorem rampsDown (rated : v ≤ r.vRated) (h : target ≤ v) :
    target ≤ rampStep r v target ∧ rampStep r v target ≤ v ∧
      (fun x => rampStep r x target)^[max 1 (rampTicks r.rampDown)] v = target := by
  by_cases code : r.rampDown = 0
  · have step := rampStep_down_immediate code h
    rw [code]
    exact ⟨step.ge, step.trans_le h, step⟩
  · have ticks := rampTicks_pos code
    have enough := vRated_le_rampStepSize_mul r.vRated code
    rw [max_eq_right ticks, iterate_rampStep_down code h, rampStep_down code h]
    omega

theorem rampsUp (rated : target ≤ r.vRated) (h : v ≤ target) :
    v ≤ rampStep r v target ∧ rampStep r v target ≤ target ∧
      (fun x => rampStep r x target)^[max 1 (rampTicks r.rampUp)] v = target := by
  by_cases code : r.rampUp = 0
  · have step := rampStep_up_immediate code h
    rw [code]
    exact ⟨h.trans_eq step.symm, step.le, step⟩
  · have ticks := rampTicks_pos code
    have enough := vRated_le_rampStepSize_mul r.vRated code
    rw [max_eq_right ticks, iterate_rampStep_up code h, rampStep_up code h]
    omega

end

/-- The ticks of the codes 1 .. 7 are those of the table. -/
theorem rampTicks_of_mem {code ticks : Nat}
    (h : (code, ticks) ∈ [(1, 20), (2, 40), (3, 80), (4, 160), (5, 320), (6, 640), (7, 1280)]) :
    code ≠ 0 ∧ rampTicks code = ticks := by
  simp only [List.mem_cons, Prod.mk.injEq, List.not_mem_nil, or_false] at h
  obtain ⟨rfl, rfl⟩ | ⟨rfl, rfl⟩ | ⟨rfl, rfl⟩ | ⟨rfl, rfl⟩ | ⟨rfl, rfl⟩ | ⟨rfl, rfl⟩ | ⟨rfl, rfl⟩ := h <;>
    exact ⟨by decide, rfl⟩

/-- Settles O16. -/
theorem limitArithmeticIsExact : Obligations.LimitArithmeticIsExact := by
  unfold Obligations.LimitArithmeticIsExact
  refine ⟨isqrt_spec, fun s n => ⟨fun stop => ?_, fun free => ⟨fun mode => ?_, fun mode => ?_⟩, ?_⟩,
    fun r v target rated reach => ⟨rampsDown rated, rampsUp reach⟩,
    fun r v target ticks step => ⟨fun below => ⟨fun code => ?_, ?_⟩, fun above => ⟨fun code => ?_, ?_⟩, ?_⟩⟩
  · exact if_pos stop
  · simp [derateOf, free, mode]
  · refine ⟨fun stage => ?_, fun stage => ?_, fun stage => ?_, fun stage => ?_⟩ <;>
      simp [derateOf, free, mode, stage]
  · obtain ⟨low, high⟩ := targetSpeed_spec (s.station n).vRated
      (derateOf s.siteStop (s.station n) (s.wind.get n).stage s.siteDerate)
    exact ⟨low, high, targetSpeed_le ..⟩
  · exact rampStep_down_immediate code (Nat.le_of_lt below)
  · rintro ⟨table, enough, least⟩
    obtain ⟨code, rfl⟩ := rampTicks_of_mem table
    rw [rampStep_down code (Nat.le_of_lt below), eq_rampStepSize code enough least]
  · exact rampStep_up_immediate code (Nat.le_of_lt above)
  · rintro ⟨table, enough, least⟩
    obtain ⟨code, rfl⟩ := rampTicks_of_mem table
    rw [rampStep_up code (Nat.le_of_lt above), eq_rampStepSize code enough least]
  · rintro rfl
    simp [rampStep]

end Sys2Proof.Machine
end

section
/-! The computation of a station's limits (R73 to R78, R84, R85). -/

namespace Sys2Proof.Machine

open Sys2Proof.Safety

/-! ### The obstacles (R75) -/

section
variable {m : Member} {p : Position}

theorem angleWithin_iff {θ lo hi : Angle} : angleWithin θ lo hi = true ↔
    if lo ≤ hi then lo ≤ θ ∧ θ ≤ hi else lo ≤ θ ∨ θ ≤ hi := by
  unfold angleWithin
  split <;> simp

theorem obstacleClass_inside_iff : obstacleClass m p = .inside ↔
    angleWithin p.angle m.lo m.hi = true ∧ m.floor ≤ p.radius := by
  unfold obstacleClass
  split <;> simp_all

theorem obstacleClass_slew_iff : obstacleClass m p = .slew ↔
    ¬ angleWithin p.angle m.lo m.hi = true ∧ m.floor ≤ p.radius := by
  unfold obstacleClass
  split <;> simp_all

theorem obstacleClass_radius_iff : obstacleClass m p = .radius ↔
    angleWithin p.angle m.lo m.hi = true ∧ p.radius < m.floor := by
  unfold obstacleClass
  split <;> simp_all

end

/-- A zone counts as held when the station is its holder and no other station sweeps it. -/
theorem State.countsHeld_iff {s : State} {z : Zone} {n : Station} : s.countsHeld z n = true ↔
    s.holder z = some n ∧ ∀ d, s.zones.get z = some d → ∀ k, k ≠ n → d.swept.get k = false := by
  rw [State.countsHeld, Bool.and_eq_true, State.holds, beq_iff_eq]
  refine and_congr_right fun holder => ?_
  cases record : s.zones.get z with
  | none => simp [State.holder, State.holding, record] at holder
  | some d =>
    have swept : (!sweptByOther d.swept n) = true ↔ ∀ k, k ≠ n → d.swept.get k = false := by
      rw [Bool.not_eq_true', ← Bool.not_eq_true, sweptByOther_iff]
      simp
    simpa using swept

/-- The obstacles are the entries of the member zones that do not count as held. -/
theorem State.mem_obstacles {s : State} {n : Station} {m : Member} :
    m ∈ s.obstacles n ↔ obstacleOf s n m := by
  simp only [State.obstacles, List.mem_filterMap, List.mem_filter, obstacleOf, ← s.countsHeld_iff,
    Bool.not_eq_true', Bool.not_eq_true]
  exact exists_congr fun z => ⟨fun ⟨⟨mem, free⟩, own⟩ => ⟨mem, own, free⟩,
    fun ⟨mem, own, free⟩ => ⟨⟨mem, free⟩, own⟩⟩

/-! ### The least of a list -/

/-- The fold by `min` is the least of its start and the list. -/
theorem foldl_min_spec (l : List Nat) (d : Nat) :
    (∀ x ∈ d :: l, l.foldl min d ≤ x) ∧ l.foldl min d ∈ d :: l := by
  induction l generalizing d with
  | nil => simp
  | cons x l ih =>
    obtain ⟨least, mem⟩ := ih (min d x)
    rw [List.foldl_cons]
    have start := least _ List.mem_cons_self
    refine ⟨fun y here => ?_, ?_⟩
    · simp only [List.mem_cons] at here
      obtain rfl | rfl | here := here
      · omega
      · omega
      · exact least y (by simp [here])
    · rw [List.mem_cons] at mem
      obtain same | mem := mem
      · rw [same]
        obtain e | e := min_choice d x <;> simp [e]
      · simp [mem]

/-! ### Gap speeds and the radius limit -/

/-- A gap speed within V_rated is 0 by its margin, and otherwise the lesser of V_rated and the root. -/
theorem gapSpeed_some_spec (vRated : Nat) (f : Figures) (g : Nat) :
    (g ≤ f.slewMargin → gapSpeed vRated f (some g) = 0) ∧
      (f.slewMargin < g → gapSpeed vRated f (some g) ≤ vRated ∧
        gapSpeed vRated f (some g) * gapSpeed vRated f (some g) ≤
          2 * f.decel * (g - f.slewMargin) ∧
        (gapSpeed vRated f (some g) = vRated ∨
          2 * f.decel * (g - f.slewMargin) <
            (gapSpeed vRated f (some g) + 1) * (gapSpeed vRated f (some g) + 1))) := by
  refine ⟨fun near => if_pos near, fun far => ?_⟩
  obtain ⟨low, high⟩ := isqrt_spec (2 * f.decel * (g - f.slewMargin))
  rw [gapSpeed, if_neg (Nat.not_le.mpr far)]
  refine ⟨min_le_left .., le_trans (Nat.mul_le_mul (min_le_right ..) (min_le_right ..)) low, ?_⟩
  obtain rated | root := min_choice vRated (isqrt (2 * f.decel * (g - f.slewMargin)))
  · exact .inl rated
  · exact .inr (by rwa [root])

/-- The gap speed over a list of obstacles is that of R76 and R78. -/
theorem gapSpeedIs_gapOver (r : StationRec) (f : Figures) {obstacles : List Member}
    {obstacle : Member → Prop} (same : ∀ m, m ∈ obstacles ↔ obstacle m) (p : Position)
    (distance : Position → Member → Nat) :
    gapSpeedIs r f obstacle p distance (gapSpeed r.vRated f (gapOver obstacles p distance)) := by
  have inside : (obstacles.any fun m => obstacleClass m p == .inside) = true ↔
      ∃ m, obstacle m ∧ obstacleClass m p = .inside := by
    simp [← same]
  have slew (m : Member) : m ∈ (obstacles.filter fun m => obstacleClass m p == .slew) ↔
      obstacle m ∧ obstacleClass m p = .slew := by
    simp [← same]
  unfold gapOver
  refine ⟨fun within => ?_, fun out clear => ?_, fun out near => ?_⟩
  · rw [if_pos (inside.mpr within)]
    exact (gapSpeed_some_spec r.vRated f 0).1 (Nat.zero_le _)
  · have none : (obstacles.filter fun m => obstacleClass m p == .slew) = [] :=
      List.eq_nil_iff_forall_not_mem.mpr fun m mem => clear m ((slew m).mp mem)
    rw [if_neg fun h => out (inside.mp h), none]
    rfl
  · rw [if_neg fun h => out (inside.mp h)]
    cases distances : (obstacles.filter fun m => obstacleClass m p == .slew).map (distance p) with
    | nil =>
      obtain ⟨m, found⟩ := near
      rw [List.map_eq_nil_iff] at distances
      have mem := (slew m).mpr found
      rw [distances] at mem
      cases mem
    | cons d ds =>
      obtain ⟨least, mem⟩ := foldl_min_spec ds d
      have spec := gapSpeed_some_spec r.vRated f (min (ds.foldl min d) 32768)
      refine ⟨min (ds.foldl min d) 32768, min_le_right .., fun m found => ?_, ?_, spec.1, spec.2⟩
      · refine le_trans (min_le_left ..) (least _ ?_)
        rw [← distances]
        exact List.mem_map_of_mem ((slew m).mpr found)
      · obtain e | e := min_choice (ds.foldl min d) 32768
        · rw [← distances] at mem
          obtain ⟨m, found, own⟩ := List.mem_map.mp mem
          exact .inr ⟨m, (slew m).mp found, own.trans e.symm⟩
        · exact .inl e

/-- The radius limit over a list of obstacles is that of R77. -/
theorem radiusLimitIs_radiusLimitOver (r : StationRec) (f : Figures) {obstacles : List Member}
    {obstacle : Member → Prop} (same : ∀ m, m ∈ obstacles ↔ obstacle m) (p : Position) :
    radiusLimitIs r f obstacle p (radiusLimitOver obstacles p f.radialMargin r.jibRadius) := by
  have bounds (m : Member) : m ∈ (obstacles.filter fun m => obstacleClass m p == .radius) ↔
      obstacle m ∧ obstacleClass m p = .radius := by
    simp [← same]
  obtain ⟨least, mem⟩ := foldl_min_spec ((obstacles.filter fun m => obstacleClass m p == .radius).map
    fun m => m.floor - f.radialMargin - 1) 1023
  unfold radiusLimitOver
  refine ⟨min_le_left .., le_trans (min_le_right ..) (least _ (by simp)), fun m found => ?_, ?_⟩
  · refine le_trans (min_le_right ..) (least _ (List.mem_cons_of_mem _ ?_))
    exact List.mem_map_of_mem (f := fun m : Member => m.floor - f.radialMargin - 1)
      ((bounds m).mpr found)
  · obtain e | e := min_choice r.jibRadius
      (((obstacles.filter fun m => obstacleClass m p == .radius).map
        fun m => m.floor - f.radialMargin - 1).foldl min 1023)
    · have default := least 1023 List.mem_cons_self
      exact .inl (by omega)
    · rw [e]
      obtain start | own := List.mem_cons.mp mem
      · exact .inl (by omega)
      · obtain ⟨m, found, own⟩ := List.mem_map.mp own
        exact .inr ⟨m, (bounds m).mp found, own.symm⟩

/-! ### The computation (R73, R74, R84, R85) -/

section
variable {s : State} {n : Station}

theorem State.recompute_of_disabled (h : (s.station n).enabled = false) :
    s.recompute n = s.setLim n
      { s.lim.get n with gapCw := 0, gapCcw := 0, cw := 0, ccw := 0, radius := 0 } := by
  simp [State.recompute, h]

/-- A station that is VANING, without a position or without a profile has zeros (R85). -/
theorem State.recompute_of_unlimited (on : (s.station n).enabled = true)
    (h : (s.vane.get n).vane = .vaning ∨ (s.ctx.get n).position = none ∨
      s.profileInEffect n = none) :
    s.recompute n = s.setLim n
      { s.lim.get n with inEffect := s.profileInEffect n, gapCw := 0, gapCcw := 0, cw := 0,
                         ccw := 0, radius := 0 } := by
  unfold State.recompute
  simp only [on, Bool.not_true, Bool.false_eq_true, if_false]
  split <;> simp_all

/-- The limits computed from a position and figures (R76 to R78, R84). -/
def State.computedLimits (s : State) (n : Station) (p : Position) (f : Figures) : LimitCtx :=
  let r := s.station n
  let gapCw := gapSpeed r.vRated f (gapOver (s.obstacles n) p clockwiseTo)
  let gapCcw := gapSpeed r.vRated f (gapOver (s.obstacles n) p counterClockwiseTo)
  let cap := r.vRated * f.speedCap / 1000
  { s.lim.get n with
    inEffect := some f, gapCw, gapCcw
    cw := slewLimit (s.ctx.get n).mp gapCw (s.lim.get n).vWind cap
    ccw := slewLimit (s.ctx.get n).mp gapCcw (s.lim.get n).vWind cap
    radius := radiusLimitOver (s.obstacles n) p f.radialMargin r.jibRadius }

theorem State.recompute_of_figures {p : Position} {f : Figures}
    (on : (s.station n).enabled = true) (vane : (s.vane.get n).vane ≠ .vaning)
    (position : (s.ctx.get n).position = some p) (figures : s.profileInEffect n = some f) :
    s.recompute n = s.setLim n (s.computedLimits n p f) := by
  unfold State.recompute
  simp only [on, Bool.not_true, Bool.false_eq_true, if_false, position, figures]
  rfl

theorem State.inEffect_recompute (on : (s.station n).enabled = true) :
    ((s.recompute n).lim.get n).inEffect = s.profileInEffect n := by
  cases figures : s.profileInEffect n with
  | none => rw [State.recompute_of_unlimited on (.inr (.inr figures))]; simp [figures]
  | some f =>
    cases position : (s.ctx.get n).position with
    | none => rw [State.recompute_of_unlimited on (.inr (.inl position))]; simp [figures]
    | some p =>
      by_cases vane : (s.vane.get n).vane = .vaning
      · rw [State.recompute_of_unlimited on (.inl vane)]; simp [figures]
      · rw [State.recompute_of_figures on vane position figures]; simp [State.computedLimits]

/-- The cases of R85 publish zeros. -/
theorem State.recompute_zeros
    (h : (s.station n).enabled = false ∨ (s.vane.get n).vane = .vaning ∨
      (s.ctx.get n).position = none ∨ ((s.recompute n).lim.get n).inEffect = none) :
    let l := (s.recompute n).lim.get n
    l.gapCw = 0 ∧ l.gapCcw = 0 ∧ l.cw = 0 ∧ l.ccw = 0 ∧ l.radius = 0 := by
  cases on : (s.station n).enabled with
  | false => simp [State.recompute_of_disabled on]
  | true =>
    rw [State.inEffect_recompute on] at h
    simp [State.recompute_of_unlimited on (h.resolve_left (by simp [on]))]

/-- Outside the cases of R85 the limits have the figures of R76 to R78 and R84. -/
theorem State.recompute_figures {p : Position} {f : Figures} (on : (s.station n).enabled = true)
    (vane : (s.vane.get n).vane ≠ .vaning) (position : (s.ctx.get n).position = some p)
    (figures : ((s.recompute n).lim.get n).inEffect = some f) :
    let r := s.station n
    let l := (s.recompute n).lim.get n
    let mp := (s.ctx.get n).mp
    gapSpeedIs r f (obstacleOf s n) p clockwiseTo l.gapCw ∧
      gapSpeedIs r f (obstacleOf s n) p counterClockwiseTo l.gapCcw ∧
      l.cw = (if mp then min l.gapCw (min l.vWind (r.vRated * f.speedCap / 1000)) else 0) ∧
      l.ccw = (if mp then min l.gapCcw (min l.vWind (r.vRated * f.speedCap / 1000)) else 0) ∧
      radiusLimitIs r f (obstacleOf s n) p l.radius := by
  rw [State.inEffect_recompute on] at figures
  rw [State.recompute_of_figures on vane position figures, State.setLim_lim, PerStation.get_set_same]
  exact ⟨gapSpeedIs_gapOver _ f (fun _ => State.mem_obstacles) p clockwiseTo,
    gapSpeedIs_gapOver _ f (fun _ => State.mem_obstacles) p counterClockwiseTo, rfl, rfl,
    radiusLimitIs_radiusLimitOver _ f (fun _ => State.mem_obstacles) p⟩

end

/-! ### The stopping distance (R75 to R78) -/

/-- A slew limit within a gap speed is 0 inside an obstacle and stops before a slew obstacle. -/
theorem stops_of_gapSpeedIs {r : StationRec} {f : Figures} {obstacle : Member → Prop} {p : Position}
    {distance : Position → Member → Nat} {v gap : Nat} {m : Member}
    (speed : gapSpeedIs r f obstacle p distance gap) (within : v ≤ gap) (stands : obstacle m) :
    (obstacleClass m p = .inside → v = 0) ∧
      (obstacleClass m p = .slew → v * v ≤ 2 * f.decel * (distance p m - f.slewMargin)) := by
  obtain ⟨atOnce, -, nearest⟩ := speed
  refine ⟨fun inside => by have := atOnce ⟨m, stands, inside⟩; omega, fun slew => ?_⟩
  by_cases inside : ∃ m, obstacle m ∧ obstacleClass m p = .inside
  · obtain rfl : v = 0 := by have := atOnce inside; omega
    simp
  · obtain ⟨g, -, least, -, near, far⟩ := nearest inside ⟨m, stands, slew⟩
    by_cases margin : g ≤ f.slewMargin
    · obtain rfl : v = 0 := by have := near margin; omega
      simp
    · obtain ⟨-, root, -⟩ := far (Nat.not_le.mp margin)
      calc v * v ≤ gap * gap := Nat.mul_le_mul within within
        _ ≤ 2 * f.decel * (g - f.slewMargin) := root
        _ ≤ 2 * f.decel * (distance p m - f.slewMargin) :=
          Nat.mul_le_mul_left _ (Nat.sub_le_sub_right (least m ⟨stands, slew⟩) _)

/-- Settles O17: either the limits are zeros, or they have the figures of the gaps. -/
theorem limitsKeepTheStoppingDistance : Obligations.LimitsKeepTheStoppingDistance := by
  unfold Obligations.LimitsKeepTheStoppingDistance
  refine ⟨fun s n z m p mem free own position => ?_, fun m p => ⟨?_, ?_, ?_, rfl, rfl⟩, fun s n => ?_⟩
  · have stands : obstacleOf s n m := ⟨z, mem, own, fun held => by
      rw [← State.countsHeld_iff, free] at held; cases held⟩
    have floor (radius : obstacleClass m p = .radius) : 0 < m.floor :=
      Nat.zero_lt_of_lt (obstacleClass_radius_iff.mp radius).2
    by_cases zeros : (s.station n).enabled = false ∨ (s.vane.get n).vane = .vaning ∨
        (s.ctx.get n).position = none ∨ ((s.recompute n).lim.get n).inEffect = none
    · obtain ⟨-, -, cw, ccw, radius⟩ := State.recompute_zeros zeros
      dsimp only
      rw [cw, ccw, radius]
      exact ⟨fun _ => ⟨rfl, rfl⟩, fun _ _ _ => ⟨Nat.zero_le _, Nat.zero_le _⟩, floor⟩
    · simp only [not_or, Bool.not_eq_false] at zeros
      obtain ⟨on, vane, -, some⟩ := zeros
      obtain ⟨f, figures⟩ := Option.ne_none_iff_exists'.mp some
      obtain ⟨gapCw, gapCcw, cw, ccw, -, -, bound, -⟩ :=
        State.recompute_figures on vane position figures
      have cwWithin : ((s.recompute n).lim.get n).cw ≤ ((s.recompute n).lim.get n).gapCw := by
        rw [cw]; split <;> omega
      have ccwWithin : ((s.recompute n).lim.get n).ccw ≤ ((s.recompute n).lim.get n).gapCcw := by
        rw [ccw]; split <;> omega
      obtain ⟨cwInside, cwStops⟩ := stops_of_gapSpeedIs gapCw cwWithin stands
      obtain ⟨ccwInside, ccwStops⟩ := stops_of_gapSpeedIs gapCcw ccwWithin stands
      refine ⟨fun inside => ⟨cwInside inside, ccwInside inside⟩, fun slew g effect => ?_,
        fun radius => ?_⟩
      · obtain rfl : f = g := Option.some.inj (figures.symm.trans effect)
        exact ⟨cwStops slew, ccwStops slew⟩
      · have under := bound m ⟨stands, radius⟩
        have := floor radius
        dsimp only at under ⊢
        omega
  · rw [obstacleClass_inside_iff, angleWithin_iff]
  · rw [obstacleClass_slew_iff, angleWithin_iff]
  · rw [obstacleClass_radius_iff, angleWithin_iff]
  · obtain ⟨l, frame, vWind⟩ := s.recompute_cases n
    refine ⟨by simp [frame], by simp [frame, vWind], fun on => ?_, State.recompute_zeros,
      fun p f on vane position figures => State.recompute_figures on vane position figures⟩
    rw [State.inEffect_recompute on]
    exact ⟨fun i profile used => by simp [State.profileInEffect, profile, used],
      fun i profile unused => by simp [State.profileInEffect, profile, unused],
      fun profile => by simp [State.profileInEffect, profile]⟩

end Sys2Proof.Machine
end

section
/-! The alarm table (R185, R186, R188, R189). -/

namespace Sys2Proof.Machine

open Sys2Proof.Safety

/-! ### The highest alarm (R189) -/

theorem AlarmId.all_by_priority :
    AlarmId.all.Pairwise fun i j => i.kind.priority ≤ j.kind.priority := by decide

/-- A priority number names one kind (R185). -/
theorem AlarmKind.eq_of_priority {k l : AlarmKind} (h : k.priority = l.priority) : k = l := by
  cases k <;> cases l <;> trivial

/-- The first of a list by ascending figures that passes a test has the least figure. -/
theorem least_of_find? {α : Type} {l : List α} {figure : α → Nat}
    (ascending : l.Pairwise fun a b => figure a ≤ figure b) {p : α → Bool} {a b : α}
    (found : l.find? p = some a) (mem : b ∈ l) (passes : p b = true) : figure a ≤ figure b := by
  obtain ⟨-, before, after, rfl, fail⟩ := List.find?_eq_some_iff_append.mp found
  obtain ⟨-, behind, -⟩ := List.pairwise_append.mp ascending
  rw [List.mem_append, List.mem_cons] at mem
  obtain mem | rfl | mem := mem
  · exact absurd passes (by simpa using fail b mem)
  · exact le_rfl
  · exact List.rel_of_pairwise_cons behind mem

/-- An entry in ACTIVE or LATCHED that concerns the station. -/
def AlarmTable.shows (t : AlarmTable) (assigned : PerAddr Bool) (n : Station) (i : AlarmId) : Bool :=
  i.concerns n assigned && (t.get i).stands

section
variable {t : AlarmTable} {assigned : PerAddr Bool} {n : Station}

theorem highestAlarm_eq_none_iff : highestAlarm t assigned n = none ↔
    ∀ i, i.concerns n assigned = true → (t.get i).state = .clear := by
  simp [highestAlarm, Entry.stands]

theorem highestAlarm_eq_some_iff {k : AlarmKind} : highestAlarm t assigned n = some k ↔
    (∃ i, i.concerns n assigned = true ∧ (t.get i).state ≠ .clear ∧ i.kind = k) ∧
      ∀ i, i.concerns n assigned = true → (t.get i).state ≠ .clear →
        k.priority ≤ i.kind.priority := by
  have test (i : AlarmId) : t.shows assigned n i = true ↔
      i.concerns n assigned = true ∧ (t.get i).state ≠ .clear := by
    simp [AlarmTable.shows, Entry.stands]
  change (AlarmId.all.find? (t.shows assigned n)).map (·.kind) = some k ↔ _
  constructor
  · intro h
    obtain ⟨i, found, rfl⟩ := Option.map_eq_some_iff.mp h
    obtain ⟨concerns, stands⟩ := (test i).mp (List.find?_some found)
    exact ⟨⟨i, concerns, stands, rfl⟩, fun j own up =>
      least_of_find? AlarmId.all_by_priority found (AlarmId.mem_all j) ((test j).mpr ⟨own, up⟩)⟩
  · rintro ⟨⟨i, concerns, stands, rfl⟩, least⟩
    have passes := (test i).mpr ⟨concerns, stands⟩
    obtain ⟨j, found⟩ := Option.isSome_iff_exists.mp (List.find?_isSome.mpr
      ⟨i, AlarmId.mem_all i, passes⟩)
    obtain ⟨own, up⟩ := (test j).mp (List.find?_some found)
    have below := least_of_find? AlarmId.all_by_priority found (AlarmId.mem_all i) passes
    have same := AlarmKind.eq_of_priority (Nat.le_antisymm below (least j own up))
    exact Option.map_eq_some_iff.mpr ⟨j, found, same⟩

end

/-! ### How an entry moves (R186, R188) -/

theorem State.alarmBegins_of_stands {s : State} {i : AlarmId}
    (h : (s.alarms.get i).state ≠ .clear) :
    s.alarmBegins i = s.setEntry i (s.alarms.get i).begins := if_neg h

/-- Settles O18: each move by the entry's state, and the highest alarm by the order of the table. -/
theorem alarmEntriesMoveWithTheirConditions : Obligations.AlarmEntriesMoveWithTheirConditions := by
  unfold Obligations.AlarmEntriesMoveWithTheirConditions
  refine ⟨fun s i idle => ⟨fun j ne => ⟨?_, ?_⟩, fun state => ⟨?_, ?_⟩, fun state => ⟨?_, ?_⟩,
    fun state => ⟨?_, ?_, ?_⟩, rfl⟩, fun s n => ?_⟩
  · rw [State.alarmBegins_get, if_neg ne]
  · rw [State.alarmEnds_get, if_neg ne]
  · rw [State.alarmBegins_get, if_pos rfl, Entry.begins, state]
  · rw [State.alarmBegins, if_pos state, State.raise, if_neg (by simp [idle])]
    exact PerLink.get_set_same (s.setEntry i (s.alarms.get i).begins).tx .supervisor _
  · rw [State.alarmBegins_get, if_pos rfl, Entry.begins, state]
  · rw [State.alarmBegins_of_stands (by simp [state])]
    rfl
  · rw [State.alarmBegins_get, if_pos rfl, Entry.begins, state]
  · rw [State.alarmBegins_of_stands (by simp [state])]
    rfl
  · rw [State.alarmEnds_get, if_pos rfl]
    cases latch : i.kind.latchClass <;> simp [Entry.ends, state, Entry.cleared]
  · have concerns (i : AlarmId) : i.concerns n (s.station n).anemometers = true ↔
        match i with
        | .planInvalid | .siteStop | .timeSlip | .storeFailed | .commitFailed => True
        | .unsafeVane m | .intrusion m | .conflict m | .clearanceOverdue m | .windLost m
        | .linkStale m => m = n
        | .sensorFailed a | .sensorFault a => (s.station n).anemometers.get a = true := by
      cases i <;> simp [AlarmId.concerns]
    have none := highestAlarm_eq_none_iff (t := s.alarms)
      (assigned := (s.station n).anemometers) (n := n)
    have some (k : AlarmKind) := highestAlarm_eq_some_iff (t := s.alarms)
      (assigned := (s.station n).anemometers) (n := n) (k := k)
    simp only [concerns] at none some
    exact ⟨none, some⟩

end Sys2Proof.Machine
end

section
/-! What granting and serving do to the zone records, and what stays closed by them (R46, R49, R52). -/

namespace Sys2Proof.Machine

open Sys2Proof.Safety

/-! ### Writes of one zone record -/

section
variable {s : State} {z y : Zone} {d : ZoneDyn}

theorem State.modZone_get_ne (ne : y ≠ z) (f : ZoneDyn → ZoneDyn) :
    (s.modZone z f).zones.get y = s.zones.get y := by rw [State.modZone_get, if_neg ne]

theorem State.modZone_get_same (record : s.zones.get z = some d) (f : ZoneDyn → ZoneDyn) :
    (s.modZone z f).zones.get z = some (f d) := by rw [State.modZone_get, if_pos rfl, record]; rfl

theorem State.bookingPassed_zones (num : Nat) (z : Zone) :
    (s.bookingPassed num z).zones = s.zones := by
  unfold State.bookingPassed; split <;> rfl

theorem State.granted_zones (z : Zone) (n : Station) (kind : GrantKind) :
    (s.granted z n kind).zones = s.zones := zones_of_holderWork (holderWork_granted s z n kind)

theorem State.holderChanged_zones (z : Zone) : (s.holderChanged z).zones = s.zones :=
  zones_of_holderWork (holderWork_holderChanged s z)

theorem State.notify_zones (n : Station) (x : Notice) : (s.notify n x).zones = s.zones :=
  zones_of_holderWork (holderWork_notify s n x)

theorem State.grantOrdinary_get_same (record : s.zones.get z = some d) (n : Station) :
    (s.grantOrdinary z n).zones.get z =
      some (d.give ⟨n, .ordinary, false⟩ (.running (s.station n).entryTimeout)) := by
  rw [State.grantOrdinary, State.granted_zones, State.modZone_get_same record]

theorem State.grantOrdinary_get_ne (ne : y ≠ z) (n : Station) :
    (s.grantOrdinary z n).zones.get y = s.zones.get y := by
  rw [State.grantOrdinary, State.granted_zones, State.modZone_get_ne ne]

theorem State.grantBooked_get_same (record : s.zones.get z = some d) (n : Station) :
    (s.grantBooked z n).zones.get z = some (d.give ⟨n, .booked, false⟩ .stopped) := by
  rw [State.grantBooked, State.granted_zones, State.modZone_get_same record]

theorem State.grantBooked_get_ne (ne : y ≠ z) (n : Station) :
    (s.grantBooked z n).zones.get y = s.zones.get y := by
  rw [State.grantBooked, State.granted_zones, State.modZone_get_ne ne]

/-! ### Serving a zone (R52) -/

theorem State.serve_of_held {k : Holding} (record : s.zones.get z = some d)
    (hold : d.hold = some k) : s.serve z = s := by
  simp [State.serve, record, hold]

theorem State.serve_of_none (record : s.zones.get z = none) : s.serve z = s := by
  simp [State.serve, record]

/-- A free zone reserved for a booking in window not closed to its station goes to that station. -/
theorem State.serve_of_reserved {num : Nat} {b : Booking} (record : s.zones.get z = some d)
    (free : d.hold = none) (reserved : d.reservation = some num) (found : s.booking? num = some b)
    (window : b.inWindow = true) (opened : s.closedTo z b.station = false) :
    s.serve z = (s.grantBooked z b.station).bookingPassed num z := by
  simp [State.serve, record, free, reserved, found, window, opened]

/-- Another reserved zone stays free. -/
theorem State.serve_of_reserved_closed {num : Nat} (record : s.zones.get z = some d)
    (free : d.hold = none) (reserved : d.reservation = some num)
    (closed : ∀ b, s.booking? num = some b → b.inWindow = true → s.closedTo z b.station = true) :
    s.serve z = s := by
  cases found : s.booking? num with
  | none => simp [State.serve, record, free, reserved, found]
  | some b =>
    have stays : ¬ (b.inWindow = true ∧ s.closedTo z b.station = false) := fun ⟨window, opened⟩ => by
      rw [closed b found window] at opened; cases opened
    simp [State.serve, record, free, reserved, found, stays]

theorem State.serve_of_unclaimed (record : s.zones.get z = some d) (free : d.hold = none)
    (unreserved : d.reservation = none) (empty : d.waiting = []) : s.serve z = s := by
  simp [State.serve, record, free, unreserved, empty]

theorem State.serve_of_head_closed {h : Station} {rest : List Station}
    (record : s.zones.get z = some d) (free : d.hold = none) (unreserved : d.reservation = none)
    (waiting : d.waiting = h :: rest) (closed : s.closedTo z h = true) : s.serve z = s := by
  simp [State.serve, record, free, unreserved, waiting, closed]

theorem State.serve_of_head {h : Station} {rest : List Station} (record : s.zones.get z = some d)
    (free : d.hold = none) (unreserved : d.reservation = none) (waiting : d.waiting = h :: rest)
    (opened : s.closedTo z h = false) : s.serve z = s.grantOrdinary z h := by
  simp [State.serve, record, free, unreserved, waiting, opened]

/-- All that serving a zone can do. -/
inductive State.Served (s : State) (z : Zone) (t : State) : Prop
  | kept (same : t = s)
  | ordinary (d : ZoneDyn) (h : Station) (rest : List Station) (record : s.zones.get z = some d)
      (free : d.hold = none) (unreserved : d.reservation = none) (waiting : d.waiting = h :: rest)
      (opened : s.closedTo z h = false) (same : t = s.grantOrdinary z h)
  | booked (d : ZoneDyn) (num : Nat) (b : Booking) (record : s.zones.get z = some d)
      (free : d.hold = none) (reserved : d.reservation = some num)
      (found : s.booking? num = some b) (window : b.inWindow = true)
      (opened : s.closedTo z b.station = false)
      (same : t = (s.grantBooked z b.station).bookingPassed num z)

theorem State.served (s : State) (z : Zone) : s.Served z (s.serve z) := by
  fun_cases State.serve s z
  case case3 d record num reserved free b found grant =>
    exact .booked d num b record free reserved found grant.1 grant.2 rfl
  case case7 d record h rest waiting unreserved free opened =>
    exact .ordinary d h rest record free unreserved waiting (by simpa using opened) rfl
  all_goals exact .kept rfl

theorem State.serve_get_ne (s : State) (ne : y ≠ z) :
    (s.serve z).zones.get y = s.zones.get y := by
  cases s.served z with
  | kept same => rw [same]
  | ordinary _ h _ _ _ _ _ _ same => rw [same, State.grantOrdinary_get_ne ne h]
  | booked _ num b _ _ _ _ _ _ same =>
    rw [same, State.bookingPassed_zones, State.grantBooked_get_ne ne]

end

/-! ### What stays closed (R46) -/

/-- The stations that close their zones are the same. -/
def ClosesKept (s t : State) : Prop :=
  ∀ m, (t.vane.get m).vane.closes = (s.vane.get m).vane.closes

section
variable {s t u : State}

theorem ClosesKept.refl (s : State) : ClosesKept s s := fun _ => rfl

theorem ClosesKept.trans (h : ClosesKept s t) (k : ClosesKept t u) : ClosesKept s u :=
  fun m => (k m).trans (h m)

theorem ClosesKept.of_vane (h : t.vane = s.vane) : ClosesKept s t := fun m => by rw [h]

theorem ClosesKept.foldl {β : Type} {f : State → β → State} (h : ∀ s b, ClosesKept s (f s b))
    (s : State) (bs : List β) : ClosesKept s (bs.foldl f s) :=
  foldl_related .refl .trans h s bs

theorem ClosesKept.judgeClear (s : State) (v : Station) : ClosesKept s (s.judgeClear v) := by
  intro m
  rw [State.judgeClear_vane]
  split
  case isTrue judged => obtain ⟨rfl, clearing, -⟩ := judged; rw [clearing]; rfl
  case isFalse => rfl

theorem ClosesKept.judgeSwingLine (s : State) (v : Station) (z : Zone) :
    ClosesKept s (s.judgeSwingLine v z) := by
  intro m
  rw [State.judgeSwingLine_vane]
  split
  case isTrue judged => obtain ⟨rfl, -, -⟩ := judged; rfl
  case isFalse => rfl

theorem ClosesKept.holderTold (s : State) (z : Zone) : ClosesKept s (s.holderTold z) :=
  .foldl (fun s m => (ClosesKept.judgeClear s m).trans (.judgeSwingLine _ m z)) s (s.members z)

theorem State.recompute_vane (s : State) (n : Station) : (s.recompute n).vane = s.vane := by
  obtain ⟨l, e, -⟩ := s.recompute_cases n
  rw [e, State.setLim_vane]

theorem State.reevalPermit_vane (s : State) (n : Station) : (s.reevalPermit n).vane = s.vane := by
  unfold State.reevalPermit
  extract_lets c
  split
  · rfl
  · rw [State.recompute_vane, State.setCtx_vane]

theorem State.reevalConflict_vane (s : State) (n : Station) :
    (s.reevalConflict n).vane = s.vane := by
  unfold State.reevalConflict
  extract_lets c now
  split
  · rfl
  · rw [State.reevalPermit_vane, (AlarmFrame.alarmIs ..).vane, State.setArb_vane]

theorem State.latchIntrusion_vane (s : State) (n : Station) :
    (s.latchIntrusion n).vane = s.vane := by
  unfold State.latchIntrusion
  extract_lets c
  split
  · rfl
  · rw [State.reevalPermit_vane, (AlarmFrame.alarmBegins ..).vane, State.setArb_vane]

theorem State.recoveryTest_vane (s : State) (n : Station) : (s.recoveryTest n).vane = s.vane := by
  unfold State.recoveryTest
  extract_lets c
  split
  · rw [State.reevalPermit_vane, (AlarmFrame.alarmEnds ..).vane, State.setArb_vane]
  · rfl

theorem State.notify_vane (s : State) (n : Station) (x : Notice) : (s.notify n x).vane = s.vane :=
  (AlarmFrame.notify s n x).vane

theorem State.modZone_vane (s : State) (z : Zone) (f : ZoneDyn → ZoneDyn) :
    (s.modZone z f).vane = s.vane := by rw [s.modZone_frame z f]

theorem State.bookingPassed_vane (s : State) (num : Nat) (z : Zone) :
    (s.bookingPassed num z).vane = s.vane := by
  unfold State.bookingPassed; split <;> rfl

theorem ClosesKept.holderChanged (s : State) (z : Zone) : ClosesKept s (s.holderChanged z) :=
  (ClosesKept.holderTold s z).trans (.foldl (fun s m => .of_vane (s.reevalConflict_vane m)) _ _)

theorem ClosesKept.granted (s : State) (z : Zone) (n : Station) (kind : GrantKind) :
    ClosesKept s (s.granted z n kind) :=
  ((ClosesKept.of_vane (s.notify_vane n _)).trans (.holderChanged _ z)).trans
    (.of_vane (State.recoveryTest_vane _ n))

theorem ClosesKept.grantOrdinary (s : State) (z : Zone) (n : Station) :
    ClosesKept s (s.grantOrdinary z n) :=
  (ClosesKept.of_vane (s.modZone_vane z _)).trans (.granted _ z n .ordinary)

theorem ClosesKept.grantBooked (s : State) (z : Zone) (n : Station) :
    ClosesKept s (s.grantBooked z n) :=
  (ClosesKept.of_vane (s.modZone_vane z _)).trans (.granted _ z n .booked)

theorem ClosesKept.serve (s : State) (z : Zone) : ClosesKept s (s.serve z) := by
  cases s.served z with
  | kept same => rw [same]; exact .refl s
  | ordinary _ h _ _ _ _ _ _ same => rw [same]; exact .grantOrdinary s z h
  | booked _ num b _ _ _ _ _ _ same =>
    rw [same]
    exact (ClosesKept.grantBooked s z b.station).trans (.of_vane (State.bookingPassed_vane _ num z))

theorem ClosesKept.adoptZone (s : State) (z : Zone) (n : Station) :
    ClosesKept s (s.adoptZone z n) := by
  have given (d : ZoneDyn → ZoneDyn) (kind : GrantKind) :
      ClosesKept s ((s.modZone z d).granted z n kind) :=
    (ClosesKept.of_vane (s.modZone_vane z d)).trans (.granted _ z n kind)
  unfold State.adoptZone
  split
  case h_1 b _ =>
    split
    · exact ((ClosesKept.of_vane (s.modZone_vane z _)).trans
        (.of_vane (State.bookingPassed_vane _ b.number z))).trans (.granted _ z n .booked)
    · exact given _ .ordinary
  · exact given _ .ordinary

/-- What is closed depends on the zone's swept set, its members, and who closes. -/
theorem State.closedTo_of_kept (live : t.plan.live = s.plan.live) (closes : ClosesKept s t)
    {z : Zone} (record : t.zones.get z = s.zones.get z) (n : Station) :
    t.closedTo z n = s.closedTo z n := by
  have members : t.members z = s.members z := by rw [State.members, State.zone, live]; rfl
  simp only [State.closedTo, members, record, closes _]

end

/-- Settles O19: serving by the claims on a zone. -/
theorem servingFollowsTheClaims : Obligations.ServingFollowsTheClaims := by
  unfold Obligations.ServingFollowsTheClaims
  intro s z d record
  refine ⟨fun n => State.closedTo_iff record, fun y ne => s.serve_get_ne ne,
    fun h hold => State.serve_of_held record hold, fun free num reserved => ⟨?_, ?_⟩,
    fun free unreserved => ⟨State.serve_of_unclaimed record free unreserved,
      fun h rest waiting => ⟨State.serve_of_head_closed record free unreserved waiting, ?_⟩⟩⟩
  · intro b found window opened
    rw [State.serve_of_reserved record free reserved found window opened, State.bookingPassed_zones,
      State.grantBooked_get_same record]
    rfl
  · exact State.serve_of_reserved_closed record free reserved
  · intro opened
    rw [State.serve_of_head record free unreserved waiting opened,
      State.grantOrdinary_get_same record]
    simp [ZoneDyn.give, waiting]

end Sys2Proof.Machine
end

section
/-! Reading the booking table after a write, and the opening of a booking (R44, R63, R163). -/

namespace Sys2Proof.Machine

open Sys2Proof.Safety

/-! ### The booking with a number -/

theorem State.number_of_booking? {s : State} {num : Nat} {b : Booking}
    (h : s.booking? num = some b) : b.number = num := by
  simpa using List.find?_some h

theorem State.mem_of_booking? {s : State} {num : Nat} {b : Booking}
    (h : s.booking? num = some b) : b ∈ s.bookings := List.mem_of_find?_eq_some h

theorem find?_replaceNumber (bs : List Booking) (b : Booking) (k : Nat) :
    (bs.map fun c => if c.number = b.number then b else c).find? (·.number = k) =
      if k = b.number then (bs.find? (·.number = k)).map fun _ => b
      else bs.find? (·.number = k) := by
  induction bs with
  | nil => simp
  | cons c bs ih =>
    rw [List.map_cons, List.find?_cons, List.find?_cons, ih]
    by_cases own : c.number = b.number <;> by_cases asked : k = b.number <;> grind

/-- Replacing a booking changes what its own number finds and nothing else. -/
theorem State.putBooking_booking? (s : State) (b : Booking) (k : Nat) :
    (s.putBooking b).booking? k =
      if k = b.number then (s.booking? k).map fun _ => b else s.booking? k :=
  find?_replaceNumber s.bookings b k

theorem State.putBooking_booking?_same {s : State} {b c : Booking}
    (h : s.booking? b.number = some c) : (s.putBooking b).booking? b.number = some b := by
  rw [State.putBooking_booking?, if_pos rfl, h]; rfl

theorem State.dropBooking_booking?_same (s : State) (num : Nat) :
    (s.dropBooking num).booking? num = none := by
  simp [State.booking?, State.dropBooking]

theorem State.booking?_of_bookings {s t : State} (h : t.bookings = s.bookings) (k : Nat) :
    t.booking? k = s.booking? k := by rw [State.booking?, h]; rfl

/-! ### Zone by zone -/

/-- A fold over zones whose step writes its own zone alone, step by step under a relation: each zone is
written once, from its first record. -/
theorem State.foldl_zones_get {f : State → Zone → State} {R : State → State → Prop}
    (refl : ∀ s, R s s) (trans : ∀ {s t u}, R s t → R t u → R s u) (step : ∀ s z, R s (f s z))
    (own : ∀ s z y, y ≠ z → (f s z).zones.get y = s.zones.get y) {zs : List Zone}
    (nodup : zs.Nodup) (s : State) :
    (∀ z ∉ zs, (zs.foldl f s).zones.get z = s.zones.get z) ∧
      ∀ z ∈ zs, ∃ u, R s u ∧ u.zones.get z = s.zones.get z ∧
        (zs.foldl f s).zones.get z = (f u z).zones.get z := by
  induction zs generalizing s with
  | nil => exact ⟨fun _ _ => rfl, nofun⟩
  | cons y zs ih =>
    obtain ⟨fresh, nodup⟩ := List.nodup_cons.mp nodup
    obtain ⟨others, inside⟩ := ih nodup (f s y)
    refine ⟨fun z out => ?_, fun z mem => ?_⟩
    · rw [List.mem_cons, not_or] at out
      rw [List.foldl_cons, others z out.2, own s y z out.1]
    · obtain rfl | mem := List.mem_cons.mp mem
      · exact ⟨s, refl s, rfl, by rw [List.foldl_cons, others z fresh]⟩
      · obtain ⟨u, related, record, result⟩ := inside z mem
        refine ⟨u, trans (step s y) related, record.trans (own s y z ?_), result⟩
        exact fun same => fresh (same ▸ mem)

/-! ### Opening (R63, R163) -/

/-- What the judgement of a zone that opens reads is kept. -/
def OpenKept (s t : State) : Prop := t.plan = s.plan ∧ ClosesKept s t ∧ t.bookings = s.bookings

theorem OpenKept.refl (s : State) : OpenKept s s := ⟨rfl, .refl s, rfl⟩

theorem OpenKept.trans {s t u : State} (h : OpenKept s t) (k : OpenKept t u) : OpenKept s u :=
  ⟨k.1.trans h.1, h.2.1.trans k.2.1, k.2.2.trans h.2.2⟩

theorem State.modZone_bookings (s : State) (z : Zone) (f : ZoneDyn → ZoneDyn) :
    (s.modZone z f).bookings = s.bookings := by rw [s.modZone_frame z f]

theorem State.modZone_plan (s : State) (z : Zone) (f : ZoneDyn → ZoneDyn) :
    (s.modZone z f).plan = s.plan := by rw [s.modZone_frame z f]

theorem OpenKept.modZone (s : State) (z : Zone) (f : ZoneDyn → ZoneDyn) :
    OpenKept s (s.modZone z f) :=
  ⟨s.modZone_plan z f, .of_vane (s.modZone_vane z f), s.modZone_bookings z f⟩

theorem State.granted_bookings (s : State) (z : Zone) (n : Station) (kind : GrantKind) :
    (s.granted z n kind).bookings = s.bookings :=
  bookings_of_holderWork (holderWork_granted s z n kind)

theorem OpenKept.grantBooked (s : State) (z : Zone) (n : Station) :
    OpenKept s (s.grantBooked z n) :=
  ⟨plan_of_zoneWork (zoneWork_grantBooked s z n), .grantBooked s z n, by
    rw [State.grantBooked, State.granted_bookings, State.modZone_bookings]⟩

theorem OpenKept.openZone (b : Station) (s : State) (z : Zone) :
    OpenKept s (State.openZone b s z) := by
  unfold State.openZone
  split
  · split <;> exact .modZone s z _
  · split
    · exact .modZone s z _
    · exact .grantBooked s z b

theorem State.openZone_get_ne (b : Station) (s : State) (z y : Zone) (ne : y ≠ z) :
    (State.openZone b s z).zones.get y = s.zones.get y := by
  unfold State.openZone
  split
  · split <;> exact State.modZone_get_ne ne _
  · split
    · exact State.modZone_get_ne ne _
    · exact State.grantBooked_get_ne ne b

/-- The record of a zone a booking opens on. -/
def ZoneDyn.opened (d : ZoneDyn) (closed : Bool) (b : Station) : ZoneDyn :=
  match d.hold with
  | some h =>
    if h.station = b then
      { d with hold := some { h with kind := .booked }, entry := .stopped, dwell := .stopped }
    else { d with waiting := headPlace d.waiting b }
  | none =>
    if closed then { d with waiting := headPlace d.waiting b }
    else { d with hold := some ⟨b, .booked, false⟩, entry := .stopped, dwell := .stopped,
                  waiting := d.waiting.erase b }

theorem State.openZone_get_same {s : State} {z : Zone} {d : ZoneDyn}
    (record : s.zones.get z = some d) (b : Station) :
    (State.openZone b s z).zones.get z = some (d.opened (s.closedTo z b) b) := by
  have holding : s.holding z = d.hold := by simp [State.holding, record]
  unfold State.openZone ZoneDyn.opened
  rw [holding]
  cases hold : d.hold with
  | some h =>
    dsimp only
    split
    · exact State.modZone_get_same record _
    · rw [State.placeAtHead, State.modZone_get_same record, hold]
  | none =>
    dsimp only
    split
    · rw [State.placeAtHead, State.modZone_get_same record, hold]
    · exact State.grantBooked_get_same record b

/-! ### Head placement (R44) -/

theorem erase_eq_filter_ne {l : List Station} (nodup : l.Nodup) (n : Station) :
    l.erase n = l.filter (· ≠ n) := by
  rw [nodup.erase_eq_filter]
  exact List.filter_congr fun m _ => by cases m <;> cases n <;> rfl

theorem headPlace_eq_placedFirst {waiting : List Station} (nodup : waiting.Nodup) (n : Station) :
    headPlace waiting n = placedFirst waiting n := by
  rw [headPlace, placedFirst, erase_eq_filter_ne nodup]

/-- The state in which a booking has opened on its zones, before the zones passed are written. -/
def State.openedZones (s : State) (b : Booking) (remaining ends : Nat) : State :=
  b.zones.foldl (State.openZone b.station) (s.putBooking { b with
    state := .blocked { ends, remaining, extension := none, passed := [], due := false } })

theorem State.openedZones_kept (s : State) (b : Booking) (remaining ends : Nat) :
    OpenKept (s.putBooking { b with
      state := .blocked { ends, remaining, extension := none, passed := [], due := false } })
      (s.openedZones b remaining ends) :=
  foldl_related OpenKept.refl OpenKept.trans (OpenKept.openZone b.station) _ b.zones

/-- Opening writes the booking, with the zones its station then holds as the zones passed. -/
theorem State.openBooking_eq (s : State) (b : Booking) (remaining ends : Nat) :
    s.openBooking b remaining ends = (s.openedZones b remaining ends).putBooking
      { b with state := openState b.zones
                { ends, remaining, extension := none
                  passed := b.zones.filter fun z =>
                    (s.openBooking b remaining ends).holds b.station z
                  due := false } } := rfl

theorem State.openBooking_zones (s : State) (b : Booking) (remaining ends : Nat) :
    (s.openBooking b remaining ends).zones = (s.openedZones b remaining ends).zones := rfl

/-- Settles O20: opening zone by zone, and the booking written with the zones passed. -/
theorem openingABookingTakesItsZones : Obligations.OpeningABookingTakesItsZones := by
  unfold Obligations.OpeningABookingTakesItsZones
  refine ⟨fun waiting n nodup => headPlace_eq_placedFirst nodup n, ?_⟩
  rintro s b remaining ends ⟨c, found⟩ nodup
  obtain ⟨others, inside⟩ := State.foldl_zones_get OpenKept.refl OpenKept.trans
    (OpenKept.openZone b.station) (State.openZone_get_ne b.station) nodup (s.putBooking { b with
      state := .blocked { ends, remaining, extension := none, passed := [], due := false } })
  refine ⟨?_, fun z mem d record => ?_, fun z out => (others z out).trans rfl⟩
  · have first := State.putBooking_booking?_same (s := s) (b := { b with
      state := .blocked { ends, remaining, extension := none, passed := [], due := false } }) found
    have kept : (s.openedZones b remaining ends).booking? b.number = some _ :=
      (State.booking?_of_bookings (s.openedZones_kept b remaining ends).2.2 b.number).trans first
    rw [State.openBooking_eq]
    exact State.putBooking_booking?_same kept
  · obtain ⟨u, ⟨plan, closes, -⟩, here, result⟩ := inside z mem
    have closed : u.closedTo z b.station = s.closedTo z b.station :=
      State.closedTo_of_kept (s := s) (t := u) (by rw [plan]; rfl) closes here _
    rw [State.openBooking_zones, State.openedZones, result, State.openZone_get_same (here.trans record),
      closed]
    rfl

end Sys2Proof.Machine
end

section
/-! What holds of a zone's record through serving, and the end of a booking on its zones (R62, R64, R171). -/

namespace Sys2Proof.Machine

open Sys2Proof.Safety

/-! ### What holds of a zone's record -/

/-- The record of a zone, where it has one, is as a predicate says. -/
def State.At (s : State) (z : Zone) (P : ZoneDyn → Prop) : Prop := ∀ d, s.zones.get z = some d → P d

section
variable {s : State} {z y : Zone} {P : ZoneDyn → Prop}

theorem State.At.of_zones {t : State} (h : s.At y P) (zones : t.zones = s.zones) : t.At y P :=
  fun d record => h d (by rwa [zones] at record)

/-- A write of a zone's record keeps what the write of it keeps. -/
theorem State.At.modZone (h : s.At y P) {f : ZoneDyn → ZoneDyn} (keep : y = z → ∀ d, P d → P (f d)) :
    (s.modZone z f).At y P := by
  intro e record
  rw [State.modZone_get] at record
  split at record
  case isTrue same =>
    obtain ⟨d, here, rfl⟩ := Option.map_eq_some_iff.mp record
    exact keep same d (h d (same ▸ here))
  case isFalse => exact h e record

/-- A write of a zone's record makes true what it makes true. -/
theorem State.At.of_modZone {f : ZoneDyn → ZoneDyn} (make : s.At z fun d => P (f d)) :
    (s.modZone z f).At z P := by
  intro e record
  rw [State.modZone_get, if_pos rfl] at record
  obtain ⟨d, here, rfl⟩ := Option.map_eq_some_iff.mp record
  exact make d here

/-- Serving keeps what its two grants keep. -/
theorem State.At.serve (h : s.At y P)
    (ordinary : ∀ d n t, d.reservation = none → P d → P (d.give ⟨n, .ordinary, false⟩ t))
    (booked : ∀ d n num, d.reservation = some num → P d → P (d.give ⟨n, .booked, false⟩ .stopped)) :
    (s.serve z).At y P := by
  by_cases same : y = z
  · subst same
    cases s.served y with
    | kept same => rwa [same]
    | ordinary d n rest record free unreserved waiting opened same =>
      intro e result
      rw [same, State.grantOrdinary_get_same record, Option.some.injEq] at result
      exact result ▸ ordinary d n _ unreserved (h d record)
    | booked d num b record free reserved found window opened same =>
      intro e result
      rw [same, State.bookingPassed_zones, State.grantBooked_get_same record,
        Option.some.injEq] at result
      exact result ▸ booked d _ num reserved (h d record)
  · intro e result
    exact h e (by rwa [State.serve_get_ne s same] at result)

theorem State.At.foldl {β : Type} {f : State → β → State} (keep : ∀ s b, s.At y P → (f s b).At y P)
    (h : s.At y P) (bs : List β) : (bs.foldl f s).At y P := by
  induction bs generalizing s with
  | nil => exact h
  | cons b bs ih => exact ih (keep s b h)

/-- A fold over zones makes true of each zone what each step makes true of its own and keeps. -/
theorem State.At.of_foldl {f : State → Zone → State} {I : ZoneDyn → Prop}
    (make : ∀ s, s.At z I → (f s z).At z P) (inv : ∀ s y, s.At z I → (f s y).At z I)
    (keep : ∀ s y, s.At z P → (f s y).At z P) (h : s.At z I) {zs : List Zone} (mem : z ∈ zs) :
    (zs.foldl f s).At z P := by
  induction zs generalizing s with
  | nil => cases mem
  | cons y zs ih =>
    obtain rfl | mem := List.mem_cons.mp mem
    · exact State.At.foldl keep (make s h) zs
    · exact ih (inv s y h) mem

/-- Serving leaves a zone that has a holder. -/
theorem State.serve_get_of_held {d : ZoneDyn} {k : Holding} (record : s.zones.get z = some d)
    (hold : d.hold = some k) (y : Zone) : (s.serve y).zones.get z = some d := by
  by_cases same : z = y
  · subst same
    rw [State.serve_of_held record hold, record]
  · rw [State.serve_get_ne s same, record]

theorem State.foldl_serve_get_of_held {d : ZoneDyn} {k : Holding} (record : s.zones.get z = some d)
    (hold : d.hold = some k) (zs : List Zone) : (zs.foldl State.serve s).zones.get z = some d := by
  induction zs generalizing s with
  | nil => exact record
  | cons y zs ih => exact ih (State.serve_get_of_held record hold y)

end

/-! ### The numbers in the table -/

theorem State.booking?_isSome {s : State} {k : Nat} :
    (s.booking? k).isSome = true ↔ k ∈ s.bookings.map (·.number) := by
  simp [State.booking?, List.find?_isSome]

theorem State.grantOrdinary_bookings (s : State) (z : Zone) (n : Station) :
    (s.grantOrdinary z n).bookings = s.bookings := by
  rw [State.grantOrdinary, State.granted_bookings, State.modZone_bookings]

theorem State.grantBooked_bookings (s : State) (z : Zone) (n : Station) :
    (s.grantBooked z n).bookings = s.bookings := by
  rw [State.grantBooked, State.granted_bookings, State.modZone_bookings]

theorem State.serve_numbers (s : State) (z : Zone) :
    (s.serve z).bookings.map (·.number) = s.bookings.map (·.number) := by
  cases s.served z with
  | kept same => rw [same]
  | ordinary _ h _ _ _ _ _ _ same => rw [same, State.grantOrdinary_bookings]
  | booked _ num b _ _ _ _ _ _ same =>
    rw [same, State.bookingPassed_numbers, State.grantBooked_bookings]

theorem State.foldl_serve_numbers (s : State) (zs : List Zone) :
    (zs.foldl State.serve s).bookings.map (·.number) = s.bookings.map (·.number) :=
  foldl_related (R := fun s t : State => t.bookings.map (·.number) = s.bookings.map (·.number))
    (fun _ => rfl) (fun h k => k.trans h) State.serve_numbers s zs

/-! ### The end of a booking on one zone (R64) -/

/-- The record of a zone on which a booking has ended. -/
def ZoneDyn.bookingEnded (d : ZoneDyn) (b : Booking) (dwell : Nat) (outside : Bool) : ZoneDyn :=
  { d with
    hold := d.hold.map fun h =>
      if h.station = b.station ∧ h.kind = .booked then { h with kind := .ordinary } else h
    dwell :=
      match d.hold with
      | some h =>
        if (h.station = b.station ∧ h.kind = .booked) ∧ h.seen = true ∧ dwell ≠ 0 ∧ outside = true then
          .running dwell
        else d.dwell
      | none => d.dwell
    waiting := d.waiting.erase b.station }

theorem State.endZone_eq (b : Booking) (s : State) (z : Zone) :
    State.endZone b s z = s.modZone z fun d =>
      d.bookingEnded b (s.station b.station).releaseDwell (!s.inside z b.station) := by
  unfold State.endZone
  extract_lets dwell outside
  congr 1
  funext d
  unfold ZoneDyn.bookingEnded
  cases hold : d.hold with
  | none => simp
  | some h =>
    by_cases booked : h.station = b.station ∧ h.kind = .booked
    · simp [booked, dwell, outside]
    · simp [booked]

/-- Only zone records are written. -/
def ZonesOnly (s t : State) : Prop := t = { s with zones := t.zones }

theorem ZonesOnly.refl (s : State) : ZonesOnly s s := rfl

theorem ZonesOnly.trans {s t u : State} (h : ZonesOnly s t) (k : ZonesOnly t u) : ZonesOnly s u := by
  calc u = { t with zones := u.zones } := k
    _ = { s with zones := u.zones } := by rw [h]

theorem ZonesOnly.modZone (s : State) (z : Zone) (f : ZoneDyn → ZoneDyn) :
    ZonesOnly s (s.modZone z f) := s.modZone_frame z f

theorem ZonesOnly.endZone (b : Booking) (s : State) (z : Zone) :
    ZonesOnly s (State.endZone b s z) := by
  rw [State.endZone_eq]
  exact .modZone s z _

theorem ZonesOnly.inside {s t : State} (h : ZonesOnly s t) (z : Zone) (n : Station) :
    t.inside z n = s.inside z n := by rw [h]; rfl

theorem ZonesOnly.station {s t : State} (h : ZonesOnly s t) (n : Station) :
    t.station n = s.station n := by rw [h]; rfl

/-- The record of each zone of a booking that has ended on them all. -/
theorem State.foldl_endZone_get {b : Booking} (nodup : b.zones.Nodup) (s : State) {z : Zone}
    (mem : z ∈ b.zones) {d : ZoneDyn} (record : s.zones.get z = some d) :
    (b.zones.foldl (State.endZone b) s).zones.get z =
      some (d.bookingEnded b (s.station b.station).releaseDwell (!s.inside z b.station)) := by
  have own (s : State) (z y : Zone) (ne : y ≠ z) :
      (State.endZone b s z).zones.get y = s.zones.get y := by
    rw [State.endZone_eq, State.modZone_get_ne ne]
  obtain ⟨u, only, here, result⟩ :=
    (State.foldl_zones_get ZonesOnly.refl ZonesOnly.trans (ZonesOnly.endZone b) own nodup s).2 z mem
  rw [result, State.endZone_eq, State.modZone_get_same (here.trans record), only.station,
    only.inside]

/-- The record of each zone whose reservation is lifted. -/
theorem State.foldl_unreserve_get {zs : List Zone} (nodup : zs.Nodup) (s : State) {z : Zone}
    (mem : z ∈ zs) {d : ZoneDyn} (record : s.zones.get z = some d) :
    (zs.foldl (fun s z => s.modZone z fun d => { d with reservation := none }) s).zones.get z =
      some { d with reservation := none } := by
  obtain ⟨u, -, here, result⟩ := (State.foldl_zones_get
    (f := fun s z => s.modZone z fun d => { d with reservation := none })
    ZonesOnly.refl ZonesOnly.trans (fun s z => .modZone s z _)
    (fun _ _ _ ne => State.modZone_get_ne ne _) nodup s).2 z mem
  rw [result, State.modZone_get_same (here.trans record)]

/-! ### The end of a booking before its record is written (R62, R64) -/

/-- The state in which a booking has ended on its zones, its reservations are lifted, and the zones are
served. -/
def State.liftedEnd (s : State) (b : Booking) : State :=
  let t := b.zones.foldl (State.endZone b) s
  if b.state = .pending then t else (t.liftReservations b.zones).serveMemberZones b.station

section
variable {s : State} {b : Booking} {z : Zone}

/-- The grant a zone of an ended booking is not left with. -/
def ZoneDyn.unbooked (d : ZoneDyn) (n : Station) : Prop :=
  ∀ h, d.hold = some h → h.station = n → h.kind = .ordinary

theorem ZoneDyn.unbooked_bookingEnded (d : ZoneDyn) (b : Booking) (dwell : Nat) (outside : Bool) :
    (d.bookingEnded b dwell outside).unbooked b.station := by
  intro h hold station
  obtain ⟨k, -, rfl⟩ := Option.map_eq_some_iff.mp hold
  by_cases booked : k.station = b.station ∧ k.kind = .booked
  · rw [if_pos booked]
  · rw [if_neg booked] at station ⊢
    cases kind : k.kind with
    | ordinary => rfl
    | booked => exact absurd ⟨station, kind⟩ booked

theorem State.foldl_endZone_unbooked (s : State) (mem : z ∈ b.zones) :
    (b.zones.foldl (State.endZone b) s).At z (·.unbooked b.station) := by
  refine State.At.of_foldl (I := fun _ => True) (fun s _ => ?_) (fun _ _ _ => ?_) (fun s y h => ?_)
    (s := s) (fun _ _ => trivial) mem
  · rw [State.endZone_eq]
    exact .of_modZone fun d _ => d.unbooked_bookingEnded b _ _
  · exact fun _ _ => trivial
  · rw [State.endZone_eq]
    exact h.modZone fun _ d _ => d.unbooked_bookingEnded b _ _

theorem State.foldl_endZone_unqueued (nodup : s.At z fun d => d.waiting.Nodup)
    (mem : z ∈ b.zones) :
    (b.zones.foldl (State.endZone b) s).At z fun d => b.station ∉ d.waiting := by
  refine State.At.of_foldl (I := fun d => d.waiting.Nodup) (fun s nodup => ?_) (fun s y nodup => ?_)
    (fun s y h => ?_) nodup mem
  · rw [State.endZone_eq]
    exact .of_modZone fun d record => (nodup d record).not_mem_erase
  · rw [State.endZone_eq]
    exact nodup.modZone fun _ d nodup => nodup.erase _
  · rw [State.endZone_eq]
    exact h.modZone fun _ d out mem => out (List.mem_of_mem_erase mem)

theorem State.At.serves {P : ZoneDyn → Prop} (h : s.At z P)
    (ordinary : ∀ d n t, d.reservation = none → P d → P (d.give ⟨n, .ordinary, false⟩ t))
    (booked : ∀ d n num, d.reservation = some num → P d → P (d.give ⟨n, .booked, false⟩ .stopped))
    (zs : List Zone) : (zs.foldl State.serve s).At z P :=
  State.At.foldl (fun _ _ h => h.serve ordinary booked) h zs

theorem State.At.lifted {P : ZoneDyn → Prop} (h : (b.zones.foldl (State.endZone b) s).At z P)
    (lift : ∀ d, P d → P { d with reservation := none })
    (ordinary : ∀ d n t, d.reservation = none → P d → P (d.give ⟨n, .ordinary, false⟩ t))
    (booked : ∀ d n num, d.reservation = some num → P d → P (d.give ⟨n, .booked, false⟩ .stopped)) :
    (s.liftedEnd b).At z P := by
  unfold State.liftedEnd
  extract_lets t
  split
  · exact h
  · exact ((State.At.foldl (fun _ _ h => h.modZone fun _ d => lift d) h b.zones).serves ordinary
      booked _).serves ordinary booked _

/-- After a booking beyond PENDING none of its zones is reserved, or held BOOKED by its station (R62). -/
theorem State.liftedEnd_freed (beyond : b.state ≠ .pending) (mem : z ∈ b.zones) :
    (s.liftedEnd b).At z fun d => d.reservation = none ∧ d.unbooked b.station := by
  have served {t : State} (h : t.At z fun d => d.reservation = none ∧ d.unbooked b.station)
      (zs : List Zone) :
      (zs.foldl State.serve t).At z fun d => d.reservation = none ∧ d.unbooked b.station := by
    refine h.serves (fun d n t _ h => ⟨h.1, fun k hold _ => ?_⟩) (fun d n num reserved h => ?_) zs
    · obtain rfl := Option.some.inj hold
      rfl
    · exact absurd (h.1.symm.trans reserved) nofun
  unfold State.liftedEnd
  rw [if_neg beyond]
  refine served (served ?_ b.zones) _
  refine State.At.of_foldl (I := (·.unbooked b.station))
    (f := fun s z => s.modZone z fun d => { d with reservation := none })
    (fun s h => .of_modZone fun d record => ⟨rfl, h d record⟩)
    (fun s y h => h.modZone fun _ d own => own) (fun s y h => h.modZone fun _ d own => ⟨rfl, own.2⟩)
    (s.foldl_endZone_unbooked mem) mem

theorem State.liftedEnd_unbooked (mem : z ∈ b.zones) :
    (s.liftedEnd b).At z (·.unbooked b.station) := by
  by_cases pending : b.state = .pending
  · unfold State.liftedEnd
    rw [if_pos pending]
    exact s.foldl_endZone_unbooked mem
  · exact fun d record => (State.liftedEnd_freed pending mem d record).2

/-- The station of an ended booking waits in none of its zones (R64). -/
theorem State.liftedEnd_unqueued (nodup : s.At z fun d => d.waiting.Nodup) (mem : z ∈ b.zones) :
    (s.liftedEnd b).At z fun d => b.station ∉ d.waiting :=
  State.At.lifted (State.foldl_endZone_unqueued nodup mem) (fun _ out => out)
    (fun _ _ _ _ out mem => out (List.mem_of_mem_erase mem))
    (fun _ _ _ _ out mem => out (List.mem_of_mem_erase mem))

/-- The record of a held zone of an ended booking. -/
theorem State.liftedEnd_get_of_held (nodup : b.zones.Nodup) (mem : z ∈ b.zones) {d : ZoneDyn}
    {h : Holding} (record : s.zones.get z = some d) (hold : d.hold = some h) :
    (s.liftedEnd b).zones.get z =
      some { d.bookingEnded b (s.station b.station).releaseDwell (!s.inside z b.station) with
             reservation := if b.state = .pending then d.reservation else none } := by
  have ended := State.foldl_endZone_get nodup s mem record
  by_cases pending : b.state = .pending
  · rw [State.liftedEnd, if_pos pending, ended, if_pos pending]
    rfl
  · rw [State.liftedEnd, if_neg pending, if_neg pending]
    have lifted := State.foldl_unreserve_get nodup _ mem ended
    exact State.foldl_serve_get_of_held (State.foldl_serve_get_of_held lifted
      (by simp [ZoneDyn.bookingEnded, hold]; rfl) b.zones) (by simp [ZoneDyn.bookingEnded, hold]; rfl) _

theorem State.liftedEnd_numbers (s : State) (b : Booking) :
    (s.liftedEnd b).bookings.map (·.number) = s.bookings.map (·.number) := by
  have ended : ZonesOnly s (b.zones.foldl (State.endZone b) s) :=
    foldl_related .refl .trans (.endZone b) s b.zones
  have endedBookings : (b.zones.foldl (State.endZone b) s).bookings = s.bookings := by rw [ended]
  unfold State.liftedEnd
  extract_lets t
  split
  · rw [endedBookings]
  · have unreserved : ZonesOnly t
        (b.zones.foldl (fun s z => s.modZone z fun d => { d with reservation := none }) t) :=
      foldl_related .refl .trans (fun s z => .modZone s z _) t b.zones
    rw [State.serveMemberZones, State.foldl_serve_numbers, State.liftReservations,
      State.foldl_serve_numbers, unreserved, endedBookings]

theorem zoneWork_liftedEnd (s : State) (b : Booking) : zoneWork s (s.liftedEnd b) := by
  have ended : zoneWork s (b.zones.foldl (State.endZone b) s) :=
    zoneWork_foldl (fun s z => by rw [State.endZone_eq]; exact zoneWork_modZone s z _) s b.zones
  unfold State.liftedEnd
  extract_lets t
  split
  · exact ended
  · exact zoneWork_trans ended (zoneWork_trans (zoneWork_liftReservations _ _)
      (zoneWork_serveMemberZones _ _))

end

end Sys2Proof.Machine
end

section
/-! The re-arming of a series, and the end of a booking (R171 to R173). -/

namespace Sys2Proof.Machine

open Sys2Proof.Safety

/-! ### The candidates (R173) -/

/-- The booking of a series at the j-th period from its start. -/
def Booking.candidate (b : Booking) (period j : Nat) : Booking :=
  { b with state := .pending, start := b.start + period * j }

/-- The lead of a candidate begins after the present time. -/
def Booking.later (b : Booking) (period now j : Nat) : Prop :=
  now < (b.candidate period j).start - b.lead

/-- The first candidate is at the least number of periods whose lead begins later. -/
theorem firstCandidate_eq {b : Booking} {period now : Nat} (pos : 0 < period) :
    ∃ j, 1 ≤ j ∧ b.later period now j ∧ (∀ i, 1 ≤ i → i < j → ¬ b.later period now i) ∧
      firstCandidate b.start period b.lead now = b.start + period * j := by
  have later (i : Nat) : b.later period now i ↔ now + b.lead < b.start + period * i := by
    unfold Booking.later Booking.candidate
    dsimp only
    omega
  unfold firstCandidate
  split
  case isTrue soon =>
    refine ⟨1, le_rfl, (later 1).mpr (by omega), fun i low high => absurd low (by omega), rfl⟩
  case isFalse passed =>
    set q := (now + b.lead - b.start) / period with quotient
    have below : period * q ≤ now + b.lead - b.start := Nat.mul_div_le _ _
    have above : now + b.lead - b.start < period * (q + 1) := Nat.lt_mul_div_succ _ pos
    have next : period * (q + 1) = period * q + period := Nat.mul_succ ..
    clear_value q
    refine ⟨q + 1, by omega, (later _).mpr (by omega), fun i low high => ?_, rfl⟩
    have upTo : period * i ≤ period * q := Nat.mul_le_mul_left _ (by omega)
    rw [later]
    omega

/-- A candidate ends within the site time and conflicts with no other booking. -/
def Booking.fitsAmong (b : Booking) (others : List Booking) (period now j : Nat) : Prop :=
  (b.candidate period j).intervalEnd ≤ maxTime ∧
    ∀ o ∈ others, (b.candidate period j).conflictsWith o now = false

theorem Booking.candidate_succ (b : Booking) (period j : Nat) :
    { b.candidate period j with start := (b.candidate period j).start + period } =
      b.candidate period (j + 1) := by
  simp [Booking.candidate, Nat.mul_succ, Nat.add_assoc]

/-- A candidate that ends above the site time is followed by such ones alone. -/
theorem Booking.intervalEnd_candidate_mono (b : Booking) (period : Nat) {i j : Nat} (h : i ≤ j) :
    (b.candidate period i).intervalEnd ≤ (b.candidate period j).intervalEnd := by
  have := Nat.mul_le_mul_left period h
  simp only [Booking.intervalEnd, Booking.candidate]
  omega

/-- The search takes the first candidate that fits. -/
theorem seekSlot_of_first {b : Booking} {others : List Booking} {period now k : Nat}
    (fits : b.fitsAmong others period now k) (fuel j skips : Nat) (low : j ≤ k)
    (high : k < j + fuel) (passed : ∀ i, j ≤ i → i < k → ¬ b.fitsAmong others period now i) :
    seekSlot others now period fuel (b.candidate period j) skips =
      some (b.candidate period k, skips + (k - j)) := by
  induction fuel generalizing j skips with
  | zero => omega
  | succ fuel ih =>
    have within : ¬ maxTime < (b.candidate period j).intervalEnd :=
      Nat.not_lt.mpr ((b.intervalEnd_candidate_mono period low).trans fits.1)
    rw [seekSlot, if_neg within]
    by_cases here : j = k
    · subst here
      have free : ¬ (others.any fun c => (b.candidate period j).conflictsWith c now) = true := by
        simpa using fits.2
      rw [if_neg free, Nat.sub_self, Nat.add_zero]
    · have taken : (others.any fun c => (b.candidate period j).conflictsWith c now) = true := by
        by_contra none
        exact passed j le_rfl (by omega) ⟨Nat.not_lt.mp within, by simpa using none⟩
      rw [if_pos taken, b.candidate_succ, ih (j + 1) (skips + 1) (by omega) (by omega)
        fun i low high => passed i (by omega) high]
      congr 2
      omega

/-- The search finds nothing where no candidate fits. -/
theorem seekSlot_of_none {b : Booking} {others : List Booking} {period now : Nat}
    (fuel j skips : Nat) (noFit : ∀ i, j ≤ i → i < j + fuel → ¬ b.fitsAmong others period now i) :
    seekSlot others now period fuel (b.candidate period j) skips = none := by
  induction fuel generalizing j skips with
  | zero => rfl
  | succ fuel ih =>
    rw [seekSlot]
    split
    · rfl
    case isFalse within =>
      have taken : (others.any fun c => (b.candidate period j).conflictsWith c now) = true := by
        by_contra free
        exact noFit j le_rfl (by omega) ⟨Nat.not_lt.mp within, by simpa using free⟩
      rw [if_pos taken, b.candidate_succ]
      exact ih (j + 1) (skips + 1) fun i low high => noFit i (by omega) (by omega)

/-! ### What becomes of the record (R171, R172) -/

/-- The bookings other than the one with a number. -/
def State.othersThan (s : State) (num : Nat) : List Booking := s.bookings.filter fun c => c.number ≠ num

theorem State.rearm_ended {s : State} {b : Booking} {e : Ending}
    (h : ∀ p l k, b.mode = .repeating p l k → e.rearms = false ∨ l = some 1) :
    ∃ x, s.rearm b e = (none, e, x) := by
  unfold State.rearm
  split
  case h_1 p l k mode =>
    split
    · exact ⟨_, rfl⟩
    case isFalse rearms =>
      rw [if_pos ((h p l k mode).resolve_left rearms)]
      exact ⟨_, rfl⟩
  case h_2 => exact ⟨_, rfl⟩

/-- A series that goes on takes the first candidate that fits, or ends for want of one. -/
theorem State.rearm_series {s : State} {b : Booking} {e : Ending} {p k first : Nat}
    {l : Option Nat} (pos : 0 < p) (mode : b.mode = .repeating p l k) (rearms : e.rearms = true)
    (more : l ≠ some 1) (low : 1 ≤ first) (later : b.later p s.clock.time first)
    (least : ∀ i, 1 ≤ i → i < first → ¬ b.later p s.clock.time i) :
    (∀ j, first ≤ j → j < first + 8 → b.fitsAmong (s.othersThan b.number) p s.clock.time j →
        (∀ i, first ≤ i → i < j → ¬ b.fitsAmong (s.othersThan b.number) p s.clock.time i) →
        ∃ x, s.rearm b e =
          (some { b.candidate p j with mode := .repeating p (l.map (· - 1)) (j - first) }, e, x)) ∧
      ((∀ j, first ≤ j → j < first + 8 → ¬ b.fitsAmong (s.othersThan b.number) p s.clock.time j) →
        ∃ x, s.rearm b e = (none, .cancelledNoSlot, x)) := by
  obtain ⟨j₀, low₀, later₀, least₀, start⟩ := firstCandidate_eq (b := b) (now := s.clock.time) pos
  obtain rfl : j₀ = first := by
    rcases Nat.lt_trichotomy j₀ first with lt | same | lt
    · exact absurd later₀ (least j₀ low₀ lt)
    · exact same
    · exact absurd later (least₀ first low lt)
  have goes : s.rearm b e =
      match seekSlot (s.othersThan b.number) s.clock.time p 8 (b.candidate p j₀) 0 with
      | some (c, skips) =>
        (some { c with mode := .repeating p (l.map (· - 1)) skips }, e, .continues c.start)
      | none => (none, .cancelledNoSlot, .ended) := by
    unfold State.rearm
    split
    case h_1 p' l' k' mode' =>
      obtain ⟨rfl, rfl, rfl⟩ : p' = p ∧ l' = l ∧ k' = k := by simpa [mode] using mode'.symm
      rw [if_neg (by simp [rearms]), if_neg more]
      dsimp only
      rw [start]
      rfl
    case h_2 other => exact absurd mode (other p l k)
  rw [goes]
  refine ⟨fun j above under fits passed => ?_, fun noFit => ?_⟩
  · rw [seekSlot_of_first fits 8 j₀ 0 above under passed, Nat.zero_add]
    exact ⟨_, rfl⟩
  · rw [seekSlot_of_none 8 j₀ 0 noFit]
    exact ⟨_, rfl⟩

theorem State.putBooking_othersThan (s : State) (b : Booking) :
    (s.putBooking b).othersThan b.number = s.othersThan b.number := by
  simp only [State.othersThan, State.putBooking, State.setBookings]
  induction s.bookings with
  | nil => rfl
  | cons c bs ih =>
    by_cases own : c.number = b.number
    · simpa [own] using ih
    · simpa [own] using ih

theorem State.dropBooking_othersThan (s : State) (num : Nat) :
    (s.dropBooking num).othersThan num = s.othersThan num := by
  simp [State.othersThan, State.dropBooking, State.setBookings]

/-! ### The end of a booking (R171) -/

/-- The state in which the end of a booking has been written and told, before its record is. -/
def State.reportedEnd (s : State) (b : Booking) (e : Ending) : State :=
  let t := s.liftedEnd b
  let r := t.rearm b e
  ((t.setCtx b.station { t.ctx.get b.station with lastEnded := some ⟨b.number, r.2.1⟩ }).notify
    b.station (.bookingEnded b.number r.2.1 r.2.2)).raise .supervisor
    (.report b.station b.number r.2.1 r.2.2)

theorem State.endBooking_eq (s : State) (b : Booking) (e : Ending) :
    s.endBooking b e =
      match ((s.liftedEnd b).rearm b e).1 with
      | some c => (s.reportedEnd b e).putBooking c
      | none => (s.reportedEnd b e).dropBooking b.number := rfl

/-- A notice and a report write frames alone. -/
theorem State.reportedEnd_frame (s : State) (b : Booking) (e : Ending) :
    AlarmFrame ((s.liftedEnd b).setCtx b.station { (s.liftedEnd b).ctx.get b.station with
      lastEnded := some ⟨b.number, ((s.liftedEnd b).rearm b e).2.1⟩ }) (s.reportedEnd b e) :=
  (AlarmFrame.notify ..).trans (.raise ..)

theorem AlarmFrame.zones {s t : State} (h : AlarmFrame s t) : t.zones = s.zones := by rw [h]

theorem AlarmFrame.bookings {s t : State} (h : AlarmFrame s t) : t.bookings = s.bookings := by rw [h]

theorem AlarmFrame.ctx {s t : State} (h : AlarmFrame s t) : t.ctx = s.ctx := by rw [h]

theorem State.reportedEnd_bookings (s : State) (b : Booking) (e : Ending) :
    (s.reportedEnd b e).bookings = (s.liftedEnd b).bookings := by
  rw [(s.reportedEnd_frame b e).bookings, State.setCtx_bookings]

theorem State.endBooking_zones (s : State) (b : Booking) (e : Ending) :
    (s.endBooking b e).zones = (s.liftedEnd b).zones := by
  have told : (s.reportedEnd b e).zones = (s.liftedEnd b).zones := by
    rw [(s.reportedEnd_frame b e).zones, State.setCtx_zones]
  rw [State.endBooking_eq]
  split
  · exact told
  · exact told

theorem State.endBooking_lastEnded (s : State) (b : Booking) (e : Ending) :
    ((s.endBooking b e).ctx.get b.station).lastEnded =
      some ⟨b.number, ((s.liftedEnd b).rearm b e).2.1⟩ := by
  have told : ((s.reportedEnd b e).ctx.get b.station).lastEnded =
      some ⟨b.number, ((s.liftedEnd b).rearm b e).2.1⟩ := by
    rw [(s.reportedEnd_frame b e).ctx]; simp
  rw [State.endBooking_eq]
  split
  · exact told
  · exact told

theorem seekSlot_number {others : List Booking} {now period : Nat} {b c : Booking} {k : Nat}
    (fuel skips : Nat) (h : seekSlot others now period fuel b skips = some (c, k)) :
    c.number = b.number := by
  induction fuel generalizing b skips with
  | zero => cases h
  | succ fuel ih =>
    rw [seekSlot] at h
    split at h
    · cases h
    · split at h
      · exact ih (b := { b with start := b.start + period }) (skips + 1) h
      · cases h; rfl

theorem State.rearm_number {s : State} {b c : Booking} {e : Ending} (h : (s.rearm b e).1 = some c) :
    c.number = b.number := by
  unfold State.rearm at h
  split at h
  case h_1 =>
    split at h
    · cases h
    · split at h
      · cases h
      · extract_lets first at h
        split at h
        case h_1 d k slot =>
          cases h
          exact (seekSlot_number 8 0 slot :)
        case h_2 => cases h
  case h_2 => cases h

/-- The other bookings stay as they are at the end of one. -/
theorem State.endBooking_others (s : State) (b : Booking) (e : Ending) :
    (s.endBooking b e).othersThan b.number = (s.liftedEnd b).othersThan b.number := by
  have told : (s.reportedEnd b e).othersThan b.number = (s.liftedEnd b).othersThan b.number := by
    rw [State.othersThan, s.reportedEnd_bookings b e]; rfl
  rw [State.endBooking_eq]
  split
  case h_1 c armed =>
    rw [← State.rearm_number armed] at told ⊢
    rw [State.putBooking_othersThan, told]
  case h_2 => rw [State.dropBooking_othersThan, told]

theorem State.endBooking_booking? {s : State} {b : Booking} (e : Ending)
    (found : s.booking? b.number = some b) :
    (s.endBooking b e).booking? b.number = ((s.liftedEnd b).rearm b e).1 := by
  have still : (s.reportedEnd b e).booking? b.number ≠ none := by
    rw [State.booking?_of_bookings (s.reportedEnd_bookings b e), Ne, ← Option.not_isSome_iff_eq_none,
      State.booking?_isSome, State.liftedEnd_numbers, ← State.booking?_isSome, found]
    simp
  obtain ⟨d, there⟩ := Option.ne_none_iff_exists'.mp still
  rw [State.endBooking_eq]
  split
  case h_1 c armed =>
    rw [armed]
    rw [← State.rearm_number armed] at there ⊢
    exact State.putBooking_booking?_same there
  case h_2 none => rw [none, State.dropBooking_booking?_same]

theorem ZoneDyn.waiting_nodup_of_kept {s : State} {z : Zone} (h : waitListKept s z = true) :
    s.At z fun d => d.waiting.Nodup := by
  intro d record
  simp only [waitListKept, record, Bool.and_eq_true, decide_eq_true_eq] at h
  exact h.1

/-- Settles O21: the zones by the end on each of them, the record by the search for a slot. -/
theorem endOfABookingFreesOrRearmsIt : Obligations.EndOfABookingFreesOrRearmsIt := by
  unfold Obligations.EndOfABookingFreesOrRearmsIt
  intro s b e found
  have clock : (s.liftedEnd b).clock = s.clock := by rw [(zoneWork_liftedEnd s b).1]
  have record {z : Zone} {P : ZoneDyn → Prop} (h : (s.liftedEnd b).At z P) :
      (s.endBooking b e).At z P := h.of_zones (s.endBooking_zones b e)
  refine ⟨fun beyond z mem d here => ?_, fun z mem h holding station => ?_,
    fun z mem list d here => ?_, fun nodup z mem d h here hold => ?_, fun ends => ?_,
    fun p l k pos mode rearms more => ?_⟩
  · exact (record (State.liftedEnd_freed beyond mem) d here).1
  · obtain ⟨d, here, hold⟩ := Option.bind_eq_some_iff.mp holding
    exact record (State.liftedEnd_unbooked mem) d here h hold station
  · exact record (State.liftedEnd_unqueued (ZoneDyn.waiting_nodup_of_kept list) mem) d here
  · rw [s.endBooking_zones b e, State.liftedEnd_get_of_held nodup mem here hold]
    simp [ZoneDyn.bookingEnded, hold, and_assoc]
  · obtain ⟨x, rearm⟩ := State.rearm_ended (s := s.liftedEnd b) ends
    rw [State.endBooking_booking? e found, State.endBooking_lastEnded, rearm]
    exact ⟨rfl, rfl⟩
  · have fits (j : Nat) : b.fitsAmong ((s.liftedEnd b).othersThan b.number) p s.clock.time j ↔
        (b.candidate p j).intervalEnd ≤ maxTime ∧
          ∀ o ∈ (s.endBooking b e).bookings, o.number ≠ b.number →
            (b.candidate p j).conflictsWith o s.clock.time = false := by
      rw [Booking.fitsAmong, ← s.endBooking_others b e]
      simp only [State.othersThan, List.mem_filter, decide_eq_true_eq, and_imp]
    obtain ⟨j, low, later, -⟩ := firstCandidate_eq (b := b) (now := s.clock.time) pos
    refine ⟨⟨j, low, later⟩, fun first low later least => ?_⟩
    obtain ⟨takes, ends⟩ := State.rearm_series (s := s.liftedEnd b) (first := first) pos mode rearms
      more low (by rwa [clock]) (by rwa [clock])
    rw [clock] at takes ends
    simp only [fits] at takes ends
    rw [State.endBooking_booking? e found, State.endBooking_lastEnded]
    refine ⟨fun j above under fits passed => ?_, fun noFit => ?_⟩
    · obtain ⟨x, rearm⟩ := takes j above under fits passed
      rw [rearm]
      exact ⟨rfl, rfl⟩
    · obtain ⟨x, rearm⟩ := ends noFit
      rw [rearm]
      exact ⟨rfl, rfl⟩

end Sys2Proof.Machine
end

section
/-! The sensor records and the start of a wind cycle (R91, R94, R96, R98, R100, R103, R112). -/

namespace Sys2Proof.Machine

open Sys2Proof.Safety

/-! ### Replacing a sensor record (R112, R186) -/

/-- Sensor records, alarms and frames alone are written. -/
def SensorFrame (s t : State) : Prop :=
  t = { s with sensors := t.sensors, alarms := t.alarms, attn := t.attn, held := t.held, tx := t.tx }

theorem SensorFrame.refl (s : State) : SensorFrame s s := rfl

theorem SensorFrame.trans {s t u : State} (h : SensorFrame s t) (k : SensorFrame t u) :
    SensorFrame s u := by
  calc u = { t with sensors := u.sensors, alarms := u.alarms, attn := u.attn, held := u.held,
                    tx := u.tx } := k
    _ = { s with sensors := u.sensors, alarms := u.alarms, attn := u.attn, held := u.held,
                 tx := u.tx } := by rw [h]

theorem SensorFrame.of_alarms {s t : State} (h : AlarmFrame s t) : SensorFrame s t := by
  unfold SensorFrame
  rw [h]

theorem SensorFrame.line {s t : State} (h : SensorFrame s t) : t.line = s.line := by rw [h]

theorem AlarmFrame.sensors {s t : State} (h : AlarmFrame s t) : t.sensors = s.sensors := by rw [h]

/-- The part of a record's replacement that follows the SENSOR_FAULT condition. -/
def State.faultTold (s : State) (a : Addr) (old new : SensorState) : State :=
  if (old == .fault) = (new == .fault) then s else s.alarmIs (.sensorFault a) (new == .fault)

/-- The part of a record's replacement that follows the SENSOR_FAILED condition. -/
def State.failedTold (s : State) (a : Addr) (old new : SensorState) : State :=
  if (old == .failed) = (new == .failed) then s else s.alarmIs (.sensorFailed a) (new == .failed)

/-- The part of a record's replacement that clears the SENSOR_FAILED entry at STARTING. -/
def State.startTold (s : State) (a : Addr) (old new : SensorState) : State :=
  if new.isStarting && !old.isStarting then s.setEntry (.sensorFailed a) .cleared else s

section
variable (s : State) (a : Addr) (r : SensorRec) (old new : SensorState)

theorem State.putRecord_eq : s.putRecord a r =
    (((s.setSensor a r).faultTold a (s.sensors.get a).state r.state).failedTold a
      (s.sensors.get a).state r.state).startTold a (s.sensors.get a).state r.state := rfl

theorem AlarmFrame.faultTold : AlarmFrame s (s.faultTold a old new) := by
  unfold State.faultTold
  split
  · rfl
  · exact .alarmIs s _ _

theorem AlarmFrame.failedTold : AlarmFrame s (s.failedTold a old new) := by
  unfold State.failedTold
  split
  · rfl
  · exact .alarmIs s _ _

theorem AlarmFrame.startTold : AlarmFrame s (s.startTold a old new) := by
  unfold State.startTold
  split <;> rfl

theorem State.putRecord_told : AlarmFrame (s.setSensor a r) (s.putRecord a r) := by
  rw [State.putRecord_eq]
  exact ((AlarmFrame.faultTold _ a _ _).trans (.failedTold _ a _ _)).trans (.startTold _ a _ _)

theorem SensorFrame.putRecord : SensorFrame s (s.putRecord a r) :=
  SensorFrame.trans (t := s.setSensor a r) rfl (.of_alarms (s.putRecord_told a r))

@[simp] theorem State.putRecord_sensors : (s.putRecord a r).sensors = s.sensors.set a r := by
  rw [(s.putRecord_told a r).sensors, State.setSensor_sensors]

@[simp] theorem State.putRecord_line : (s.putRecord a r).line = s.line :=
  (SensorFrame.putRecord s a r).line

theorem State.faultTold_get (j : AlarmId) : (s.faultTold a old new).alarms.get j =
    if j = .sensorFault a ∧ (old == .fault) ≠ (new == .fault) then
      (if new == .fault then (s.alarms.get j).begins else (s.alarms.get j).ends .temporary)
    else s.alarms.get j := by
  unfold State.faultTold
  split
  case isTrue same => rw [if_neg fun h => h.2 same]
  case isFalse differ =>
    rw [State.alarmIs_get]
    by_cases own : j = .sensorFault a
    · subst own; simp only [if_true, ne_eq, differ, not_false_eq_true, and_self]; rfl
    · simp [own]

theorem State.failedTold_get (j : AlarmId) : (s.failedTold a old new).alarms.get j =
    if j = .sensorFailed a ∧ (old == .failed) ≠ (new == .failed) then
      (if new == .failed then (s.alarms.get j).begins else (s.alarms.get j).ends .sensorLatching)
    else s.alarms.get j := by
  unfold State.failedTold
  split
  case isTrue same => rw [if_neg fun h => h.2 same]
  case isFalse differ =>
    rw [State.alarmIs_get]
    by_cases own : j = .sensorFailed a
    · subst own; simp only [if_true, ne_eq, differ, not_false_eq_true, and_self]; rfl
    · simp [own]

theorem State.startTold_get (j : AlarmId) : (s.startTold a old new).alarms.get j =
    if j = .sensorFailed a ∧ new.isStarting = true ∧ old.isStarting = false then .cleared
    else s.alarms.get j := by
  unfold State.startTold
  by_cases starts : new.isStarting = true ∧ old.isStarting = false
  · rw [if_pos (by simp [starts])]
    by_cases own : j = .sensorFailed a
    · subst own; simp [State.setEntry, starts]
    · simp [State.setEntry, own]
  · rw [if_neg (by simpa using starts), if_neg fun h => starts h.2]

/-- Entries other than those of the record stay. -/
theorem State.putRecord_get_ne {j : AlarmId} (failed : j ≠ .sensorFailed a)
    (fault : j ≠ .sensorFault a) : (s.putRecord a r).alarms.get j = s.alarms.get j := by
  rw [State.putRecord_eq, State.startTold_get, if_neg fun h => failed h.1, State.failedTold_get,
    if_neg fun h => failed h.1, State.faultTold_get, if_neg fun h => fault h.1, State.setSensor_alarms]

/-- The SENSOR_FAULT entry follows the record's state. -/
theorem State.putRecord_fault : (s.putRecord a r).alarms.get (.sensorFault a) =
    if ((s.sensors.get a).state == .fault) ≠ (r.state == .fault) then
      (if r.state == .fault then (s.alarms.get (.sensorFault a)).begins
       else (s.alarms.get (.sensorFault a)).ends .temporary)
    else s.alarms.get (.sensorFault a) := by
  rw [State.putRecord_eq, State.startTold_get, if_neg (by simp), State.failedTold_get,
    if_neg (by simp), State.faultTold_get, State.setSensor_alarms]
  simp only [true_and]

/-- The SENSOR_FAILED entry follows the record's state, and is CLEAR at the start of a sensor. -/
theorem State.putRecord_failed : (s.putRecord a r).alarms.get (.sensorFailed a) =
    if r.state.isStarting = true ∧ (s.sensors.get a).state.isStarting = false then .cleared
    else if ((s.sensors.get a).state == .failed) ≠ (r.state == .failed) then
      (if r.state == .failed then (s.alarms.get (.sensorFailed a)).begins
       else (s.alarms.get (.sensorFailed a)).ends .sensorLatching)
    else s.alarms.get (.sensorFailed a) := by
  rw [State.putRecord_eq, State.startTold_get, State.failedTold_get, State.faultTold_get,
    State.setSensor_alarms]
  simp

/-- A record that moves between states that are neither FAULT nor FAILED nor a start from outside STARTING
tells nothing. -/
theorem State.putRecord_quiet (fault : ((s.sensors.get a).state == .fault) = (r.state == .fault))
    (failed : ((s.sensors.get a).state == .failed) = (r.state == .failed))
    (start : r.state.isStarting = true → (s.sensors.get a).state.isStarting = true) :
    s.putRecord a r = s.setSensor a r := by
  have notStart : ¬ (r.state.isStarting && !(s.sensors.get a).state.isStarting) = true := by
    cases starting : r.state.isStarting with
    | false => simp
    | true => simp [start starting]
  rw [State.putRecord_eq, State.faultTold, if_pos fault, State.failedTold, if_pos failed,
    State.startTold, if_neg notStart]

end

/-! ### A command sent (R94, R98, R100, R103) -/

section
variable (s : State) (a : Addr)

theorem State.runRecord_of_assigned (h : (s.sensors.get a).state = .assigned) :
    s.runRecord a = s.putRecord a ((s.sensors.get a).beginAttempt 1 0) := if_pos h

theorem State.runRecord_of_not_assigned (h : (s.sensors.get a).state ≠ .assigned) :
    s.runRecord a = s := if_neg h

theorem SensorFrame.runRecord : SensorFrame s (s.runRecord a) := by
  unfold State.runRecord
  extract_lets r
  split
  · exact .putRecord s a _
  · exact .refl s

theorem State.runRecord_sensors (b : Addr) : (s.runRecord a).sensors.get b =
    if b = a ∧ (s.sensors.get a).state = .assigned then (s.sensors.get a).beginAttempt 1 0
    else s.sensors.get b := by
  by_cases assigned : (s.sensors.get a).state = .assigned
  · rw [s.runRecord_of_assigned a assigned, State.putRecord_sensors, PerAddr.get_set]
    simp [assigned]
  · rw [s.runRecord_of_not_assigned a assigned, if_neg fun h => assigned h.2]

theorem State.runRecord_failed (b : Addr) : (s.runRecord a).alarms.get (.sensorFailed b) =
    if b = a ∧ (s.sensors.get a).state = .assigned then .cleared
    else s.alarms.get (.sensorFailed b) := by
  by_cases assigned : (s.sensors.get a).state = .assigned
  · rw [s.runRecord_of_assigned a assigned]
    by_cases own : b = a
    · subst own
      rw [State.putRecord_failed, if_pos ⟨rfl, by simp [assigned, SensorState.isStarting]⟩,
        if_pos ⟨rfl, assigned⟩]
    · rw [State.putRecord_get_ne _ _ _ (by simpa using own) (by simp), if_neg fun h => own h.1]
  · rw [s.runRecord_of_not_assigned a assigned, if_neg fun h => assigned h.2]

/-- RUN starts every ASSIGNED record of a list of addresses, and clears its SENSOR_FAILED entry. -/
theorem State.foldl_runRecord {as : List Addr} (nodup : as.Nodup) (b : Addr) :
    (as.foldl State.runRecord s).sensors.get b =
        (if b ∈ as ∧ (s.sensors.get b).state = .assigned then (s.sensors.get b).beginAttempt 1 0
         else s.sensors.get b) ∧
      (as.foldl State.runRecord s).alarms.get (.sensorFailed b) =
        if b ∈ as ∧ (s.sensors.get b).state = .assigned then .cleared
        else s.alarms.get (.sensorFailed b) := by
  induction as generalizing s with
  | nil => simp
  | cons a as ih =>
    obtain ⟨fresh, nodup⟩ := List.nodup_cons.mp nodup
    obtain ⟨record, entry⟩ := ih (s.runRecord a) nodup
    rw [List.foldl_cons, record, entry, State.runRecord_sensors, State.runRecord_failed]
    by_cases own : b = a
    · subst own; simp [fresh]
    · simp [own]

end

theorem Addr.nodup_all : Addr.all.Nodup := by decide

/-- The line record after a command has been sent. -/
def LineRec.sent (l : LineRec) : LineCommand → LineRec
  | .assign a => { l with echoWait := some (a, .running 4) }
  | .run => { l with state := .running, windowOpen := false, runWatch := some 0 }
  | .runTo _ => l

section
variable (s : State)

theorem State.commandSent_runTo (a : Addr) : s.commandSent (.runTo a) =
    if (s.sensors.get a).state = .starting .awaitingCommand then
      s.putRecord a ((s.sensors.get a).beginAttempt ((s.sensors.get a).attempts + 1) 0)
    else s := rfl

theorem State.commandSent_frame (c : LineCommand) :
    SensorFrame (s.setLine (s.line.sent c)) (s.commandSent c) := by
  cases c with
  | assign a => exact .refl _
  | run => exact foldl_related .refl .trans (fun s a => SensorFrame.runRecord s a) _ Addr.all
  | runTo a =>
    rw [State.commandSent_runTo]
    split
    · exact .putRecord s a _
    · exact .refl s

theorem State.sendCommand_line (c : LineCommand) : (s.sendCommand c).line = s.line.sent c :=
  (State.commandSent_frame _ c).line

theorem State.sendCommand_cycle (c : LineCommand) :
    (s.sendCommand c).cycle = some { kind := .command 24 c.word, age := 0 } := by
  rw [State.sendCommand, State.commandSent_frame]
  rfl

/-- A RUN starts every ASSIGNED record. -/
theorem State.sendCommand_run (a : Addr) :
    (s.sendCommand .run).sensors.get a =
        (if (s.sensors.get a).state = .assigned then (s.sensors.get a).beginAttempt 1 0
         else s.sensors.get a) ∧
      ((s.sensors.get a).state = .assigned →
        ((s.sendCommand .run).alarms.get (.sensorFailed a)).state = .clear) := by
  obtain ⟨record, entry⟩ := State.foldl_runRecord
    ({ s with cycle := some { kind := .command 24 LineCommand.run.word, age := 0 } }.setLine
      { s.line with state := .running, windowOpen := false, runWatch := some 0 }) Addr.nodup_all a
  refine ⟨?_, fun assigned => ?_⟩
  · simpa [State.sendCommand, State.commandSent, startPulses] using record
  · have cleared := entry.trans (if_pos ⟨Addr.mem_all a, assigned⟩)
    exact (congrArg Entry.state cleared).trans rfl

/-- A RUN-TO starts the next attempt of a record that awaits it. -/
theorem State.sendCommand_runTo (a : Addr) :
    (s.sendCommand (.runTo a)).sensors.get a =
      if (s.sensors.get a).state = .starting .awaitingCommand then
        (s.sensors.get a).beginAttempt ((s.sensors.get a).attempts + 1) 0
      else s.sensors.get a := by
  rw [State.sendCommand, State.commandSent_runTo]
  split
  · rw [State.putRecord_sensors, PerAddr.get_set_same]
  · rfl

/-! ### The start of a cycle (R91, R96) -/

/-- The line record with a cycle start counted by the open window (R96). -/
def LineRec.cycleCounted (l : LineRec) : LineRec :=
  if l.windowOpen then { l with windowCount := min 8 (l.windowCount + 1) } else l

theorem LineRec.cycleCounted_frame (l : LineRec) :
    l.cycleCounted = { l with windowCount := l.cycleCounted.windowCount } := by
  unfold LineRec.cycleCounted
  split <;> rfl

theorem LineRec.cycleCounted_state (l : LineRec) : l.cycleCounted.state = l.state := by
  rw [l.cycleCounted_frame]

theorem LineRec.cycleCounted_commands (l : LineRec) : l.cycleCounted.commands = l.commands := by
  rw [l.cycleCounted_frame]

theorem LineRec.cycleCounted_windowCount (l : LineRec) : l.cycleCounted.windowCount =
    if l.windowOpen then min 8 (l.windowCount + 1) else l.windowCount := by
  unfold LineRec.cycleCounted
  split <;> rfl

theorem State.startCycle_of_off (h : s.line.state = .off) :
    s.startCycle = { s.setLine s.line.cycleCounted with
      cycle := some { kind := .unpowered, age := 0 } } := by
  have off := s.line.cycleCounted_state.trans h
  unfold State.startCycle
  extract_lets _ l t
  split
  · rfl
  case h_2 _ on => exact absurd off on
  case h_3 on => exact absurd off on

theorem State.startCycle_of_nil (on : s.line.state ≠ .off) (h : s.line.commands = []) :
    s.startCycle = { s.setLine s.line.cycleCounted with
      cycle := some { kind := .ordinary, age := 0 } } := by
  have none := s.line.cycleCounted_commands.trans h
  unfold State.startCycle
  extract_lets _ l t
  split
  case h_1 off => exact absurd (s.line.cycleCounted_state.symm.trans off) on
  · rfl
  case h_3 some _ => exact absurd (none.symm.trans some) nofun

theorem State.startCycle_of_cons (on : s.line.state ≠ .off) {c : LineCommand}
    {cs : List LineCommand} (h : s.line.commands = c :: cs) :
    s.startCycle = ((s.setLine s.line.cycleCounted).setLine
      { s.line.cycleCounted with commands := cs }).sendCommand c := by
  have some := s.line.cycleCounted_commands.trans h
  unfold State.startCycle
  extract_lets _ l t
  split
  case h_1 off => exact absurd (s.line.cycleCounted_state.symm.trans off) on
  case h_2 none _ => exact absurd (none.symm.trans some) nofun
  case h_3 d ds other _ =>
    obtain ⟨rfl, rfl⟩ := List.cons.inj (other.symm.trans some)
    rfl

end

theorem LineRec.sent_windowCount (l : LineRec) (c : LineCommand) :
    (l.sent c).windowCount = l.windowCount := by cases c <;> rfl

theorem LineRec.sent_commands (l : LineRec) (c : LineCommand) :
    (l.sent c).commands = l.commands := by cases c <;> rfl

/-- Settles O22: the cycle by the state of the line, and the effect of the command sent. -/
theorem cycleStartSendsTheOldestCommand : Obligations.CycleStartSendsTheOldestCommand := by
  unfold Obligations.CycleStartSendsTheOldestCommand
  intro s
  refine ⟨?_, fun off => by rw [s.startCycle_of_off off], fun on none => ?_, fun on c cs some => ?_⟩
  · rw [← s.line.cycleCounted_windowCount]
    by_cases off : s.line.state = .off
    · rw [s.startCycle_of_off off, State.setLine_line]
    · cases commands : s.line.commands with
      | nil => rw [s.startCycle_of_nil off commands, State.setLine_line]
      | cons c cs =>
        rw [s.startCycle_of_cons off commands, State.sendCommand_line, LineRec.sent_windowCount,
          State.setLine_line]
  · rw [s.startCycle_of_nil on none]
    exact ⟨rfl, rfl⟩
  · rw [s.startCycle_of_cons on some]
    refine ⟨State.sendCommand_cycle _ c, ?_, ?_, ?_, ?_⟩
    · rw [State.sendCommand_line, LineRec.sent_commands, State.setLine_line]
    · rintro a rfl
      exact ⟨rfl, rfl⟩
    · rintro rfl
      have run (a : Addr) := State.sendCommand_run ((s.setLine s.line.cycleCounted).setLine
        { s.line.cycleCounted with commands := cs }) a
      rw [State.sendCommand_line]
      exact ⟨rfl, rfl, rfl, fun a assigned => (run a).2 assigned, fun a => (run a).1⟩
    · rintro a rfl
      exact State.sendCommand_runTo _ a

end Sys2Proof.Machine
end

section
/-! What runs out on the wind line: the enrolment window, the echo wait, the run watch, and attempts
(R96, R98, R100, R102, R104). -/

namespace Sys2Proof.Machine

open Sys2Proof.Safety

section
variable (s : State) (a : Addr)

/-! ### The command list (R94) -/

/-- The line record with a command listed. -/
def LineRec.listed (l : LineRec) (c : LineCommand) : LineRec :=
  { l with commands := if l.commands.contains c then l.commands else l.commands ++ [c] }

theorem State.listCommand_eq (c : LineCommand) : s.listCommand c = s.setLine (s.line.listed c) := by
  unfold State.listCommand LineRec.listed
  split <;> rfl

theorem LineRec.listed_of_not_mem {l : LineRec} {c : LineCommand} (h : c ∉ l.commands) :
    l.listed c = { l with commands := l.commands ++ [c] } := by simp [LineRec.listed, h]

theorem LineRec.mem_listed (l : LineRec) (c : LineCommand) : c ∈ (l.listed c).commands := by
  unfold LineRec.listed
  split <;> simp_all

theorem LineRec.mem_listed_of_mem (l : LineRec) (c : LineCommand) {d : LineCommand}
    (h : d ∈ l.commands) : d ∈ (l.listed c).commands := by
  unfold LineRec.listed
  split <;> simp [h]

/-! ### Failed attempts (R102, R103) -/

theorem SensorState.isStarting_iff {x : SensorState} : x.isStarting = true ↔ ∃ p, x = .starting p := by
  cases x <;> simp [SensorState.isStarting]

/-- Below the third attempt a failure lists a RUN-TO and waits for it. -/
theorem State.failAttempt_of_lt (starting : (s.sensors.get a).state.isStarting = true)
    (h : (s.sensors.get a).attempts < 3) :
    s.failAttempt a = (s.setSensor a { s.sensors.get a with
      state := .starting .awaitingCommand }).setLine (s.line.listed (.runTo a)) := by
  obtain ⟨p, state⟩ := SensorState.isStarting_iff.mp starting
  have quiet := s.putRecord_quiet a { s.sensors.get a with state := .starting .awaitingCommand }
    (by rw [state]; rfl) (by rw [state]; rfl) fun _ => starting
  rw [State.failAttempt, if_pos h, State.listCommand_eq, quiet]
  rfl

/-- At the third attempt a failure fails the record. -/
theorem State.failAttempt_of_ge (h : 3 ≤ (s.sensors.get a).attempts) :
    s.failAttempt a = s.putRecord a (s.sensors.get a).fail := if_neg (Nat.not_lt.mpr h)

theorem State.putRecord_fail_failed (starting : (s.sensors.get a).state.isStarting = true) (r : SensorRec) :
    (s.putRecord a r.fail).alarms.get (.sensorFailed a) =
      (s.alarms.get (.sensorFailed a)).begins := by
  obtain ⟨p, state⟩ := SensorState.isStarting_iff.mp starting
  rw [State.putRecord_failed, if_neg (by simp [SensorRec.fail, SensorState.isStarting]), state]
  rfl

theorem SensorRec.starting_of_checkingDue {r : SensorRec} (h : r.checkingDue = true) :
    r.state.isStarting = true := by
  simp only [SensorRec.checkingDue, Bool.and_eq_true, beq_iff_eq] at h
  rw [h.1]
  rfl

/-- Attempts that are not due stay as they are. -/
theorem State.foldl_expireChecking_of_not_due {as : List Addr}
    (h : ∀ b ∈ as, (s.sensors.get b).checkingDue = false) : as.foldl State.expireChecking s = s := by
  induction as with
  | nil => rfl
  | cons b as ih =>
    rw [List.foldl_cons, State.expireChecking, if_neg (by simp [h b]), ih fun c mem => h c (by simp [mem])]

theorem State.expireCheckingBelow_of_not_due
    (h : ∀ b : Addr, b.number < a.number → (s.sensors.get b).checkingDue = false) :
    s.expireCheckingBelow a = s :=
  s.foldl_expireChecking_of_not_due fun b mem => h b (by simpa using (List.mem_filter.mp mem).2)

end

/-- Settles O51: each thing that runs out, by its own step. -/
theorem lineAndSensorTimersRunOut : Obligations.LineAndSensorTimersRunOut := by
  unfold Obligations.LineAndSensorTimersRunOut
  refine ⟨⟨fun s due => ?_, fun s a wait => ⟨fun tag held => ?_, fun none => ?_⟩, fun s watch => ?_⟩,
    fun s a => ⟨fun due below => ?_, fun due => ?_⟩⟩
  · refine ⟨_, rfl, ?_⟩
    have closes : s.closeWindow =
        if s.line.enrolHeld || s.line.commands.contains .run then
          s.setLine { s.line with windowOpen := false }
        else if s.line.commands = [] then (s.setLine { s.line with windowOpen := false }).sendCommand .run
        else (s.setLine { s.line with windowOpen := false }).listCommand .run := if_pos due
    rw [closes]
    refine ⟨?_, fun held => ?_, fun free none => ?_, fun free unlisted some => ?_⟩
    · split
      · rfl
      · split
        · rw [State.sendCommand_line]; rfl
        · rw [State.listCommand_eq]; rfl
    · rw [if_pos (by simpa using held)]
    · rw [if_neg (by simp [free, none]), if_pos none, State.sendCommand_cycle, State.sendCommand_line]
      exact ⟨rfl, rfl, rfl, none⟩
    · rw [if_neg (by simp [free, by simpa using unlisted]), if_neg some, State.listCommand_eq,
        LineRec.listed_of_not_mem (by simpa using unlisted)]
      rfl
  · simp [exec, execEchoWaitExpiry, State.expireEcho, wait, State.answerEnrol, held]
  · simp [exec, execEchoWaitExpiry, State.expireEcho, wait, State.answerEnrol, none]
  · exact congrArg Host.Outcome.next (if_pos watch)
  · have starting := SensorRec.starting_of_checkingDue due
    have step : exec (.checkingTimeout a) s = .next (s.failAttempt a) := by
      have fails : s.expireChecking a = s.failAttempt a := if_pos due
      have turn : (if (s.sensors.get a).checkingDue then
          (s.expireCheckingBelow a).expireChecking a else s) = s.failAttempt a := by
        rw [if_pos due, s.expireCheckingBelow_of_not_due a below, fails]
      exact congrArg Host.Outcome.next turn
    refine ⟨_, step, fun b ne => ?_, fun few => ?_, fun last => ?_⟩
    · rcases Nat.lt_or_ge (s.sensors.get a).attempts 3 with few | last
      · rw [s.failAttempt_of_lt a starting few]
        exact PerAddr.get_set_ne ne
      · rw [s.failAttempt_of_ge a last, State.putRecord_sensors, PerAddr.get_set_ne ne]
    · rw [s.failAttempt_of_lt a starting few]
      exact ⟨PerAddr.get_set_same .., rfl, rfl⟩
    · rw [s.failAttempt_of_ge a last, State.putRecord_sensors, PerAddr.get_set_same,
        State.putRecord_line, s.putRecord_fail_failed a starting]
      exact ⟨rfl, rfl, rfl⟩
  · have state : (s.sensors.get a).state = .starting .identity := by
      simp only [SensorRec.silentDue, Bool.and_eq_true, beq_iff_eq] at due
      exact due.1.1
    have step : s.expireSilent a = s.putRecord a .blank := if_pos due
    have quiet := s.putRecord_quiet a .blank (by rw [state]; rfl) (by rw [state]; rfl) nofun
    exact congrArg Host.Outcome.next (step.trans quiet)

end Sys2Proof.Machine
end

section
/-! Answers to requests whose work writes the state, and the supervisor's commands of the wind line
(R95, R97, R99, R110, R111, R178). -/

namespace Sys2Proof.Machine

open Sys2Proof.Safety

/-! ### Answers after work (R24, R34, R177, R179) -/

/-- The state after a request whose work has left the state and is answered with a frame. -/
def State.replies (u : State) (l : Link) (f : Frame) : State :=
  { u with handling := none, held := [] }.send l (f :: u.held)

theorem State.replies_tx (u : State) (l : Link) (f : Frame) :
    (u.replies l f).tx = u.tx.set l ((f :: u.held).foldl Tx.push (u.tx.get l)) := rfl

section
variable {s u : State}

theorem command_of_work {tag cmd : Nat} {work : State → State × Code × Data} {code : Code}
    {data : Data} (h : work (s.taken .supervisor) = (u, code, data)) :
    s.command tag cmd work = u.replies .supervisor (.answerSL tag cmd code data) := by
  unfold State.command
  rw [State.handle_eq (t := u) (f := some (.answerSL tag cmd code data))]
  · rfl
  · exact congrArg (fun r : State × Code × Data => (r.1, some (Frame.answerSL tag cmd r.2.1 r.2.2))) h

theorem handle_of_unchanged {l : Link} {work : State → State × Option Frame} {f : Frame}
    (h : work (s.taken l) = (s.taken l, some f)) : s.handle l work = replied l f s :=
  (State.handle_eq s l work h).trans rfl

/-- A request answered later: what its work raised on the link is sent. -/
theorem handle_of_unanswered {l : Link} {work : State → State × Option Frame}
    (h : work (s.taken l) = (u, none)) (quiet : u.held = []) :
    s.handle l work = { u with handling := none, held := [] } := by
  rw [State.handle_eq s l work h, quiet]
  exact State.send_nil _ l

theorem craneRequest_of_work {n : Station} {kind : Byte} {work : State → State × Code × Data}
    {code : Code} {data : Data} (h : work (s.taken (.crane n)) = (u, code, data)) :
    s.craneRequest n kind work = u.replies (.crane n) (.answer kind code data) := by
  unfold State.craneRequest
  rw [State.handle_eq (t := u) (f := some (.answer kind code data))]
  · rfl
  · exact congrArg (fun r : State × Code × Data => (r.1, some (Frame.answer kind r.2.1 r.2.2))) h

theorem onlineRequest_of_work {n : Station} {kind : Byte} {work : State → State × Code × Data}
    {code : Code} {data : Data} (online : (s.ctx.get n).link = .online)
    (h : work (s.taken (.crane n)) = (u, code, data)) :
    s.onlineRequest n kind work = u.replies (.crane n) (.answer kind code data) :=
  have on : ((s.taken (.crane n)).ctx.get n).link = .online := online
  craneRequest_of_work ((if_pos on).trans h)

/-- Work that raises frames leaves its link to the answer, which goes first. -/
theorem answered_of_talks {l : Link} (h : Talks (s.taken l) u) (f : Frame) :
    answered l f s (u.replies l f) := by
  obtain ⟨more, sent, own⟩ := h.sent l
  refine ⟨rfl, rfl, h.rx, u.held, ?_⟩
  rw [State.replies, State.send, State.setTx_tx, PerLink.get_set_same]
  change List.foldl Tx.push (u.tx.get l) _ = _
  rw [sent, own rfl]
  rfl

end

/-! ### Records that tell of no condition -/

/-- Sensor records and alarm entries alone are written, and nothing is raised. -/
def QuietSensors (s t : State) : Prop :=
  t = { s with sensors := t.sensors, alarms := t.alarms, attn := t.attn }

theorem QuietSensors.refl (s : State) : QuietSensors s s := rfl

theorem QuietSensors.trans {s t u : State} (h : QuietSensors s t) (k : QuietSensors t u) :
    QuietSensors s u := by
  calc u = { t with sensors := u.sensors, alarms := u.alarms, attn := u.attn } := k
    _ = { s with sensors := u.sensors, alarms := u.alarms, attn := u.attn } := by rw [h]

theorem QuietSensors.talks {s t : State} (h : QuietSensors s t) : Talks s t :=
  .of_eq (by rw [h]) (by rw [h]) (by rw [h]) (by rw [h])

section
variable (s : State) (a : Addr)

/-- A record that is neither FAULT nor FAILED begins no condition. -/
theorem QuietSensors.putRecord {r : SensorRec} (fault : r.state ≠ .fault) (failed : r.state ≠ .failed) :
    QuietSensors s (s.putRecord a r) := by
  have noFault : (r.state == .fault) = false := by simpa using fault
  have noFailed : (r.state == .failed) = false := by simpa using failed
  have first : QuietSensors s ((s.setSensor a r).faultTold a (s.sensors.get a).state r.state) := by
    unfold State.faultTold
    rw [noFault]
    split <;> rfl
  have second (t : State) : QuietSensors t (t.failedTold a (s.sensors.get a).state r.state) := by
    unfold State.failedTold
    rw [noFailed]
    split <;> rfl
  have third (t : State) : QuietSensors t (t.startTold a (s.sensors.get a).state r.state) := by
    unfold State.startTold
    split <;> rfl
  rw [State.putRecord_eq]
  exact (first.trans (second _)).trans (third _)

theorem QuietSensors.blankRecords : QuietSensors s s.blankRecords :=
  foldl_related (f := fun s a => s.putRecord a .blank) .refl .trans
    (fun s a => .putRecord s a nofun nofun) s Addr.all

theorem State.blankRecords_get : s.blankRecords.sensors.get a = .blank := by
  have blanks (as : List Addr) (s : State) (h : a ∈ as ∨ s.sensors.get a = .blank) :
      (as.foldl (fun s a => s.putRecord a .blank) s).sensors.get a = .blank := by
    induction as generalizing s with
    | nil => exact h.resolve_left nofun
    | cons b as ih =>
      refine ih (s.putRecord b .blank) ?_
      rw [State.putRecord_sensors, PerAddr.get_set]
      by_cases own : a = b
      · exact .inr (if_pos own)
      · rw [if_neg own]
        exact h.imp_left fun mem => (List.mem_cons.mp mem).resolve_left own
  exact blanks Addr.all s (.inl (Addr.mem_all a))

/-! ### ENROL_NEXT and RUN_LINE -/

/-- An enrolment is awaited: an echo is, or an ASSIGN is listed. -/
def LineRec.Awaits (l : LineRec) : Prop := l.echoWait ≠ none ∨ ∃ a, LineCommand.assign a ∈ l.commands

theorem LineRec.awaits_iff {l : LineRec} :
    l.echoWait.isSome = true ∨ l.assignListed = true ↔ l.Awaits := by
  refine or_congr Option.isSome_iff_ne_none (List.any_eq_true.trans ⟨?_, ?_⟩)
  · rintro ⟨c, mem, assign⟩
    cases c with
    | assign a => exact ⟨a, mem⟩
    | run => cases assign
    | runTo a => cases assign
  · rintro ⟨a, mem⟩
    exact ⟨_, mem, rfl⟩

variable {s} {a}

theorem State.enrolRefusal_of_none {k : Nat} (h : Addr.ofNumber? k = none) :
    s.enrolRefusal k = some .range := by simp [State.enrolRefusal, h]

/-- The refusals of ENROL_NEXT for an address, in their order (R97). -/
theorem State.enrolRefusal_of_some {k : Nat} (h : Addr.ofNumber? k = some a) :
    s.enrolRefusal k =
      if s.line.windowOpen = false then some .closed
      else if s.line.echoWait.isSome = true ∨ s.line.assignListed = true then some .busy
      else if (s.sensors.get a).state ≠ .absent then some .inUse
      else none := by simp only [State.enrolRefusal, h]

theorem exec_enrolNext_refused {tag k : Nat} {code : Code} (h : s.enrolRefusal k = some code) :
    exec (.enrolNext tag k) s =
      .next (replied .supervisor (.answerSL tag 0x18 code .empty) s) := by
  have refused : (s.taken .supervisor).enrolRefusal k = some code := h
  have work : (s.taken .supervisor).enrolNext tag k =
      (s.taken .supervisor, some (.answerSL tag 0x18 code .empty)) := by
    unfold State.enrolNext
    rw [refused]
  exact congrArg Host.Outcome.next (handle_of_unchanged work)

/-- An accepted ENROL_NEXT lists ASSIGN, holds the enrolment and is answered later (R97, R178). -/
theorem exec_enrolNext_accepted {tag k : Nat} (address : Addr.ofNumber? k = some a)
    (h : s.enrolRefusal k = none) (unlisted : LineCommand.assign a ∉ s.line.commands) :
    exec (.enrolNext tag k) s = .next
      { (s.setRx .supervisor .hunting).setLine
          { s.line with enrolHeld := true, commands := s.line.commands ++ [.assign a] } with
        enrolTag := some tag, handling := none, held := [] } := by
  have accepted : (s.taken .supervisor).enrolRefusal k = none := h
  have work : (s.taken .supervisor).enrolNext tag k =
      ({ (s.taken .supervisor).setLine
          { s.line with enrolHeld := true, commands := s.line.commands ++ [.assign a] } with
        enrolTag := some tag }, none) := by
    unfold State.enrolNext
    rw [accepted, address]
    simp only [State.listCommand_eq]
    rw [LineRec.listed_of_not_mem (by exact unlisted)]
    rfl
  exact congrArg Host.Outcome.next
    (handle_of_unanswered (s := s) (work := fun s => s.enrolNext tag k) work rfl)

/-! ### Power -/

/-- Powering the line up blanks the records and cuts the cycle in progress (R95). -/
theorem State.powerUpLine_frame (s : State) :
    s.powerUpLine = { s with line := .poweredUp, sensors := s.powerUpLine.sensors,
                             cycle := s.powerUpLine.cycle, alarms := s.powerUpLine.alarms,
                             attn := s.powerUpLine.attn } := by
  have blank := QuietSensors.blankRecords s.cutCycle
  unfold State.powerUpLine
  rw [blank]
  rfl

/-- The state in which an awaited enrolment of a stopped line has been answered. -/
def State.powerCut (s : State) : State := (s.cutCycle.setLine .stopped).answerEnrol .noSensor

theorem State.powerCut_eq (s : State) :
    s.powerCut = { s.cutCycle.setLine .stopped with enrolTag := none }.send .supervisor
      (abandonedEnrol s) := by
  cases tag : s.enrolTag with
  | none =>
    have same : (s.cutCycle.setLine .stopped).enrolTag = none := tag
    rw [State.powerCut, State.answerEnrol, same, abandonedEnrol, tag, State.send_nil]
    exact congrArg (fun e => { s.cutCycle.setLine .stopped with enrolTag := e }) same
  | some t =>
    have same : (s.cutCycle.setLine .stopped).enrolTag = some t := tag
    rw [State.powerCut, State.answerEnrol, same, abandonedEnrol, tag]

theorem State.stopPower_eq (s : State) : s.stopPower = s.powerCut.blankRecords := rfl

end

/-! ### The commands -/

theorem exec_runLine_of_enrolling {s : State} {tag : Nat} (state : s.line.state = .enrolling)
    (free : ¬ s.line.Awaits) : exec (.runLine tag) s = .next
      (replied .supervisor (.answerSL tag 0x19 .ok .empty) (s.setLine (s.line.listed .run))) := by
  have work : (s.taken .supervisor).runLine =
      ((s.taken .supervisor).setLine (s.line.listed .run), .ok, .empty) := by
    have same : (s.taken .supervisor).line = s.line := rfl
    unfold State.runLine
    rw [same, state]
    dsimp only
    rw [if_neg fun h => free (LineRec.awaits_iff.mp h), State.listCommand_eq]
    rfl
  exact congrArg Host.Outcome.next (State.command_answers s tag 0x19 State.runLine work)

/-- The line, the records, the cycle, alarms and frames alone are written. -/
def PowerFrame (s t : State) : Prop :=
  t = { s with line := t.line, sensors := t.sensors, cycle := t.cycle, alarms := t.alarms,
               attn := t.attn, enrolTag := t.enrolTag, tx := t.tx, rx := t.rx,
               handling := t.handling, held := t.held }

theorem PowerFrame.trans {s t u : State} (h : PowerFrame s t) (k : PowerFrame t u) :
    PowerFrame s u := by
  calc u = { t with line := u.line, sensors := u.sensors, cycle := u.cycle, alarms := u.alarms,
                    attn := u.attn, enrolTag := u.enrolTag, tx := u.tx, rx := u.rx,
                    handling := u.handling, held := u.held } := k
    _ = { s with line := u.line, sensors := u.sensors, cycle := u.cycle, alarms := u.alarms,
                 attn := u.attn, enrolTag := u.enrolTag, tx := u.tx, rx := u.rx,
                 handling := u.handling, held := u.held } := by rw [h]

theorem PowerFrame.of_quiet {s t : State} (h : QuietSensors s t) : PowerFrame s t := by
  unfold PowerFrame
  rw [h]

/-- START_LINE of a line that is OFF powers it up (R95). -/
theorem exec_startLine_of_off {s : State} {tag : Nat} (off : s.line.state = .off) :
    ∃ t, exec (.startLine tag) s = .next t ∧ t.line = .poweredUp ∧
      (∀ a, t.sensors.get a = .blank) ∧
      answered .supervisor (.answerSL tag 0x1B .ok .empty) s t ∧
      t = { s with line := t.line, sensors := t.sensors, cycle := t.cycle, alarms := t.alarms,
                   attn := t.attn, tx := t.tx, rx := t.rx, handling := none, held := [] } := by
  have work : (s.taken .supervisor).startLine =
      ((s.taken .supervisor).powerUpLine, .ok, .empty) := by
    have same : (s.taken .supervisor).line.state = .off := off
    unfold State.startLine
    rw [same]
  have frame := (s.taken .supervisor).powerUpLine_frame
  refine ⟨_, congrArg Host.Outcome.next (command_of_work work), rfl, fun a => ?_, ?_, ?_⟩
  · exact State.blankRecords_get _ a
  · exact answered_of_talks (.of_eq (by rw [frame]) (by rw [frame]) (by rw [frame]) (by rw [frame])) _
  · rw [State.replies, frame]
    rfl

/-- STOP_LINE removes power, empties the records and answers an awaited ENROL_NEXT before its own answer
(R111, R178). -/
theorem exec_stopLine_of_on {s : State} {tag : Nat} (on : s.line.state ≠ .off) :
    ∃ t, exec (.stopLine tag) s = .next t ∧ t.line = .stopped ∧
      (∀ a, t.sensors.get a = .blank) ∧ t.enrolTag = none ∧
      t.tx.get .supervisor =
        (abandonedEnrol s ++ [Frame.answerSL tag 0x1A .ok .empty]).foldl Tx.push (s.tx.get .supervisor) ∧
      (∀ n, t.tx.get (.crane n) = s.tx.get (.crane n)) ∧
      t.rx = s.rx.set .supervisor .hunting ∧
      t = { s with line := t.line, sensors := t.sensors, cycle := t.cycle, alarms := t.alarms,
                   attn := t.attn, enrolTag := t.enrolTag, tx := t.tx, rx := t.rx,
                   handling := none, held := [] } := by
  have work : (s.taken .supervisor).stopLine =
      ((s.taken .supervisor).powerCut.blankRecords, .ok, .empty) := by
    have same : (s.taken .supervisor).line.state = s.line.state := rfl
    unfold State.stopLine
    rw [same]
    split
    · exact absurd ‹_› on
    · rfl
    · rfl
  have cut := (s.taken .supervisor).powerCut_eq
  have blank := QuietSensors.blankRecords (s.taken .supervisor).powerCut
  have frame : QuietSensors ({ (s.taken .supervisor).cutCycle.setLine .stopped with
      enrolTag := none }.send .supervisor (abandonedEnrol s))
      (s.taken .supervisor).powerCut.blankRecords := by
    rw [cut] at blank ⊢
    exact blank
  have records := State.blankRecords_get (s.taken .supervisor).powerCut
  generalize (s.taken .supervisor).powerCut.blankRecords = u at work frame records
  have held : u.held = [] := by rw [frame]; rfl
  have tx : u.tx = s.tx.set .supervisor
      ((abandonedEnrol s).foldl Tx.push (s.tx.get .supervisor)) := by rw [frame]; rfl
  refine ⟨_, congrArg Host.Outcome.next (command_of_work work), ?_, records, ?_, ?_, fun n => ?_, ?_,
    ?_⟩
  · change u.line = _
    rw [frame]; rfl
  · change u.enrolTag = _
    rw [frame]; rfl
  · rw [State.replies_tx, held, tx]
    simp
  · rw [State.replies_tx, tx]
    simp
  · change u.rx = _
    rw [frame]; rfl
  · have cut' : PowerFrame s ({ (s.taken .supervisor).cutCycle.setLine .stopped with
        enrolTag := none }.send .supervisor (abandonedEnrol s)) := rfl
    have worked : PowerFrame s u := cut'.trans (.of_quiet frame)
    rw [State.replies, worked]
    rfl

/-- SENSOR_RESTART starts a record of a RUNNING line again and lists its RUN-TO (R110). -/
theorem exec_sensorRestart_of_running {s : State} {tag k : Nat} {a : Addr}
    (address : Addr.ofNumber? k = some a) (running : s.line.state = .running)
    (started : (s.sensors.get a).state.isStarting = false) :
    ∃ t, exec (.sensorRestart tag k) s = .next t ∧
      t.sensors = s.sensors.set a (s.sensors.get a).restarted ∧
      t.line.commands = (s.line.listed (.runTo a)).commands ∧
      (t.alarms.get (.sensorFailed a)).state = .clear ∧
      answered .supervisor (.answerSL tag 0x1C .ok .empty) s t ∧
      t = { s with line := { s.line with commands := t.line.commands }, sensors := t.sensors,
                   alarms := t.alarms, attn := t.attn, tx := t.tx, rx := t.rx,
                   handling := none, held := [] } := by
  have work : (s.taken .supervisor).sensorRestart k =
      (((s.taken .supervisor).putRecord a (s.sensors.get a).restarted).setLine
        (s.line.listed (.runTo a)), .ok, .empty) := by
    have same : (s.taken .supervisor).line.state = .running := running
    have stands : ((s.taken .supervisor).sensors.get a).state.isStarting = false := started
    unfold State.sensorRestart
    rw [address]
    dsimp only
    rw [if_neg (not_not_intro same), if_neg (by simp [stands]), State.listCommand_eq,
      State.putRecord_line]
    rfl
  have quiet := QuietSensors.putRecord (s.taken .supervisor) a (r := (s.sensors.get a).restarted)
    nofun nofun
  refine ⟨_, congrArg Host.Outcome.next (command_of_work work), ?_, rfl, ?_, ?_, ?_⟩
  · exact State.putRecord_sensors (s.taken .supervisor) a _
  · have entry := State.putRecord_failed (s.taken .supervisor) a (s.sensors.get a).restarted
    rw [if_pos ⟨rfl, started⟩] at entry
    exact (congrArg Entry.state entry).trans rfl
  · exact answered_of_talks (quiet.talks.trans .of_eq) _
  · rw [State.replies, quiet]
    rfl

/-- Settles O52: each command by its refusals and its effect. -/
theorem lineCommandsAreTaken : Obligations.LineCommandsAreTaken := by
  unfold Obligations.LineCommandsAreTaken
  intro s tag ok no awaits
  have awaiting : (s.line.echoWait.isSome = true ∨ s.line.assignListed = true) ↔ awaits :=
    LineRec.awaits_iff
  refine ⟨fun k => ⟨fun none => ⟨?_, ?_⟩, fun a address => ⟨fun closed => ?_, fun opened busy => ?_,
    fun opened free used => ?_, fun state => ?_, fun state starting => ?_⟩⟩, fun state => ?_,
    fun state busy => ?_, fun state => ?_, fun k a address opened free absent => ?_,
    fun state free => ?_, fun off => ⟨?_, exec_startLine_of_off off⟩, exec_stopLine_of_on,
    fun k a address state started => ?_⟩
  · exact exec_enrolNext_refused (State.enrolRefusal_of_none none)
  · exact congrArg Host.Outcome.next (command_of_unchanged (work := fun s => s.sensorRestart k)
      (by simp only [State.sensorRestart, none]))
  · exact exec_enrolNext_refused ((State.enrolRefusal_of_some address).trans (if_pos closed))
  · exact exec_enrolNext_refused (by
      rw [State.enrolRefusal_of_some address, if_neg (by simp [opened]), if_pos (awaiting.mpr busy)])
  · exact exec_enrolNext_refused (by
      rw [State.enrolRefusal_of_some address, if_neg (by simp [opened]),
        if_neg (mt awaiting.mp free), if_pos used])
  · refine congrArg Host.Outcome.next (command_of_unchanged (work := fun s => s.sensorRestart k) ?_)
    have other : (s.taken .supervisor).line.state ≠ .running := state
    simp only [State.sensorRestart, address, if_pos other]
  · refine congrArg Host.Outcome.next (command_of_unchanged (work := fun s => s.sensorRestart k) ?_)
    have same : (s.taken .supervisor).line.state = .running := state
    have starts : ((s.taken .supervisor).sensors.get a).state.isStarting = true :=
      SensorState.isStarting_iff.mpr starting
    simp only [State.sensorRestart, address, if_neg (not_not_intro same), if_pos starts]
  · refine congrArg Host.Outcome.next (command_of_unchanged (work := State.runLine) ?_)
    have same : (s.taken .supervisor).line.state = s.line.state := rfl
    unfold State.runLine
    rw [same]
    split
    · rfl
    · rfl
    · exact absurd ‹_› state
  · refine congrArg Host.Outcome.next (command_of_unchanged (work := State.runLine) ?_)
    have same : (s.taken .supervisor).line.state = .enrolling := state
    unfold State.runLine
    rw [same]
    exact if_pos (awaiting.mpr busy)
  · refine congrArg Host.Outcome.next (command_of_unchanged (work := State.startLine) ?_)
    have same : (s.taken .supervisor).line.state = s.line.state := rfl
    unfold State.startLine
    rw [same]
    split
    · exact absurd ‹_› state
    · rfl
    · rfl
  · refine exec_enrolNext_accepted address ?_ fun listed => free (.inr ⟨a, listed⟩)
    rw [State.enrolRefusal_of_some address, if_neg (by simp [opened]), if_neg (mt awaiting.mp free),
      if_neg (not_not_intro absent)]
  · rw [exec_runLine_of_enrolling state free, LineRec.listed]
    split
    · rfl
    · rfl
  · refine congrArg Host.Outcome.next (command_of_unchanged (work := State.stopLine) ?_)
    have same : (s.taken .supervisor).line.state = .off := off
    unfold State.stopLine
    rw [same]
  · refine exec_sensorRestart_of_running address state ?_
    rw [Bool.eq_false_iff, Ne, SensorState.isStarting_iff]
    exact fun ⟨p, starting⟩ => started p starting

end Sys2Proof.Machine
end

section
/-! The slots of an ordinary cycle (R91, R98, R100 to R107). -/

namespace Sys2Proof.Machine

open Sys2Proof.Safety

/-! ### What the slot of another address keeps -/

/-- The line's record grows by commands listed alone. -/
def LineGrows (s t : State) : Prop :=
  t.line = { s.line with commands := t.line.commands } ∧ ∀ c ∈ s.line.commands, c ∈ t.line.commands

theorem LineGrows.refl (s : State) : LineGrows s s := ⟨rfl, fun _ h => h⟩

theorem LineGrows.trans {s t u : State} (h : LineGrows s t) (k : LineGrows t u) : LineGrows s u :=
  ⟨by rw [k.1, h.1], fun c mem => k.2 c (h.2 c mem)⟩

theorem LineGrows.of_line {s t : State} (h : t.line = s.line) : LineGrows s t :=
  ⟨by rw [h], fun c mem => by rwa [h]⟩

theorem LineGrows.listed {s t : State} {c : LineCommand} (h : t.line = s.line.listed c) :
    LineGrows s t :=
  ⟨by rw [h]; rfl, fun d mem => by rw [h]; exact LineRec.mem_listed_of_mem _ c mem⟩

/-- The record of an address and its two entries stay. -/
structure AddrKept (a : Addr) (s t : State) : Prop where
  record : t.sensors.get a = s.sensors.get a
  failed : t.alarms.get (.sensorFailed a) = s.alarms.get (.sensorFailed a)
  fault : t.alarms.get (.sensorFault a) = s.alarms.get (.sensorFault a)

theorem AddrKept.refl (a : Addr) (s : State) : AddrKept a s s := ⟨rfl, rfl, rfl⟩

theorem AddrKept.trans {a : Addr} {s t u : State} (h : AddrKept a s t) (k : AddrKept a t u) :
    AddrKept a s u :=
  ⟨k.record.trans h.record, k.failed.trans h.failed, k.fault.trans h.fault⟩

section
variable {a b : Addr} (s : State)

theorem AddrKept.putRecord (ne : b ≠ a) (r : SensorRec) : AddrKept a s (s.putRecord b r) where
  record := by rw [State.putRecord_sensors, PerAddr.get_set_ne ne.symm]
  failed := State.putRecord_get_ne _ _ _ (by simpa using ne.symm) nofun
  fault := State.putRecord_get_ne _ _ _ nofun (by simpa using ne.symm)

theorem AddrKept.setSensor (ne : b ≠ a) (r : SensorRec) : AddrKept a s (s.setSensor b r) :=
  ⟨PerAddr.get_set_ne ne.symm, rfl, rfl⟩

theorem State.listCommand_frame (c : LineCommand) :
    s.listCommand c = { s with line := s.line.listed c } := by rw [State.listCommand_eq]; rfl

theorem AddrKept.listCommand (c : LineCommand) : AddrKept a s (s.listCommand c) := by
  rw [State.listCommand_frame]
  exact ⟨rfl, rfl, rfl⟩

theorem LineGrows.listCommand (c : LineCommand) : LineGrows s (s.listCommand c) :=
  .listed (by rw [State.listCommand_frame])

theorem LineGrows.putRecord (r : SensorRec) : LineGrows s (s.putRecord a r) :=
  .of_line (s.putRecord_line a r)

theorem AddrKept.failAttempt (ne : b ≠ a) : AddrKept a s (s.failAttempt b) := by
  unfold State.failAttempt
  extract_lets r
  split
  · exact (AddrKept.putRecord s ne _).trans (.listCommand _ _)
  · exact .putRecord s ne _

theorem LineGrows.failAttempt : LineGrows s (s.failAttempt a) := by
  unfold State.failAttempt
  extract_lets r
  split
  · exact (LineGrows.putRecord s _).trans (.listCommand _ _)
  · exact .putRecord s _

theorem AddrKept.expireChecking (h : b ≠ a ∨ (s.sensors.get a).checkingDue = false) :
    AddrKept a s (s.expireChecking b) := by
  unfold State.expireChecking
  split
  case isTrue due =>
    refine .failAttempt s ?_
    rintro rfl
    rw [due] at h
    exact h.elim (· rfl) nofun
  case isFalse => exact .refl a s

theorem LineGrows.expireChecking : LineGrows s (s.expireChecking a) := by
  unfold State.expireChecking
  split
  · exact .failAttempt s
  · exact .refl s

theorem LineGrows.expireCheckingBelow : LineGrows s (s.expireCheckingBelow a) :=
  foldl_related .refl .trans (fun s b => LineGrows.expireChecking (a := b) s) s _

theorem AddrKept.foldl_expireChecking (bs : List Addr)
    (h : a ∉ bs ∨ (s.sensors.get a).checkingDue = false) :
    AddrKept a s (bs.foldl State.expireChecking s) := by
  induction bs generalizing s with
  | nil => exact .refl a s
  | cons b bs ih =>
    have first : AddrKept a s (s.expireChecking b) := by
      refine .expireChecking s (h.imp_left fun out => ?_)
      rintro rfl
      exact out List.mem_cons_self
    refine first.trans (ih _ ?_)
    rw [first.record]
    exact h.imp_left fun out mem => out (List.mem_cons_of_mem _ mem)

/-- The attempts due below an address leave its own record. -/
theorem AddrKept.expireCheckingBelow_self : AddrKept a s (s.expireCheckingBelow a) :=
  .foldl_expireChecking s _ (.inl fun mem => by simpa using (List.mem_filter.mp mem).2)

theorem AddrKept.expireCheckingBelow (h : (s.sensors.get a).checkingDue = false) :
    AddrKept a s (s.expireCheckingBelow b) := .foldl_expireChecking s _ (.inr h)

theorem AddrKept.readAttempt (ne : b ≠ a) (h : (s.sensors.get a).checkingDue = false)
    (moved : Option SensorRec) : AddrKept a s (s.readAttempt b moved) := by
  unfold State.readAttempt
  split
  · exact .putRecord s ne _
  · exact ((AddrKept.expireCheckingBelow s h).trans (.setSensor _ ne _)).trans (.failAttempt _ ne)

theorem LineGrows.readAttempt (moved : Option SensorRec) : LineGrows s (s.readAttempt a moved) := by
  unfold State.readAttempt
  split
  · exact .putRecord s _
  · exact ((LineGrows.expireCheckingBelow s).trans (.of_line rfl)).trans (.failAttempt _)

theorem AddrKept.findWatched (ne : b ≠ a) (x : Reply) : AddrKept a s (s.findWatched b x) := by
  unfold State.findWatched
  extract_lets r
  split
  · split
    · exact .putRecord s ne _
    · exact .refl a s
  · exact .refl a s

theorem LineGrows.findWatched (x : Reply) : LineGrows s (s.findWatched a x) := by
  unfold State.findWatched
  extract_lets r
  split
  · split
    · exact .putRecord s _
    · exact .refl s
  · exact .refl s

theorem AddrKept.readAddr (slots : PerAddr Slot) (ne : b ≠ a)
    (h : (s.sensors.get a).checkingDue = false) : AddrKept a s (State.readAddr slots s b) := by
  unfold State.readAddr
  extract_lets x t r
  have found : AddrKept a s t := .findWatched s ne x
  rw [← found.record] at h
  split
  · exact found.trans (.readAttempt t ne h _)
  · exact found.trans (.readAttempt t ne h _)
  · exact found.trans (.readAttempt t ne h _)
  · exact found.trans (.putRecord t ne _)
  · exact found.trans (.putRecord t ne _)
  all_goals exact found

theorem LineGrows.readAddr (slots : PerAddr Slot) : LineGrows s (State.readAddr slots s a) := by
  unfold State.readAddr
  extract_lets x t r
  have found : LineGrows s t := .findWatched s x
  split
  · exact found.trans (.readAttempt t _)
  · exact found.trans (.readAttempt t _)
  · exact found.trans (.readAttempt t _)
  · exact found.trans (.putRecord t _)
  · exact found.trans (.putRecord t _)
  all_goals exact found

theorem AddrKept.foldl_readAddr (slots : PerAddr Slot) {bs : List Addr} (out : a ∉ bs)
    (h : (s.sensors.get a).checkingDue = false) :
    AddrKept a s (bs.foldl (State.readAddr slots) s) := by
  induction bs generalizing s with
  | nil => exact .refl a s
  | cons b bs ih =>
    rw [List.mem_cons, not_or] at out
    have first : AddrKept a s (State.readAddr slots s b) := .readAddr s slots (Ne.symm out.1) h
    exact first.trans (ih _ out.2 (by rwa [first.record]))

/-! ### A record whose last attempt cycle in CHECKING has been counted -/

/-- The record's attempt has failed or is due to. -/
def SensorRec.Ending (r : SensorRec) : Prop :=
  r.checkingDue = true ∨ r.state = .starting .awaitingCommand ∨ r.state = .failed

theorem SensorRec.ending_failAttempt (starting : (s.sensors.get a).state.isStarting = true) :
    ((s.failAttempt a).sensors.get a).Ending := by
  rcases Nat.lt_or_ge (s.sensors.get a).attempts 3 with few | last
  · rw [s.failAttempt_of_lt a starting few]
    exact .inr (.inl (congrArg SensorRec.state (PerAddr.get_set_same ..)))
  · rw [s.failAttempt_of_ge a last, State.putRecord_sensors, PerAddr.get_set_same]
    exact .inr (.inr rfl)

theorem SensorRec.Ending.of_kept {t : State} (h : (s.sensors.get a).Ending) (k : AddrKept a s t) :
    (t.sensors.get a).Ending := by rwa [k.record]

theorem SensorRec.ending_expireChecking (h : (s.sensors.get a).Ending) :
    ((s.expireChecking b).sensors.get a).Ending := by
  by_cases own : b = a
  · subst own
    unfold State.expireChecking
    split
    case isTrue due => exact ending_failAttempt s (starting_of_checkingDue due)
    case isFalse => exact h
  · exact h.of_kept s (.expireChecking s (.inl own))

theorem SensorRec.ending_readAddr (slots : PerAddr Slot) (ne : b ≠ a)
    (h : (s.sensors.get a).Ending) : ((State.readAddr slots s b).sensors.get a).Ending := by
  have attempt (t : State) (moved : Option SensorRec) (h : (t.sensors.get a).Ending) :
      ((t.readAttempt b moved).sensors.get a).Ending := by
    unfold State.readAttempt
    split
    · exact h.of_kept t (.putRecord t ne _)
    · have below (bs : List Addr) (t : State) (h : (t.sensors.get a).Ending) :
          ((bs.foldl State.expireChecking t).sensors.get a).Ending := by
        induction bs generalizing t with
        | nil => exact h
        | cons c bs ih => exact ih _ (ending_expireChecking t h)
      exact (below _ t h).of_kept _ ((AddrKept.setSensor _ ne _).trans (.failAttempt _ ne))
  unfold State.readAddr
  extract_lets x t r
  have found : (t.sensors.get a).Ending := h.of_kept s (.findWatched s ne x)
  split
  · exact attempt t _ found
  · exact attempt t _ found
  · exact attempt t _ found
  · exact found.of_kept t (.putRecord t ne _)
  · exact found.of_kept t (.putRecord t ne _)
  all_goals exact found

theorem SensorRec.ending_foldl_readAddr (slots : PerAddr Slot) {bs : List Addr} (out : a ∉ bs)
    (h : (s.sensors.get a).Ending) :
    ((bs.foldl (State.readAddr slots) s).sensors.get a).Ending := by
  induction bs generalizing s with
  | nil => exact h
  | cons b bs ih =>
    rw [List.mem_cons, not_or] at out
    exact ih _ out.2 (ending_readAddr s slots (Ne.symm out.1) h)

end

/-! ### The slots of a cycle, address by address -/

/-- An ordinary cycle of a RUNNING line reads the slots in ascending order of address. -/
theorem State.readSlots_of_running {s : State} (slots : PerAddr Slot)
    (running : s.line.state = .running) (noEcho : s.line.echoWait = none) :
    s.readSlots .ordinary slots = (Addr.all.foldl (State.readAddr slots) s).setLine
      (Addr.all.foldl (State.readAddr slots) s).line.countWatch := by
  simp only [State.readSlots, running, State.readEcho, noEcho]

theorem LineGrows.foldl_readAddr (slots : PerAddr Slot) (s : State) (bs : List Addr) :
    LineGrows s (bs.foldl (State.readAddr slots) s) :=
  foldl_related .refl .trans (fun s b => LineGrows.readAddr (a := b) s slots) s bs

/-- The run watch counts the cycle (R100). -/
theorem State.readSlots_runWatch {s : State} (slots : PerAddr Slot)
    (running : s.line.state = .running) (noEcho : s.line.echoWait = none) :
    (s.readSlots .ordinary slots).line.runWatch =
      s.line.runWatch.map fun w => min 8 (w + 1) := by
  rw [State.readSlots_of_running slots running noEcho]
  exact (congrArg (fun l : LineRec => l.runWatch.map fun w => min 8 (w + 1))
    (LineGrows.foldl_readAddr slots s Addr.all).1).trans rfl

/-- The slot of an address is read in a state that keeps its record, and what comes after keeps it too,
unless its attempt is due to fail. -/
theorem State.readSlots_own {s : State} (slots : PerAddr Slot) {a : Addr}
    (running : s.line.state = .running) (noEcho : s.line.echoWait = none)
    (notDue : (s.sensors.get a).checkingDue = false) :
    ∃ before, AddrKept a s before ∧ before.line.runWatch = s.line.runWatch ∧
      (∀ c ∈ (State.readAddr slots before a).line.commands,
        c ∈ (s.readSlots .ordinary slots).line.commands) ∧
      (((State.readAddr slots before a).sensors.get a).checkingDue = false →
        AddrKept a (State.readAddr slots before a) (s.readSlots .ordinary slots)) ∧
      (((State.readAddr slots before a).sensors.get a).Ending →
        ((s.readSlots .ordinary slots).sensors.get a).Ending) := by
  obtain ⟨first, last, order⟩ := List.append_of_mem (Addr.mem_all a)
  have nodup := Addr.nodup_all
  rw [order] at nodup
  obtain ⟨-, tail, apart⟩ := List.nodup_append.mp nodup
  have outFirst : a ∉ first := fun mem => apart a mem a List.mem_cons_self rfl
  have outLast : a ∉ last := (List.nodup_cons.mp tail).1
  refine ⟨first.foldl (State.readAddr slots) s, .foldl_readAddr s slots outFirst notDue, ?_, ?_⟩
  · rw [(LineGrows.foldl_readAddr slots s first).1]
  rw [State.readSlots_of_running slots running noEcho, order, List.foldl_append, List.foldl_cons]
  refine ⟨(LineGrows.foldl_readAddr slots _ last).2, fun still => ?_, fun ending => ?_⟩
  · exact (AddrKept.foldl_readAddr _ slots outLast still).trans ⟨rfl, rfl, rfl⟩
  · exact SensorRec.ending_foldl_readAddr _ slots outLast ending

end Sys2Proof.Machine
end

section
/-! The slot of one address (R100 to R108), and the slots of a cycle by the state of each record. -/

namespace Sys2Proof.Machine

open Sys2Proof.Safety

section
variable {s : State} {a : Addr} {slots : PerAddr Slot}

/-! ### The slot by the record's state -/

/-- The watch for words leaves a record that is not ABSENT, and every one of which no word is seen. -/
theorem State.findWatched_of_kept {x : Reply}
    (h : (s.sensors.get a).state ≠ .absent ∨ s.line.runWatch = none ∨ x = .missing) :
    s.findWatched a x = s := by
  unfold State.findWatched
  extract_lets r
  split
  case h_1 w watch absent =>
    rw [if_neg]
    rintro ⟨-, word⟩
    rcases h with other | unwatched | missing
    · exact other absent
    · rw [unwatched] at watch; cases watch
    · exact word missing
  case h_2 => rfl

/-- A word in the slot of a watched ABSENT record begins its first attempt (R100). -/
theorem State.findWatched_of_word {x : Reply} {w : Nat} (watch : s.line.runWatch = some w)
    (absent : (s.sensors.get a).state = .absent) (low : w < 8) (word : x ≠ .missing) :
    s.findWatched a x = s.putRecord a ((s.sensors.get a).beginAttempt 1 w) := by
  simp [State.findWatched, watch, absent, low, word]

/-- The slot of a record in IDENTITY (R101). -/
theorem State.readAddr_of_identity (state : (s.sensors.get a).state = .starting .identity) :
    State.readAddr slots s a =
      s.readAttempt a ((s.sensors.get a).identitySlot (readSlot (slots.get a))) := by
  have kept := State.findWatched_of_kept (x := readSlot (slots.get a)) (.inl (by rw [state]; nofun))
  simp only [State.readAddr, kept, state]

theorem State.readAddr_of_checking (state : (s.sensors.get a).state = .starting .checking) :
    State.readAddr slots s a =
      s.readAttempt a ((s.sensors.get a).checkingSlot (readSlot (slots.get a)).cls) := by
  have kept := State.findWatched_of_kept (x := readSlot (slots.get a)) (.inl (by rw [state]; nofun))
  simp only [State.readAddr, kept, state]

theorem State.readAddr_of_firstSpeed (state : (s.sensors.get a).state = .starting .firstSpeed) :
    State.readAddr slots s a =
      s.readAttempt a ((s.sensors.get a).firstSpeedSlot (readSlot (slots.get a)).cls) := by
  have kept := State.findWatched_of_kept (x := readSlot (slots.get a)) (.inl (by rw [state]; nofun))
  simp only [State.readAddr, kept, state]

theorem State.readAddr_of_running (state : (s.sensors.get a).state = .running) :
    State.readAddr slots s a =
      s.putRecord a ((s.sensors.get a).runningSlot (readSlot (slots.get a)).cls) := by
  have kept := State.findWatched_of_kept (x := readSlot (slots.get a)) (.inl (by rw [state]; nofun))
  simp only [State.readAddr, kept, state]

theorem State.readAddr_of_fault (state : (s.sensors.get a).state = .fault) :
    State.readAddr slots s a =
      s.putRecord a ((s.sensors.get a).faultSlot (readSlot (slots.get a)).cls) := by
  have kept := State.findWatched_of_kept (x := readSlot (slots.get a)) (.inl (by rw [state]; nofun))
  simp only [State.readAddr, kept, state]

/-- An ABSENT record of which no word is seen stays. -/
theorem State.readAddr_of_absent (state : (s.sensors.get a).state = .absent)
    (missing : readSlot (slots.get a) = .missing) : State.readAddr slots s a = s := by
  have kept := State.findWatched_of_kept (s := s) (a := a) (.inr (.inr missing))
  simp only [State.readAddr, kept, state]

/-- A record that a watched word starts is read in IDENTITY in the same cycle (R100). -/
theorem State.readAddr_of_word {w : Nat} (watch : s.line.runWatch = some w)
    (absent : (s.sensors.get a).state = .absent) (low : w < 8)
    (word : readSlot (slots.get a) ≠ .missing) :
    State.readAddr slots s a =
      (s.putRecord a ((s.sensors.get a).beginAttempt 1 w)).readAttempt a
        (((s.sensors.get a).beginAttempt 1 w).identitySlot (readSlot (slots.get a))) := by
  have found := State.findWatched_of_word watch absent low word
  have record : (s.putRecord a ((s.sensors.get a).beginAttempt 1 w)).sensors.get a =
      (s.sensors.get a).beginAttempt 1 w := by rw [State.putRecord_sensors, PerAddr.get_set_same]
  simp only [State.readAddr, found, record]
  rfl

/-! ### The slot of an attempt -/

/-- A slot in CHECKING that ends the attempt is SENSOR_FAULT, and one that ends CHECKING is the second READY
in a row; any other leaves it in CHECKING (R102). -/
theorem SensorRec.checkingSlot_of_other {r : SensorRec} {x : ReplyClass} (ready : x ≠ .ready)
    (fault : x ≠ .sensorFault) : r.checkingSlot x = some { r with readyRun := 0 } := by
  cases x with
  | ready => exact absurd rfl ready
  | sensorFault => exact absurd rfl fault
  | missing | bad | speed v | busy => rfl

theorem SensorRec.checkingSlot_state {r r' : SensorRec} {x : ReplyClass}
    (state : r.state = .starting .checking) (h : r.checkingSlot x = some r')
    (more : ¬ (x = .ready ∧ 1 ≤ r.readyRun)) :
    r'.state = .starting .checking ∧ r'.attemptCycles = r.attemptCycles := by
  by_cases fault : x = .sensorFault
  · rw [fault] at h; cases h
  by_cases ready : x = .ready
  · subst ready
    rw [SensorRec.checkingSlot, if_neg fun h => more ⟨rfl, h⟩, Option.some.injEq] at h
    rw [← h]
    exact ⟨state, rfl⟩
  · rw [SensorRec.checkingSlot_of_other ready fault, Option.some.injEq] at h
    rw [← h]
    exact ⟨state, rfl⟩

theorem SensorRec.firstSpeedSlot_of_other {r : SensorRec} {x : ReplyClass}
    (h : ∀ v, x ≠ .speed v) : r.firstSpeedSlot x = none := by
  cases x with
  | speed v => exact absurd rfl (h v)
  | ready | sensorFault | busy | bad | missing => rfl

/-- A slot in RUNNING that is no speed and no SENSOR_FAULT is a miss (R105). -/
theorem SensorRec.runningSlot_of_miss {r : SensorRec} {x : ReplyClass} (speed : ∀ v, x ≠ .speed v)
    (fault : x ≠ .sensorFault) : r.runningSlot x =
      if 2 ≤ r.missRun then { r with missRun := 3, state := .fault, goodRun := 0 }
      else { r with missRun := r.missRun + 1 } := by
  cases x with
  | speed v => exact absurd rfl (speed v)
  | sensorFault => exact absurd rfl fault
  | ready | busy | bad | missing => rfl

theorem SensorRec.faultSlot_of_miss {r : SensorRec} {x : ReplyClass} (speed : ∀ v, x ≠ .speed v)
    (fault : x ≠ .sensorFault) : r.faultSlot x = { r with goodRun := 0 } := by
  cases x with
  | speed v => exact absurd rfl (speed v)
  | sensorFault => exact absurd rfl fault
  | ready | busy | bad | missing => rfl

theorem State.readAttempt_some (r : SensorRec) :
    (s.readAttempt a (some r)).sensors.get a = r.countCycle := by
  rw [State.readAttempt, State.putRecord_sensors, PerAddr.get_set_same]

/-- What a failed attempt of a record leaves, with the cycle counted (R103). -/
def AttemptFailed (r : SensorRec) (a : Addr) (e : Entry) (t : State) : Prop :=
  let cycles := min 40 (r.attemptCycles + 1)
  (r.attempts < 3 →
    t.sensors.get a = { r with state := .starting .awaitingCommand, attemptCycles := cycles } ∧
    (.runTo a) ∈ t.line.commands) ∧
  (3 ≤ r.attempts →
    t.sensors.get a = { r with state := .failed, attemptCycles := cycles, history := [],
                               figures := none } ∧
    t.alarms.get (.sensorFailed a) = e.begins)

theorem State.readAttempt_none (starting : (s.sensors.get a).state.isStarting = true) :
    AttemptFailed (s.sensors.get a) a (s.alarms.get (.sensorFailed a)) (s.readAttempt a none) := by
  have kept := AddrKept.expireCheckingBelow_self (a := a) s
  have record : ((s.expireCheckingBelow a).setSensor a (s.sensors.get a).countCycle).sensors.get a =
      (s.sensors.get a).countCycle := PerAddr.get_set_same ..
  have still : (((s.expireCheckingBelow a).setSensor a
      (s.sensors.get a).countCycle).sensors.get a).state.isStarting = true := by
    rw [record]; exact starting
  unfold State.readAttempt
  refine ⟨fun few => ?_, fun last => ?_⟩
  · rw [State.failAttempt_of_lt _ a still (by rw [record]; exact few), record]
    exact ⟨PerAddr.get_set_same .., LineRec.mem_listed _ _⟩
  · rw [State.failAttempt_of_ge _ a (by rw [record]; exact last), State.putRecord_sensors,
      PerAddr.get_set_same, record, State.putRecord_fail_failed _ a still]
    exact ⟨rfl, congrArg Entry.begins kept.failed⟩

theorem SensorRec.not_due_of_attemptFailed {r : SensorRec} {e : Entry} {t : State}
    (h : AttemptFailed r a e t) :
    (t.sensors.get a).checkingDue = false ∧ (t.sensors.get a).Ending := by
  rcases Nat.lt_or_ge r.attempts 3 with few | last
  · rw [(h.1 few).1]
    exact ⟨rfl, .inr (.inl rfl)⟩
  · rw [(h.2 last).1]
    exact ⟨rfl, .inr (.inr rfl)⟩

theorem AttemptFailed.of_kept {r : SensorRec} {e : Entry} {t u : State} (h : AttemptFailed r a e t)
    (kept : AddrKept a t u) (listed : ∀ c ∈ t.line.commands, c ∈ u.line.commands) :
    AttemptFailed r a e u := by
  refine ⟨fun few => ?_, fun last => ?_⟩
  · rw [kept.record]
    exact ⟨(h.1 few).1, listed _ (h.1 few).2⟩
  · rw [kept.record, kept.failed]
    exact h.2 last

/-! ### The record after the cycle -/

/-- A record whose slot leaves it with no attempt due stands so after the cycle, with its entries. -/
theorem State.readSlots_kept (running : s.line.state = .running) (noEcho : s.line.echoWait = none)
    (notDue : (s.sensors.get a).checkingDue = false) {r : SensorRec}
    (read : ∀ t, t.sensors.get a = s.sensors.get a → t.line.runWatch = s.line.runWatch →
      (State.readAddr slots t a).sensors.get a = r) (still : r.checkingDue = false) :
    (s.readSlots .ordinary slots).sensors.get a = r := by
  obtain ⟨t, kept, watch, -, after, -⟩ := State.readSlots_own slots running noEcho notDue
  have own := read t kept.record watch
  rw [(after (by rwa [own])).record, own]

/-- The SENSOR_FAULT entry after the cycle. -/
theorem State.readSlots_fault (running : s.line.state = .running) (noEcho : s.line.echoWait = none)
    (notDue : (s.sensors.get a).checkingDue = false) {r : SensorRec} {f : Entry → Entry}
    (read : ∀ t, t.sensors.get a = s.sensors.get a →
      (State.readAddr slots t a).sensors.get a = r ∧
      (State.readAddr slots t a).alarms.get (.sensorFault a) = f (t.alarms.get (.sensorFault a)))
    (still : r.checkingDue = false) :
    (s.readSlots .ordinary slots).alarms.get (.sensorFault a) = f (s.alarms.get (.sensorFault a)) := by
  obtain ⟨t, kept, -, -, after, -⟩ := State.readSlots_own slots running noEcho notDue
  obtain ⟨own, entry⟩ := read t kept.record
  rw [(after (by rwa [own])).fault, entry, kept.fault]

/-- An attempt that fails stands failed after the cycle. -/
theorem State.readSlots_fails (running : s.line.state = .running) (noEcho : s.line.echoWait = none)
    (notDue : (s.sensors.get a).checkingDue = false) {r : SensorRec}
    (starting : r.state.isStarting = true)
    (read : ∀ t, t.sensors.get a = s.sensors.get a → t.line.runWatch = s.line.runWatch →
      ∃ u : State, State.readAddr slots t a = u.readAttempt a none ∧ u.sensors.get a = r ∧
        (3 ≤ r.attempts → u.alarms.get (.sensorFailed a) = t.alarms.get (.sensorFailed a))) :
    AttemptFailed r a (s.alarms.get (.sensorFailed a)) (s.readSlots .ordinary slots) := by
  obtain ⟨t, kept, watch, listed, after, -⟩ := State.readSlots_own slots running noEcho notDue
  obtain ⟨u, own, record, entry⟩ := read t kept.record watch
  have failed := State.readAttempt_none (s := u) (a := a) (by rw [record]; exact starting)
  rw [record, ← own] at failed
  have left := failed.of_kept (after (SensorRec.not_due_of_attemptFailed failed).1) listed
  refine ⟨left.1, fun last => ?_⟩
  rw [← kept.failed, ← entry last]
  exact left.2 last

/-- An attempt that a slot ends, or brings to its end, is ended or due to end after the cycle. -/
theorem State.readSlots_ending (running : s.line.state = .running)
    (noEcho : s.line.echoWait = none) (notDue : (s.sensors.get a).checkingDue = false)
    (read : ∀ t, t.sensors.get a = s.sensors.get a →
      ((State.readAddr slots t a).sensors.get a).Ending) :
    ((s.readSlots .ordinary slots).sensors.get a).Ending := by
  obtain ⟨t, kept, -, -, -, ending⟩ := State.readSlots_own slots running noEcho notDue
  exact ending (read t kept.record)

theorem SensorRec.not_due_of_state {r : SensorRec} (h : r.state ≠ .starting .checking) :
    r.checkingDue = false := by simp [SensorRec.checkingDue, h]

theorem SensorRec.not_due_of_cycles {r : SensorRec} (h : r.attemptCycles < 40) :
    r.checkingDue = false := by simp [SensorRec.checkingDue, Nat.not_le.mpr h]

end

theorem State.answerEnrol_of_some {s : State} {tag : Nat} (h : s.enrolTag = some tag) (code : Code) :
    s.answerEnrol code =
      { s with enrolTag := none }.send .supervisor [.answerSL tag 0x18 code .empty] := by
  rw [State.answerEnrol, h]

theorem State.answerEnrol_of_none {s : State} (h : s.enrolTag = none) (code : Code) :
    s.answerEnrol code = { s with enrolTag := none } := by
  rw [State.answerEnrol, h]
  exact congrArg (fun e => { s with enrolTag := e }) h

/-- The echo makes the enrolled record ASSIGNED and answers ENROL_NEXT (R98). -/
theorem State.readEcho_of_echo {s : State} {slots : PerAddr Slot} {a : Addr} {k : Timer}
    (wait : s.line.echoWait = some (a, k)) (echo : readSlot (slots.get a) = .value a.number)
    (absent : (s.sensors.get a).state = .absent) :
    s.readEcho slots = ((s.setLine { s.line with echoWait := none }).setSensor a
      { s.sensors.get a with state := .assigned }).answerEnrol .ok := by
  rw [← State.putRecord_quiet (s.setLine { s.line with echoWait := none }) a
    { s.sensors.get a with state := .assigned } (by simp [absent]) (by simp [absent]) nofun]
  simp only [State.readEcho, wait, if_pos echo]

theorem State.readSlots_of_enrolling {s : State} (slots : PerAddr Slot)
    (enrolling : s.line.state = .enrolling) : s.readSlots .ordinary slots = s.readEcho slots := by
  simp only [State.readSlots, enrolling]

/-- Settles O53: the echo wait of an enrolling line, and each record of a running one by its state. -/
theorem runningSensorsFollowTheirReplies : Obligations.RunningSensorsFollowTheirReplies := by
  unfold Obligations.RunningSensorsFollowTheirReplies
  refine ⟨fun s slots a k enrolling wait => ⟨fun echo absent => ?_, fun other => ?_⟩,
    fun s slots a running noEcho => ⟨fun w watch => ⟨?_, fun absent low => ?_⟩, fun state => ?_,
      fun state cycles => ?_, fun state => ?_, fun state => ?_, fun state => ?_⟩⟩
  · rw [State.readSlots_of_enrolling slots enrolling, State.readEcho_of_echo wait echo absent]
    refine ⟨fun tag held => State.answerEnrol_of_some ?_ .ok,
      fun free => State.answerEnrol_of_none ?_ .ok⟩
    · exact held
    · exact free
  · simp only [State.readSlots, enrolling, State.readEcho, wait, if_neg other]
  · rw [State.readSlots_runWatch slots running noEcho, watch]
    rfl
  · have notDue := SensorRec.not_due_of_state (r := s.sensors.get a) (by rw [absent]; nofun)
    have count : min 40 (w + 1) = w + 1 := by omega
    have begun (t : State) (record : t.sensors.get a = s.sensors.get a)
        (same : t.line.runWatch = s.line.runWatch) (word : readSlot (slots.get a) ≠ .missing) :=
      State.readAddr_of_word (slots := slots) (same.trans watch) (by rw [record]; exact absent) low word
    refine ⟨fun missing => ?_, fun v value => ?_, fun bad => ?_⟩
    · exact State.readSlots_kept running noEcho notDue (fun t record _ => by
        rw [State.readAddr_of_absent (by rw [record]; exact absent) missing, record]) notDue
    · refine State.readSlots_kept running noEcho notDue (fun t record same => ?_)
        (SensorRec.not_due_of_cycles (by dsimp only; omega))
      rw [begun t record same (by rw [value]; nofun), record, value]
      refine (State.readAttempt_some _).trans ?_
      simp only [SensorRec.beginAttempt, SensorRec.countCycle, List.nil_append, count]
    · have failed := State.readSlots_fails (slots := slots) running noEcho notDue
        (r := (s.sensors.get a).beginAttempt 1 w) rfl fun t record same =>
          ⟨t.putRecord a ((s.sensors.get a).beginAttempt 1 w),
            by rw [begun t record same (by rw [bad]; nofun), record, bad]; rfl,
            by rw [State.putRecord_sensors, PerAddr.get_set_same], fun third => absurd third (by simp [SensorRec.beginAttempt])⟩
      obtain ⟨record, listed⟩ := failed.1 (by simp [SensorRec.beginAttempt])
      refine ⟨record.trans ?_, listed⟩
      simp only [SensorRec.beginAttempt, count]
  · have notDue := SensorRec.not_due_of_state (r := s.sensors.get a) (by rw [state]; nofun)
    have reads (t : State) (record : t.sensors.get a = s.sensors.get a) :
        State.readAddr slots t a =
          t.readAttempt a ((s.sensors.get a).identitySlot (readSlot (slots.get a))) := by
      rw [State.readAddr_of_identity (by rw [record]; exact state), record]
    refine ⟨fun v value => ⟨fun few => ?_, fun eight cycles => ?_⟩, fun missing none => ?_, fun fails => ?_⟩
    · refine State.readSlots_kept running noEcho notDue (fun t record _ => ?_) ?_
      · rw [reads t record, value]
        have short : ((s.sensors.get a).identity ++ [BitVec.ofNat 10 v]).length ≠ 8 := by
          rw [List.length_append, List.length_singleton]; omega
        rw [SensorRec.identitySlot, if_neg short]
        exact State.readAttempt_some _
      · exact SensorRec.not_due_of_state (by rw [state]; nofun)
    · refine State.readSlots_kept running noEcho notDue (fun t record _ => ?_) ?_
      · rw [reads t record, value]
        have whole : ((s.sensors.get a).identity ++ [BitVec.ofNat 10 v]).length = 8 := by
          rw [List.length_append, List.length_singleton, eight]
        rw [SensorRec.identitySlot, if_pos whole]
        exact State.readAttempt_some _
      · exact SensorRec.not_due_of_cycles (by dsimp only; omega)
    · refine State.readSlots_kept running noEcho notDue (fun t record _ => ?_) ?_
      · rw [reads t record, missing, SensorRec.identitySlot, if_pos (by simp [none])]
        exact State.readAttempt_some _
      · exact SensorRec.not_due_of_state (by rw [state]; nofun)
    · refine State.readSlots_fails running noEcho notDue (by rw [state]; rfl) fun t record _ =>
        ⟨t, ?_, record, fun _ => rfl⟩
      rw [reads t record]
      rcases fails with ⟨missing, some⟩ | bad
      · rw [missing, SensorRec.identitySlot, if_neg (by simp [some])]
      · rw [bad]; rfl
  · have notDue := SensorRec.not_due_of_cycles (r := s.sensors.get a) (by omega)
    have reads (t : State) (record : t.sensors.get a = s.sensors.get a) :
        State.readAddr slots t a =
          t.readAttempt a ((s.sensors.get a).checkingSlot (readSlot (slots.get a)).cls) := by
      rw [State.readAddr_of_checking (by rw [record]; exact state), record]
    refine ⟨fun ready second => ?_, fun fault => ?_, fun more => ⟨fun ready first => ?_,
      fun ready fault => ?_⟩, fun last still => ?_⟩
    · refine State.readSlots_kept running noEcho notDue (fun t record _ => ?_) ?_
      · rw [reads t record, ready, SensorRec.checkingSlot, if_pos second]
        exact State.readAttempt_some _
      · exact SensorRec.not_due_of_state nofun
    · exact State.readSlots_fails running noEcho notDue (by rw [state]; rfl) fun t record _ =>
        ⟨t, by rw [reads t record, fault]; rfl, record, fun _ => rfl⟩
    · refine State.readSlots_kept running noEcho notDue (fun t record _ => ?_)
        (SensorRec.not_due_of_cycles (by dsimp only; omega))
      rw [reads t record, ready, SensorRec.checkingSlot, if_neg (by omega), first]
      exact State.readAttempt_some _
    · refine State.readSlots_kept running noEcho notDue (fun t record _ => ?_)
        (SensorRec.not_due_of_cycles (by dsimp only; omega))
      rw [reads t record, SensorRec.checkingSlot_of_other ready fault]
      exact State.readAttempt_some _
    · refine State.readSlots_ending running noEcho notDue fun t record => ?_
      rw [reads t record]
      cases slot : (s.sensors.get a).checkingSlot (readSlot (slots.get a)).cls with
      | some r =>
        obtain ⟨checking, cycles⟩ := SensorRec.checkingSlot_state state slot still
        rw [State.readAttempt_some]
        refine .inl ?_
        simp [SensorRec.checkingDue, SensorRec.countCycle, checking, cycles, last]
      | none =>
        exact (SensorRec.not_due_of_attemptFailed
          (State.readAttempt_none (by rw [record, state]; rfl))).2
  · have notDue := SensorRec.not_due_of_state (r := s.sensors.get a) (by rw [state]; nofun)
    have reads (t : State) (record : t.sensors.get a = s.sensors.get a) :
        State.readAddr slots t a =
          t.readAttempt a ((s.sensors.get a).firstSpeedSlot (readSlot (slots.get a)).cls) := by
      rw [State.readAddr_of_firstSpeed (by rw [record]; exact state), record]
    refine ⟨fun v speed => ?_, fun other => ?_⟩
    · refine State.readSlots_kept running noEcho notDue (fun t record _ => ?_) ?_
      · rw [reads t record, speed]
        exact State.readAttempt_some _
      · exact SensorRec.not_due_of_state nofun
    · exact State.readSlots_fails running noEcho notDue (by rw [state]; rfl) fun t record _ =>
        ⟨t, by rw [reads t record, SensorRec.firstSpeedSlot_of_other other], record, fun _ => rfl⟩
  · have notDue := SensorRec.not_due_of_state (r := s.sensors.get a) (by rw [state]; nofun)
    have reads (t : State) (record : t.sensors.get a = s.sensors.get a) :
        State.readAddr slots t a =
          t.putRecord a ((s.sensors.get a).runningSlot (readSlot (slots.get a)).cls) := by
      rw [State.readAddr_of_running (by rw [record]; exact state), record]
    have left {r : SensorRec} (slot : (s.sensors.get a).runningSlot (readSlot (slots.get a)).cls = r)
        (other : r.state ≠ .starting .checking) : (s.readSlots .ordinary slots).sensors.get a = r :=
      State.readSlots_kept running noEcho notDue (fun t record _ => by
        rw [reads t record, slot, State.putRecord_sensors, PerAddr.get_set_same])
        (SensorRec.not_due_of_state other)
    refine ⟨fun v speed => ?_, fun fault => ?_, fun speed fault => ⟨fun few => ?_, fun third => ⟨?_, ?_⟩⟩⟩
    · exact left (by rw [speed]; rfl) (by rw [state]; nofun)
    · rw [left (r := (s.sensors.get a).declareFailed) (by rw [fault]; rfl) nofun]
      exact ⟨rfl, rfl, rfl⟩
    · exact left (by rw [SensorRec.runningSlot_of_miss speed fault, if_neg (by omega)])
        (by rw [state]; nofun)
    · exact left (by rw [SensorRec.runningSlot_of_miss speed fault, if_pos third]) nofun
    · refine State.readSlots_fault (f := Entry.begins) running noEcho notDue
        (fun t record => ⟨?_, ?_⟩) (SensorRec.not_due_of_state (r := { s.sensors.get a with
          missRun := 3, state := .fault, goodRun := 0 }) nofun)
      · rw [reads t record, SensorRec.runningSlot_of_miss speed fault, if_pos third,
          State.putRecord_sensors, PerAddr.get_set_same]
      · rw [reads t record, SensorRec.runningSlot_of_miss speed fault, if_pos third,
          State.putRecord_fault, record, state]
        rfl
  · have notDue := SensorRec.not_due_of_state (r := s.sensors.get a) (by rw [state]; nofun)
    have reads (t : State) (record : t.sensors.get a = s.sensors.get a) :
        State.readAddr slots t a =
          t.putRecord a ((s.sensors.get a).faultSlot (readSlot (slots.get a)).cls) := by
      rw [State.readAddr_of_fault (by rw [record]; exact state), record]
    have left {r : SensorRec} (slot : (s.sensors.get a).faultSlot (readSlot (slots.get a)).cls = r)
        (other : r.state ≠ .starting .checking) : (s.readSlots .ordinary slots).sensors.get a = r :=
      State.readSlots_kept running noEcho notDue (fun t record _ => by
        rw [reads t record, slot, State.putRecord_sensors, PerAddr.get_set_same])
        (SensorRec.not_due_of_state other)
    refine ⟨fun v speed => ⟨fun few => ?_, fun eighth => ⟨?_, ?_⟩⟩, fun fault => ?_, fun speed fault => ?_⟩
    · exact left (by rw [speed, SensorRec.faultSlot, if_neg (by omega)]; rfl) (by rw [state]; nofun)
    · exact left (by rw [speed, SensorRec.faultSlot, if_pos eighth]; rfl) nofun
    · refine State.readSlots_fault (f := Entry.ends .temporary) running noEcho notDue
        (fun t record => ⟨?_, ?_⟩) (SensorRec.not_due_of_state (r := { (s.sensors.get a).addSample v with
          state := .running, missRun := 0, goodRun := 0 }) nofun)
      · rw [reads t record, speed, SensorRec.faultSlot, if_pos eighth,
          State.putRecord_sensors, PerAddr.get_set_same]
      · rw [reads t record, speed, SensorRec.faultSlot, if_pos eighth, State.putRecord_fault,
          record, state]
        rfl
    · rw [left (r := (s.sensors.get a).declareFailed) (by rw [fault]; rfl) nofun]
      exact ⟨rfl, rfl, rfl⟩
    · exact left (SensorRec.faultSlot_of_miss speed fault) (by rw [state]; nofun)

end Sys2Proof.Machine
end

section
/-! What serving reads, and what is raised on a crane's link by the work that follows a change of holder. -/

namespace Sys2Proof.Machine

open Sys2Proof.Safety

/-! ### States that serve alike (R46, R52) -/

/-- Two states serve alike: their zones, their bookings and their plans are the same, and the same stations
close their zones. -/
structure Alike (s t : State) : Prop where
  zones : t.zones = s.zones
  bookings : t.bookings = s.bookings
  plan : t.plan = s.plan
  closes : ClosesKept s t

section
variable {s t u : State}

theorem Alike.refl (s : State) : Alike s s := ⟨rfl, rfl, rfl, .refl s⟩

theorem Alike.trans (h : Alike s t) (k : Alike t u) : Alike s u :=
  ⟨k.zones.trans h.zones, k.bookings.trans h.bookings, k.plan.trans h.plan, h.closes.trans k.closes⟩

theorem Alike.symm (h : Alike s t) : Alike t s :=
  ⟨h.zones.symm, h.bookings.symm, h.plan.symm, fun m => (h.closes m).symm⟩

theorem Alike.closedTo (h : Alike s t) (z : Zone) (n : Station) : t.closedTo z n = s.closedTo z n :=
  State.closedTo_of_kept (by rw [h.plan]) h.closes (by rw [h.zones]) n

theorem Alike.of_holderWork (h : holderWork s t) (closes : ClosesKept s t) : Alike s t :=
  ⟨zones_of_holderWork h, bookings_of_holderWork h, by rw [h.1], closes⟩

theorem Alike.holderChanged (s : State) (z : Zone) : Alike s (s.holderChanged z) :=
  .of_holderWork (holderWork_holderChanged s z) (.holderChanged s z)

theorem Alike.granted (s : State) (z : Zone) (n : Station) (kind : GrantKind) :
    Alike s (s.granted z n kind) := .of_holderWork (holderWork_granted s z n kind) (.granted s z n kind)

theorem Alike.notify (s : State) (n : Station) (x : Notice) : Alike s (s.notify n x) :=
  .of_holderWork (holderWork_notify s n x) (.of_vane (s.notify_vane n x))

theorem State.modZone_of_zones (z : Zone) (f : ZoneDyn → ZoneDyn) (h : t.zones = s.zones) :
    (t.modZone z f).zones = (s.modZone z f).zones := by
  unfold State.modZone
  rw [h]
  split
  · rw [State.setZone_zones, State.setZone_zones, h]
  · exact h

theorem Alike.modZone (h : Alike s t) (z : Zone) (f : ZoneDyn → ZoneDyn) :
    Alike (s.modZone z f) (t.modZone z f) where
  zones := State.modZone_of_zones z f h.zones
  bookings := by rw [State.modZone_bookings, State.modZone_bookings, h.bookings]
  plan := by rw [State.modZone_plan, State.modZone_plan, h.plan]
  closes := fun m => by rw [State.modZone_vane, State.modZone_vane]; exact h.closes m

theorem Alike.bookingPassed (h : Alike s t) (num : Nat) (z : Zone) :
    Alike (s.bookingPassed num z) (t.bookingPassed num z) where
  zones := by rw [State.bookingPassed_zones, State.bookingPassed_zones, h.zones]
  bookings := by
    have found := State.booking?_of_bookings h.bookings num
    unfold State.bookingPassed
    rw [found]
    split
    · exact congrArg (fun bs : List Booking => bs.map _) h.bookings
    · exact h.bookings
  plan := by
    rw [plan_of_zoneWork (zoneWork_bookingPassed t num z), h.plan,
      plan_of_zoneWork (zoneWork_bookingPassed s num z)]
  closes := fun m => by rw [State.bookingPassed_vane, State.bookingPassed_vane]; exact h.closes m

theorem Alike.grantOrdinary (h : Alike s t) (z : Zone) (n : Station) :
    Alike (s.grantOrdinary z n) (t.grantOrdinary z n) := by
  have station : t.station n = s.station n := by rw [State.station, h.plan]; rfl
  unfold State.grantOrdinary
  rw [station]
  exact ((Alike.granted _ z n .ordinary).symm.trans (h.modZone z _)).trans (.granted _ z n .ordinary)

theorem Alike.grantBooked (h : Alike s t) (z : Zone) (n : Station) :
    Alike (s.grantBooked z n) (t.grantBooked z n) :=
  ((Alike.granted _ z n .booked).symm.trans (h.modZone z _)).trans (.granted _ z n .booked)

/-- States that serve alike are alike after serving. -/
theorem Alike.serve (h : Alike s t) (z : Zone) : Alike (s.serve z) (t.serve z) := by
  unfold State.serve
  rw [h.zones]
  cases s.zones.get z with
  | none => exact h
  | some d =>
    dsimp only
    split
    · exact h
    case h_2 num _ _ =>
      rw [State.booking?_of_bookings h.bookings]
      split
      case h_1 b _ =>
        rw [h.closedTo]
        split
        · exact (h.grantBooked z b.station).bookingPassed num z
        · exact h
      case h_2 => exact h
    case h_3 n _ _ _ _ =>
      rw [h.closedTo]
      split
      · exact h
      · exact h.grantOrdinary z n
    case h_4 => exact h

theorem Alike.foldl_serve (h : Alike s t) (zs : List Zone) :
    Alike (zs.foldl State.serve s) (zs.foldl State.serve t) := by
  induction zs generalizing s t with
  | nil => exact h
  | cons z zs ih => exact ih (h.serve z)

theorem Alike.serveMemberZones (h : Alike s t) (n : Station) :
    Alike (s.serveMemberZones n) (t.serveMemberZones n) := by
  have same : t.memberZones n = s.memberZones n := State.memberZones_of_live (by rw [h.plan]) n
  unfold State.serveMemberZones
  rw [same]
  exact h.foldl_serve _

theorem Alike.serveAt (h : Alike s t) (z : Zone) (n : Station) :
    Alike (s.serveAt z n) (t.serveAt z n) := (h.serve z).serveMemberZones n

end

/-! ### Links on which nothing is raised -/

/-- Nothing is raised on a link. -/
structure SilentOn (l : Link) (s t : State) : Prop where
  handling : t.handling = s.handling
  held : s.handling = some l → t.held = s.held
  sent : t.tx.get l = s.tx.get l

section
variable {l : Link}

theorem SilentOn.refl (s : State) : SilentOn l s s := ⟨rfl, fun _ => rfl, rfl⟩

theorem SilentOn.trans {s t u : State} (h : SilentOn l s t) (k : SilentOn l t u) : SilentOn l s u :=
  ⟨k.handling.trans h.handling, fun own => (k.held (h.handling.trans own)).trans (h.held own),
    k.sent.trans h.sent⟩

theorem SilentOn.of_eq {s t : State} (handling : t.handling = s.handling := by rfl)
    (held : t.held = s.held := by rfl) (tx : t.tx = s.tx := by rfl) : SilentOn l s t :=
  ⟨handling, fun _ => held, by rw [tx]⟩

theorem SilentOn.raise {k : Link} (ne : k ≠ l) (s : State) (f : Frame) :
    SilentOn l s (s.raise k f) := by
  rcases s.raise_cases k f with ⟨own, e⟩ | ⟨other, e⟩ <;> rw [e]
  · refine ⟨rfl, fun here => ?_, rfl⟩
    exact absurd (Option.some.inj (own.symm.trans here)) ne
  · exact ⟨rfl, fun _ => rfl, PerLink.get_set_ne ne.symm⟩

theorem SilentOn.foldl {β : Type} {f : State → β → State} (h : ∀ s b, SilentOn l s (f s b))
    (s : State) (bs : List β) : SilentOn l s (bs.foldl f s) :=
  foldl_related .refl .trans h s bs

theorem SilentOn.recompute (s : State) (m : Station) : SilentOn l s (s.recompute m) := by
  obtain ⟨c, e, -⟩ := s.recompute_cases m
  rw [e]
  exact .of_eq

theorem SilentOn.reevalPermit (s : State) (m : Station) : SilentOn l s (s.reevalPermit m) := by
  rcases s.reevalPermit_cases m with ⟨-, e⟩ | ⟨-, e⟩ <;> rw [e]
  · exact .refl s
  · exact (SilentOn.of_eq (t := s.setCtx m _)).trans (.recompute _ m)

section
variable (crane : l ≠ .supervisor)
include crane

theorem SilentOn.alarmIs (s : State) (i : AlarmId) (b : Bool) : SilentOn l s (s.alarmIs i b) := by
  unfold State.alarmIs
  split
  · unfold State.alarmBegins
    extract_lets e t
    have entered : SilentOn l s t := .of_eq
    split
    · exact entered.trans (.raise crane.symm t _)
    · exact entered
  · exact .of_eq

theorem SilentOn.holderTold (s : State) (z : Zone) : SilentOn l s (s.holderTold z) := by
  refine .foldl (fun s m => ?_) s _
  have overdue (t : State) : SilentOn l t (t.setOverdue m false) := by
    unfold State.setOverdue
    extract_lets c
    split
    · exact .refl t
    · exact (SilentOn.of_eq (t := t.setVane m _)).trans (.alarmIs crane _ _ _)
  have clear : SilentOn l s (s.judgeClear m) := by
    unfold State.judgeClear
    extract_lets c
    split
    · exact (SilentOn.of_eq (t := s.setVane m _)).trans (overdue _)
    · exact .refl s
  refine clear.trans ?_
  unfold State.judgeSwingLine
  extract_lets c
  split
  · exact .of_eq
  · exact .refl _

theorem SilentOn.reevalConflict (s : State) (m : Station) : SilentOn l s (s.reevalConflict m) := by
  unfold State.reevalConflict
  extract_lets c now
  split
  · exact .refl s
  · exact ((SilentOn.of_eq (t := s.setArb m _)).trans (.alarmIs crane _ _ _)).trans
      (.reevalPermit _ m)

theorem SilentOn.holderChanged (s : State) (z : Zone) : SilentOn l s (s.holderChanged z) :=
  (SilentOn.holderTold crane s z).trans (.foldl (.reevalConflict crane) _ _)

omit crane in
theorem SilentOn.recoveryTest (s : State) (m : Station) : SilentOn l s (s.recoveryTest m) := by
  unfold State.recoveryTest
  extract_lets c
  split
  · exact SilentOn.trans (t := (s.setArb m _).alarmEnds _) .of_eq (.reevalPermit _ m)
  · exact .refl s

end

end

end Sys2Proof.Machine
end

section
/-! HOLD (R48, R49). -/

namespace Sys2Proof.Machine

open Sys2Proof.Safety

/-! ### Answers as work on the zones -/

theorem zoneWork_taken (s : State) (l : Link) : zoneWork s (s.taken l) :=
  ⟨rfl, fun _ => ⟨rfl, rfl⟩⟩

theorem holderWork_replies (u : State) (l : Link) (f : Frame) : holderWork u (u.replies l f) :=
  ⟨rfl, fun _ => ⟨rfl, rfl⟩⟩

theorem zoneWork_replies {s u : State} {l : Link} (h : zoneWork (s.taken l) u) (f : Frame) :
    zoneWork s (u.replies l f) :=
  zoneWork_trans (zoneWork_taken s l)
    (zoneWork_trans h (zoneWork_of_holderWork (holderWork_replies u l f)))

section
variable {s : State} {n : Station} {zone : Nat} {z : Zone} {d : ZoneDyn}

theorem State.zone?_eq (number : Zone.ofNumber? zone = some z) (record : s.zones.get z = some d) :
    s.zone? zone = some (z, d) := by simp [State.zone?, number, record]

theorem State.holds_of_record (record : s.zones.get z = some d) (n : Station) :
    s.holds n z = true ↔ ∃ h, d.hold = some h ∧ h.station = n := by
  simp [State.holds_iff, record]

theorem State.not_holds_of_record (record : s.zones.get z = some d)
    (h : ∀ h, d.hold = some h → h.station ≠ n) : s.holds n z = false := by
  rw [← Bool.not_eq_true, State.holds_of_record record]
  exact fun ⟨k, hold, own⟩ => h k hold own

/-! ### The cases of HOLD in their order (R48) -/

theorem State.holdZone_noZone (h : s.zone? zone = none) :
    s.holdZone n zone = (s, .noZone, .empty) := by simp only [State.holdZone, h]

section
variable (named : s.zone? zone = some (z, d))
include named

theorem State.holdZone_notMember (member : s.isMember z n = false) :
    s.holdZone n zone = (s, .notMember, .zone z) := by
  simp only [State.holdZone, named, member, if_true]

variable (member : s.isMember z n = true)
include member

theorem State.holdZone_wind (stage : (s.wind.get n).stage = .shutdown) :
    s.holdZone n zone = (s, .wind, .empty) := by
  simp only [State.holdZone, named, member, Bool.true_eq_false, if_false, stage, if_true]

variable (stage : (s.wind.get n).stage ≠ .shutdown)
include stage

theorem State.holdZone_latched
    (latched : (s.arb.get n).intrusion = true ∨ (s.vane.get n).unsafeLatched = true) :
    s.holdZone n zone = (s, .latched, .empty) := by
  simp only [State.holdZone, named, member, Bool.true_eq_false, if_false, stage, if_pos latched]

variable (free : ¬ ((s.arb.get n).intrusion = true ∨ (s.vane.get n).unsafeLatched = true))
include free

theorem State.holdZone_held (holds : s.holds n z = true) :
    s.holdZone n zone = (s, .held, .holdState (d.hold.any (·.seen))) := by
  simp only [State.holdZone, named, member, Bool.true_eq_false, if_false, stage, if_neg free, holds,
    if_true]

variable (apart : s.holds n z = false)
include apart

theorem State.holdZone_queued {i : Nat} (place : d.waiting.idxOf? n = some i) :
    s.holdZone n zone = (s, .queued, .place (i + 1)) := by
  simp only [State.holdZone, named, member, Bool.true_eq_false, if_false, stage, if_neg free, apart,
    Bool.false_eq_true, place]

variable (new : n ∉ d.waiting)
include new

theorem State.holdZone_swept (closed : s.closedTo z n = true) :
    s.holdZone n zone = (s, .swept, .empty) := by
  have place : d.waiting.idxOf? n = none := List.idxOf?_eq_none_iff.mpr new
  simp only [State.holdZone, named, member, Bool.true_eq_false, if_false, stage, if_neg free, apart,
    Bool.false_eq_true, place, closed, if_true]

variable (opened : s.closedTo z n = false)
include opened

theorem State.holdZone_reserved {b : Booking} (reserving : s.reserving z = some b)
    (other : b.station ≠ n) :
    s.holdZone n zone = (s, .reserved, .reservedUntil b.number b.liftsAt) := by
  have place : d.waiting.idxOf? n = none := List.idxOf?_eq_none_iff.mpr new
  simp only [State.holdZone, named, member, Bool.true_eq_false, if_false, stage, if_neg free, apart,
    Bool.false_eq_true, place, opened, reserving, if_pos other]

theorem State.holdZone_open (unreserved : s.reservedAgainst z n = false) :
    s.holdZone n zone = s.holdOpen z d n := by
  have place : d.waiting.idxOf? n = none := List.idxOf?_eq_none_iff.mpr new
  cases reserving : s.reserving z with
  | none =>
    simp only [State.holdZone, named, member, Bool.true_eq_false, if_false, stage, if_neg free, apart,
      Bool.false_eq_true, place, opened, reserving]
  | some b =>
    have own : ¬ b.station ≠ n := by simpa [State.reservedAgainst, reserving] using unreserved
    simp only [State.holdZone, named, member, Bool.true_eq_false, if_false, stage, if_neg free, apart,
      Bool.false_eq_true, place, opened, reserving, if_neg own]

end

/-! ### A grant to the station that asks (R49) -/

/-- After an ordinary grant within a request of the station, the GRANT notice alone is held back. -/
theorem State.grantOrdinary_held {s : State} (online : (s.ctx.get n).link ≠ .offline)
    (own : s.handling = some (.crane n)) (none : s.held = []) :
    (s.grantOrdinary z n).held = [.notice (.grant z .ordinary)] ∧
      (s.grantOrdinary z n).tx.get (.crane n) = s.tx.get (.crane n) := by
  set u := s.modZone z fun d => d.give ⟨n, .ordinary, false⟩ (.running (s.station n).entryTimeout)
    with given
  have frame : u = { s with zones := u.zones } := s.modZone_frame z _
  have told : u.notify n (.grant z .ordinary) =
      { u with held := u.held ++ [.notice (.grant z .ordinary)] } := by
    have here : (u.ctx.get n).link ≠ .offline := by rw [frame]; exact online
    have handling : u.handling = some (.crane n) := by rw [frame]; exact own
    rw [State.notify, if_neg here, State.raise, if_pos handling]
  have after : SilentOn (.crane n) (u.notify n (.grant z .ordinary)) (s.grantOrdinary z n) :=
    (SilentOn.holderChanged (l := .crane n) nofun _ z).trans (.recoveryTest _ n)
  rw [told] at after
  refine ⟨(after.held (by rw [frame]; exact own)).trans ?_, after.sent.trans ?_⟩
  · rw [frame]
    exact congrArg (· ++ [Frame.notice (.grant z .ordinary)]) none
  · rw [frame]

theorem State.grantOrdinary_zones {s : State} {z : Zone} {d : ZoneDyn} (record : s.zones.get z = some d)
    (n : Station) : (s.grantOrdinary z n).zones = s.zones.set z
      (some (d.give ⟨n, .ordinary, false⟩ (.running (s.station n).entryTimeout))) := by
  rw [State.grantOrdinary, State.granted_zones, State.modZone_of_record record, State.setZone_zones]

end

/-- Settles O36: the ordinary grant, with its notice behind the answer. -/
theorem holdGrantsAFreeZone : Obligations.HoldGrantsAFreeZone := by
  unfold Obligations.HoldGrantsAFreeZone
  intro s n zone z d online number record member stage intrusion latch hold new opened unreserved
  set s' := s.taken (.crane n) with taken
  have record' : s'.zones.get z = some d := record
  have free : ¬ ((s.arb.get n).intrusion = true ∨ (s.vane.get n).unsafeLatched = true) := by
    simp [intrusion, latch]
  have apart : s'.holds n z = false := State.not_holds_of_record record' (by simp [hold])
  have work : s'.holdZone n zone = (s'.grantOrdinary z n, .granted, .empty) := by
    rw [State.holdZone_open (State.zone?_eq number record') member stage free apart new opened
      unreserved, State.holdOpen, hold]
    rfl
  have given := State.grantOrdinary_zones record' n
  obtain ⟨held, sent⟩ := State.grantOrdinary_held (s := s') (z := z) (n := n)
    (by rw [show (s'.ctx.get n).link = .online from online]; nofun) rfl rfl
  refine ⟨_, congrArg Host.Outcome.next (onlineRequest_of_work online work), ?_, ?_, ?_, ?_⟩
  · refine given.trans ?_
    rw [ZoneDyn.give, List.erase_of_not_mem new]
    rfl
  · rw [State.replies_tx, held, sent, PerLink.get_set_same]
    rfl
  · exact answered_of_talks ((Work.refl (x := ∅) s').grantOrdinary record' hold opened).talks _
  · have granted : holderWork { s with zones := (s'.grantOrdinary z n).zones } (s'.grantOrdinary z n) := by
      have first : holderWork { s with zones := (s'.grantOrdinary z n).zones }
          (s'.modZone z fun d => d.give ⟨n, .ordinary, false⟩ (.running (s'.station n).entryTimeout)) := by
        rw [State.grantOrdinary, State.granted_zones, State.modZone_of_record record']
        exact ⟨rfl, fun _ => ⟨rfl, rfl⟩⟩
      exact holderWork_trans first (holderWork_granted _ z n .ordinary)
    exact holderWork_trans granted (holderWork_replies _ _ _)

/-- Settles O37: the other cases of HOLD in their order. -/
theorem holdQueuesOrRefuses : Obligations.HoldQueuesOrRefuses := by
  unfold Obligations.HoldQueuesOrRefuses
  intro s n zone
  refine ⟨fun off => congrArg Host.Outcome.next (onlineRequest_of_not_online off),
    fun online => ⟨fun none => ?_, fun z d number record => ?_⟩⟩
  · exact congrArg Host.Outcome.next (onlineRequest_of_unchanged online
      (State.holdZone_noZone (s := s.taken (.crane n)) none))
  have unchanged {code : Code} {data : Data}
      (h : (s.taken (.crane n)).holdZone n zone = (s.taken (.crane n), code, data)) :
      exec (.hold n zone) s = .next (replied (.crane n) (.answer 0x03 code data) s) :=
    congrArg Host.Outcome.next (onlineRequest_of_unchanged online h)
  have named : (s.taken (.crane n)).zone? zone = some (z, d) := State.zone?_eq number record
  refine ⟨fun member => unchanged (State.holdZone_notMember named member), fun member =>
    ⟨fun stage => unchanged (State.holdZone_wind named member stage), fun stage =>
      ⟨fun latched => unchanged (State.holdZone_latched named member stage latched),
        fun intrusion latch => ?_⟩⟩⟩
  have free : ¬ ((s.arb.get n).intrusion = true ∨ (s.vane.get n).unsafeLatched = true) := by
    simp [intrusion, latch]
  refine ⟨fun h hold own => ?_, fun others => ?_⟩
  · have holds := (State.holds_of_record (s := s.taken (.crane n)) record n).mpr ⟨h, hold, own⟩
    have held := State.holdZone_held named member stage free holds
    rw [hold] at held
    exact unchanged held
  have apart := State.not_holds_of_record (s := s.taken (.crane n)) record others
  refine ⟨fun i place => unchanged (State.holdZone_queued named member stage free apart place),
    fun new => ⟨fun closed => unchanged (State.holdZone_swept named member stage free apart new closed),
      fun opened => ⟨fun b reserving other => unchanged
        (State.holdZone_reserved named member stage free apart new opened reserving other),
        fun unreserved held => ?_⟩⟩⟩
  have work : (s.taken (.crane n)).holdZone n zone =
      ((s.setZone z (some { d with waiting := d.waiting ++ [n] })).taken (.crane n), .queued,
        .place (d.waiting.length + 1)) := by
    have some : d.hold.isNone = false := Option.isNone_eq_false_iff.mpr (Option.isSome_iff_ne_none.mpr held)
    rw [State.holdZone_open named member stage free apart new opened unreserved, State.holdOpen, some]
    simp only [Bool.false_eq_true, if_false]
    rw [State.modZone_of_record (s := s.taken (.crane n)) record]
    rfl
  have on : ((s.taken (.crane n)).ctx.get n).link = .online := online
  exact congrArg Host.Outcome.next (State.craneRequest_answers s n 0x03 _ ((if_pos on).trans work))

end Sys2Proof.Machine
end

section
/-! RELEASE, WITHDRAW, FORCE_RELEASE and the two zone timers (R50 to R53, R55, R57, R66). -/

namespace Sys2Proof.Machine

open Sys2Proof.Safety

section
variable {s : State} {n : Station} {zone : Nat} {z : Zone} {d : ZoneDyn}

theorem State.zoneBookedBy_iff : s.zoneBookedBy n z = true ↔ namedInWindow s n z := by
  simp [State.zoneBookedBy, and_assoc]

theorem State.zone?_eq_none (h : ∀ z, Zone.ofNumber? zone = some z → s.zones.get z = none) :
    s.zone? zone = none := by
  simp only [State.zone?, Option.bind_eq_none_iff, Option.map_eq_none_iff]
  exact h

/-- The zone with its holder removed serves as the record written free does. -/
theorem Alike.removeHolder {t : State} (h : Alike s t) (record : s.zones.get z = some d) :
    Alike (s.setZone z (some d.free)) (t.removeHolder z) := by
  have same : s.setZone z (some d.free) = s.modZone z ZoneDyn.free :=
    (State.modZone_of_record record ZoneDyn.free).symm
  rw [same]
  exact h.modZone z _

theorem Alike.taken (s : State) (l : Link) : Alike s (s.taken l) := ⟨rfl, rfl, rfl, fun _ => rfl⟩

theorem State.replies_zones (u : State) (l : Link) (f : Frame) : (u.replies l f).zones = u.zones := rfl

/-! ### RELEASE (R51) -/

theorem State.releaseZone_noZone (h : s.zone? zone = none) :
    s.releaseZone n zone = (s, .noZone, .empty) := by simp only [State.releaseZone, h]

section
variable (named : s.zone? zone = some (z, d))
include named

theorem State.releaseZone_notHolder (apart : s.holds n z = false) :
    s.releaseZone n zone = (s, .notHolder, .empty) := by
  simp only [State.releaseZone, named, apart, if_true]

theorem State.releaseZone_inside (holds : s.holds n z = true) (inside : s.inside z n = true) :
    s.releaseZone n zone = (s, .inside, .empty) := by
  simp only [State.releaseZone, named, holds, Bool.true_eq_false, if_false, inside, if_true]

theorem State.releaseZone_booked (holds : s.holds n z = true) (inside : s.inside z n = false)
    (booked : s.zoneBookedBy n z = true) : s.releaseZone n zone = (s, .booked, .empty) := by
  simp only [State.releaseZone, named, holds, Bool.true_eq_false, if_false, inside,
    Bool.false_eq_true, booked, if_true]

theorem State.releaseZone_ok (holds : s.holds n z = true) (inside : s.inside z n = false)
    (free : s.zoneBookedBy n z = false) :
    s.releaseZone n zone =
      (((s.removeHolder z).serveAt z n).holderChanged z, .ok, .empty) := by
  simp only [State.releaseZone, named, holds, Bool.true_eq_false, if_false, inside,
    Bool.false_eq_true, free]

/-! ### WITHDRAW (R50) -/

theorem State.withdrawZone_notQueued (out : n ∉ d.waiting) :
    s.withdrawZone n zone = (s, .notQueued, .empty) := by
  have absent : d.waiting.contains n = false := by simpa using out
  simp only [State.withdrawZone, named, absent, Bool.false_eq_true, if_false]

theorem State.withdrawZone_ok (waits : n ∈ d.waiting) :
    s.withdrawZone n zone = ((s.unqueue n z).serveAt z n, .ok, .empty) := by
  have present : d.waiting.contains n = true := by simpa using waits
  simp only [State.withdrawZone, named, present, if_true]

/-! ### FORCE_RELEASE (R66) -/

theorem State.forceRelease_notHeld (free : d.hold = none) :
    s.forceRelease zone = (s, .notHeld, .empty) := by simp only [State.forceRelease, named, free]

theorem State.forceRelease_booked {h : Holding} (hold : d.hold = some h)
    (booked : s.zoneBookedBy h.station z = true) :
    s.forceRelease zone = (s, .booked, .empty) := by
  simp only [State.forceRelease, named, hold, booked, if_true]

theorem State.forceRelease_ok {h : Holding} (hold : d.hold = some h)
    (unbooked : s.zoneBookedBy h.station z = false) :
    s.forceRelease zone = ((((s.removeHolder z).notify h.station (.revoke z .forced)).holderChanged
      z).serveAt z h.station, .ok, .station h.station) := by
  simp only [State.forceRelease, named, hold, unbooked, Bool.false_eq_true, if_false]

end

theorem State.withdrawZone_noZone (h : s.zone? zone = none) :
    s.withdrawZone n zone = (s, .noZone, .empty) := by simp only [State.withdrawZone, h]

theorem State.forceRelease_noZone (h : s.zone? zone = none) :
    s.forceRelease zone = (s, .noZone, .empty) := by simp only [State.forceRelease, h]

theorem zoneWork_removeHolder (s : State) (z : Zone) : zoneWork s (s.removeHolder z) :=
  zoneWork_modZone s z _

theorem State.holds_eq_true_iff : s.holds n z = true ↔ s.holder z = some n := by
  rw [State.holds, beq_iff_eq]

end

/-- A notice raised while another link's request is handled, or none is, goes out first of what follows. -/
theorem notice_first {s t u : State} {n : Station} {x : Notice} (online : (s.ctx.get n).link ≠ .offline)
    (other : s.handling ≠ some (.crane n)) (told : t = s.notify n x) (work : Talks t u) :
    ∃ more, u.tx.get (.crane n) = (Frame.notice x :: more).foldl Tx.push (s.tx.get (.crane n)) := by
  obtain ⟨more, sent, -⟩ := work.sent (.crane n)
  refine ⟨more, sent.trans ?_⟩
  rw [told, State.notify, if_neg online, State.raise, if_neg other]
  exact congrArg (more.foldl Tx.push) (PerLink.get_set_same s.tx (.crane n) _)

/-- Settles O38: each refusal by its case, and the effects by serving as the freed zone would. -/
theorem releaseAndWithdrawServeTheZone : Obligations.ReleaseAndWithdrawServeTheZone := by
  unfold Obligations.ReleaseAndWithdrawServeTheZone
  refine ⟨fun s n zone => ⟨fun off => ⟨congrArg Host.Outcome.next (onlineRequest_of_not_online off),
    congrArg Host.Outcome.next (onlineRequest_of_not_online off)⟩, fun online => ?_⟩,
    fun s n zone z d online number record => ?_⟩
  · have releases {code : Code} (h : (s.taken (.crane n)).releaseZone n zone =
        (s.taken (.crane n), code, .empty)) :
        exec (.release n zone) s = .next (replied (.crane n) (.answer 0x04 code .empty) s) :=
      congrArg Host.Outcome.next (onlineRequest_of_unchanged online h)
    have withdraws {code : Code} (h : (s.taken (.crane n)).withdrawZone n zone =
        (s.taken (.crane n), code, .empty)) :
        exec (.withdraw n zone) s = .next (replied (.crane n) (.answer 0x05 code .empty) s) :=
      congrArg Host.Outcome.next (onlineRequest_of_unchanged online h)
    refine ⟨fun none => ?_, fun z d number record => ⟨fun other => ?_, fun holder inside => ?_,
      fun holder inside booked => ?_, fun out => ?_⟩⟩
    · have unnamed : (s.taken (.crane n)).zone? zone = .none := State.zone?_eq_none none
      exact ⟨releases (State.releaseZone_noZone unnamed), withdraws (State.withdrawZone_noZone unnamed)⟩
    all_goals have named : (s.taken (.crane n)).zone? zone = some (z, d) := State.zone?_eq number record
    · have apart : s.holds n z = false := by rwa [← Bool.not_eq_true, State.holds_eq_true_iff]
      exact releases (State.releaseZone_notHolder named apart)
    · exact releases (State.releaseZone_inside named (State.holds_eq_true_iff.mpr holder) inside)
    · exact releases (State.releaseZone_booked named (State.holds_eq_true_iff.mpr holder) inside
        (State.zoneBookedBy_iff.mpr booked))
    · exact withdraws (State.withdrawZone_notQueued named out)
  · have named : (s.taken (.crane n)).zone? zone = some (z, d) := State.zone?_eq number record
    refine ⟨fun holder inside unbooked => ?_, fun waits => ?_⟩
    · have free : s.zoneBookedBy n z = false := by rwa [← Bool.not_eq_true, State.zoneBookedBy_iff]
      have work := State.releaseZone_ok (s := s.taken (.crane n)) named
        (State.holds_eq_true_iff.mpr holder) inside free
      refine ⟨_, congrArg Host.Outcome.next (onlineRequest_of_work online work), ?_, ?_, ?_⟩
      · rw [State.replies_zones, State.holderChanged_zones]
        exact (((Alike.taken s (.crane n)).removeHolder record).serveAt z n).zones
      · exact answered_of_talks
          ((((Work.refl (x := ∅) (s.taken (.crane n))).removeHolder z).serveAt z n).holderChanged z).talks _
      · exact zoneWork_replies (zoneWork_trans (zoneWork_trans (zoneWork_removeHolder _ z)
          (zoneWork_serveAt _ z n)) (zoneWork_of_holderWork (holderWork_holderChanged _ z))) _
    · have work := State.withdrawZone_ok (s := s.taken (.crane n)) named waits
      refine ⟨_, congrArg Host.Outcome.next (onlineRequest_of_work online work), ?_, ?_, ?_⟩
      · have left : s.setZone z (some { d with waiting := d.waiting.erase n }) = s.unqueue n z :=
          (State.modZone_of_record record fun d => { d with waiting := d.waiting.erase n }).symm
        rw [State.replies_zones, left]
        exact (((Alike.taken s (.crane n)).modZone z _).serveAt z n).zones
      · exact answered_of_talks (((Work.refl (x := ∅) (s.taken (.crane n))).unqueue n z).serveAt z n).talks _
      · exact zoneWork_replies (zoneWork_trans (zoneWork_modZone _ z _) (zoneWork_serveAt _ z n)) _

/-- Settles O39: the refusals, and the freed zone served behind the notice. -/
theorem forceReleaseTakesTheZone : Obligations.ForceReleaseTakesTheZone := by
  unfold Obligations.ForceReleaseTakesTheZone
  refine ⟨fun s tag zone => ⟨fun none => ?_, fun z d number record => ⟨fun free => ?_,
    fun h hold booked => ?_⟩⟩, fun s tag zone z d h number record hold unbooked => ?_⟩
  · exact congrArg Host.Outcome.next (command_of_unchanged (work := fun s => s.forceRelease zone)
      (State.forceRelease_noZone (State.zone?_eq_none none)))
  · exact congrArg Host.Outcome.next (command_of_unchanged (work := fun s => s.forceRelease zone)
      (State.forceRelease_notHeld (State.zone?_eq number record) free))
  · exact congrArg Host.Outcome.next (command_of_unchanged (work := fun s => s.forceRelease zone)
      (State.forceRelease_booked (State.zone?_eq number record) hold (State.zoneBookedBy_iff.mpr booked)))
  · have free : s.zoneBookedBy h.station z = false := by rwa [← Bool.not_eq_true, State.zoneBookedBy_iff]
    set s' := s.taken .supervisor with taken
    have work : s'.forceRelease zone = _ :=
      State.forceRelease_ok (s := s') (State.zone?_eq number record) hold free
    have after (t : State) : Talks t ((t.holderChanged z).serveAt z h.station) :=
      (((Work.refl (x := ∅) t).holderChanged z).serveAt z h.station).talks
    refine ⟨_, congrArg Host.Outcome.next (command_of_work (work := fun s => s.forceRelease zone) work),
      ?_, fun online => ?_, ?_, ?_⟩
    · rw [State.replies_zones]
      exact (((((Alike.taken s .supervisor).removeHolder record).trans (.notify _ h.station _)).trans
        (.holderChanged _ z)).serveAt z h.station).zones
    · have frame := s'.modZone_frame z ZoneDyn.free
      obtain ⟨more, sent⟩ := notice_first (s := s'.removeHolder z) (n := h.station)
        (x := .revoke z .forced) (by rw [State.removeHolder, frame]; exact online)
        (by rw [State.removeHolder, frame]; nofun) rfl (after _)
      refine ⟨more, ?_⟩
      rw [State.replies_tx, PerLink.get_set_ne (show Link.crane h.station ≠ .supervisor from nofun), sent, State.removeHolder, frame]
      rfl
    · exact answered_of_talks (((((Work.refl (x := ∅) s').removeHolder z).notify _ _).holderChanged
        z).serveAt z h.station).talks _
    · exact zoneWork_replies (zoneWork_trans (zoneWork_trans (zoneWork_removeHolder _ z)
        (zoneWork_of_holderWork (holderWork_trans (holderWork_notify _ _ _)
          (holderWork_holderChanged _ z)))) (zoneWork_serveAt _ z h.station)) _

/-- Settles O41: each expiry takes the holder away and serves the freed zone. -/
theorem zoneTimersTakeTheZoneBack : Obligations.ZoneTimersTakeTheZoneBack := by
  unfold Obligations.ZoneTimersTakeTheZoneBack
  intro s z d h idle record hold
  have quiet {t : State} (work : Talks s t) : t.rx = s.rx ∧ t.handling = none ∧ t.held = s.held := by
    obtain ⟨more, held, nothing⟩ := work.held
    rw [nothing idle, List.append_nil] at held
    exact ⟨work.rx, work.handling.trans idle, held⟩
  refine ⟨fun due => ?_, fun due => ?_⟩
  · have step : s.expireEntry z = (((s.removeHolder z).notify h.station
        (.revoke z .entryTimeout)).holderChanged z).serveAt z h.station := by
      simp only [State.expireEntry, record, due, hold]
    have after (t : State) : Talks t ((t.holderChanged z).serveAt z h.station) :=
      (((Work.refl (x := ∅) t).holderChanged z).serveAt z h.station).talks
    obtain ⟨rx, handling, held⟩ := quiet (((((Work.refl (x := ∅) s).removeHolder z).notify h.station
      (.revoke z .entryTimeout)).holderChanged z).serveAt z h.station).talks
    refine ⟨_, congrArg Host.Outcome.next step, ?_, fun online => ?_, rx, handling, held, ?_⟩
    · exact (((((Alike.refl s).removeHolder record).trans (.notify _ h.station _)).trans
        (.holderChanged _ z)).serveAt z h.station).zones
    · have frame := s.modZone_frame z ZoneDyn.free
      obtain ⟨more, sent⟩ := notice_first (s := s.removeHolder z) (n := h.station)
        (x := .revoke z .entryTimeout) (by rw [State.removeHolder, frame]; exact online)
        (by rw [State.removeHolder, frame]; exact fun e => by rw [idle] at e; cases e) rfl (after _)
      refine ⟨more, sent.trans ?_⟩
      rw [State.removeHolder, frame]
    · exact zoneWork_trans (zoneWork_trans (zoneWork_removeHolder _ z)
        (zoneWork_of_holderWork (holderWork_trans (holderWork_notify _ _ _)
          (holderWork_holderChanged _ z)))) (zoneWork_serveAt _ z h.station)
  · have step : s.expireDwell z = ((s.removeHolder z).holderChanged z).serveAt z h.station := by
      simp only [State.expireDwell, record, due, hold]
    obtain ⟨rx, handling, held⟩ := quiet ((((Work.refl (x := ∅) s).removeHolder z).holderChanged
      z).serveAt z h.station).talks
    refine ⟨_, congrArg Host.Outcome.next step, ?_, rx, handling, held, ?_⟩
    · exact ((((Alike.refl s).removeHolder record).trans (.holderChanged _ z)).serveAt z h.station).zones
    · exact zoneWork_trans (zoneWork_trans (zoneWork_removeHolder _ z)
        (zoneWork_of_holderWork (holderWork_holderChanged _ z))) (zoneWork_serveAt _ z h.station)

end Sys2Proof.Machine
end

section
/-! EXTEND, CANCEL, LOCK and UNLOCK when nothing of the booking timeline is due (R166, R169, R170). -/

namespace Sys2Proof.Machine

open Sys2Proof.Safety

/-! ### Steps of R158 that are not due -/

section
variable {s : State} {b : Booking}

theorem State.stepRemaining_of_not_due (h : b.endDue s.clock.time = none) :
    s.stepRemaining b = s := by
  unfold State.stepRemaining
  rw [h]
  exact ite_self s

theorem State.stepExpiry_of_not_due (h : b.endDue s.clock.time = none) : s.stepExpiry b = s := by
  unfold State.stepExpiry
  rw [h]
  exact ite_self s

theorem State.stepLead_of_not_due (h : leadDue s b = false) : s.stepLead b = s :=
  if_neg (by simpa [leadDue] using h)

theorem State.stepStart_of_not_due (h : startDue s b = false) : s.stepStart b = s :=
  if_neg (by simpa [startDue] using h)

/-- A fold whose steps all leave the state leaves it. -/
theorem foldl_of_idle {β : Type} {f : State → β → State} {bs : List β} (h : ∀ b ∈ bs, f s b = s) :
    bs.foldl f s = s := by
  induction bs with
  | nil => rfl
  | cons b bs ih =>
    rw [List.foldl_cons, h b List.mem_cons_self, ih fun c mem => h c (List.mem_cons_of_mem b mem)]

/-- The step of R158 for the booking with a number. -/
def State.stepNumber (f : State → Booking → State) (s : State) (num : Nat) : State :=
  match s.booking? num with
  | some b => f s b
  | none => s

theorem State.overBookings_eq (s : State) (sel : Nat → Bool) (f : State → Booking → State) :
    s.overBookings sel f = ((s.bookings.map (·.number)).filter sel).foldl (State.stepNumber f) s :=
  rfl

theorem State.stepNumber_of_idle {f : State → Booking → State} {num : Nat}
    (h : ∀ b ∈ s.bookings, b.number = num → f s b = s) : State.stepNumber f s num = s := by
  unfold State.stepNumber
  cases found : s.booking? num with
  | none => rfl
  | some b => exact h b (State.mem_of_booking? found) (State.number_of_booking? found)

/-- A step of R158 that is due for no booking of the table changes nothing. -/
theorem State.overBookings_of_idle {sel : Nat → Bool} {f : State → Booking → State}
    (h : ∀ b ∈ s.bookings, f s b = s) : s.overBookings sel f = s :=
  foldl_of_idle fun _ _ => State.stepNumber_of_idle fun b mem _ => h b mem

section
variable (ends : ∀ c ∈ s.bookings, c.endDue s.clock.time = none)
include ends

theorem State.allRemaining_of_no_end : s.allRemaining = s :=
  State.overBookings_of_idle fun b mem => State.stepRemaining_of_not_due (ends b mem)

theorem State.allEnds_of_no_end : s.allEnds = s := by
  rw [State.allEnds, State.allRemaining_of_no_end ends]
  exact State.overBookings_of_idle fun b mem => State.stepExpiry_of_not_due (ends b mem)

theorem State.allLeads_of_no_lead (leads : ∀ c ∈ s.bookings, leadDue s c = false) :
    s.allLeads = s := by
  rw [State.allLeads, State.allEnds_of_no_end ends]
  exact State.overBookings_of_idle fun b mem => State.stepLead_of_not_due (leads b mem)

end

theorem State.settleBookings_eq (s : State) :
    s.settleBookings = s.allLeads.overBookings (fun _ => true) State.stepStart := rfl

/-- With nothing due, a booking request finds the table as it stands (log entry 1). -/
theorem State.settleBookings_of_nothingDue (h : nothingDue s = true) : s.settleBookings = s := by
  have each : ∀ b ∈ s.bookings, b.endDue s.clock.time = none ∧ leadDue s b = false ∧
      startDue s b = false := by simpa [nothingDue, and_assoc] using h
  rw [State.settleBookings_eq, State.allLeads_of_no_lead (fun b mem => (each b mem).1)
    fun b mem => (each b mem).2.1]
  exact State.overBookings_of_idle fun b mem => State.stepStart_of_not_due (each b mem).2.2

theorem State.bookingCommand_of_nothingDue (h : nothingDue s = true) (tag cmd : Nat)
    (work : State → State × Code × Data) :
    s.bookingCommand tag cmd work = s.command tag cmd work := by
  rw [State.bookingCommand, State.settleBookings_of_nothingDue h]

theorem State.bookingRequest_of_nothingDue (h : nothingDue s = true) (n : Station) (kind : Byte)
    (work : State → State × Code × Data) :
    s.bookingRequest n kind work = s.onlineRequest n kind work := by
  rw [State.bookingRequest, State.settleBookings_of_nothingDue h, ite_self]

theorem State.bookingRequest_of_not_online {n : Station} {kind : Byte}
    {work : State → State × Code × Data} (h : (s.ctx.get n).link ≠ .online) :
    s.bookingRequest n kind work = replied (.crane n) (.answer kind .notJoined .empty) s := by
  rw [State.bookingRequest, if_neg h, onlineRequest_of_not_online h]

end

/-! ### The lowest number -/

/-- In a table by ascending number, the booking found is the one of the lowest number that passes. -/
theorem find?_lowest {bs : List Booking} (ascending : (bs.map (·.number)).Pairwise (· < ·))
    {p : Booking → Bool} {c : Booking} (mem : c ∈ bs) (passes : p c = true)
    (lowest : ∀ d ∈ bs, p d = true → c.number ≤ d.number) : bs.find? p = some c := by
  induction bs with
  | nil => cases mem
  | cons b bs ih =>
    rw [List.map_cons, List.pairwise_cons] at ascending
    obtain rfl | later := List.mem_cons.mp mem
    · exact List.find?_cons_of_pos passes
    · have fails : ¬ p b = true := fun first => by
        have above := ascending.1 c.number (List.mem_map_of_mem later)
        have below := lowest b List.mem_cons_self first
        omega
      rw [List.find?_cons_of_neg fails]
      exact ih ascending.2 later fun d mem => lowest d (List.mem_cons_of_mem b mem)

/-! ### The work of the booking requests -/

section
variable {s : State} {crane : Option Station} {number : Nat} {amount : Int} {b : Booking}

/-- The stations whose last ended booking a request asks about (R166). -/
def askedOf (crane : Option Station) (n : Station) : Prop := ∀ m, crane = some m → n = m

theorem State.missingBooking_eq_late_iff : s.missingBooking crane number = .late ↔
    ∃ n e, askedOf crane n ∧ (s.ctx.get n).lastEnded = some e ∧ e.number = number := by
  have here (n : Station) : (match (s.ctx.get n).lastEnded with
      | some e => e.number == number
      | none => false) = true ↔ ∃ e, (s.ctx.get n).lastEnded = some e ∧ e.number = number := by
    cases (s.ctx.get n).lastEnded <;> simp
  unfold State.missingBooking
  extract_lets endedHere
  have ended (n : Station) : endedHere n = true ↔
      ∃ e, (s.ctx.get n).lastEnded = some e ∧ e.number = number := here n
  cases crane with
  | some m => simp [askedOf, ended]
  | none => simp [askedOf, ended, Station.mem_all]

theorem State.missingBooking_cases : s.missingBooking crane number = .late ∨
    s.missingBooking crane number = .noBooking := by
  unfold State.missingBooking
  exact ite_eq_or_eq _ _ _

/-- A number in no record is answered as R166 says. -/
theorem notInTable_of_missing {asked : Station → Prop} (same : ∀ n, askedOf crane n ↔ asked n)
    {answered : Code → Prop} (h : answered (s.missingBooking crane number)) :
    notInTable s number asked answered := by
  refine ⟨fun ⟨n, e, own, last, eq⟩ => ?_, fun absent => ?_⟩
  · rwa [State.missingBooking_eq_late_iff.mpr ⟨n, e, (same n).mpr own, last, eq⟩] at h
  · obtain late | missing := s.missingBooking_cases (crane := crane) (number := number)
    · obtain ⟨n, e, own, last, eq⟩ := State.missingBooking_eq_late_iff.mp late
      exact absurd eq (absent n e ((same n).mp own) last)
    · rwa [missing] at h

theorem Booking.craneRefusal_own {n : Station} (own : b.station = n) (free : b.locked = false) :
    b.craneRefusal (some n) = none := by simp [Booking.craneRefusal, own, free]

/-! #### CANCEL (R169) -/

theorem State.cancelLift_range : s.cancelLift crane 0 = (s, .range, .empty) := if_pos rfl

theorem State.cancelLift_missing (nonzero : number ≠ 0) (h : s.booking? number = none) :
    s.cancelLift crane number = (s, s.missingBooking crane number, .empty) := by
  simp only [State.cancelLift, if_neg nonzero, h]

theorem State.cancelLift_refused (nonzero : number ≠ 0) (h : s.booking? number = some b)
    {code : Code} (refusal : b.craneRefusal crane = some code) :
    s.cancelLift crane number = (s, code, .empty) := by
  simp only [State.cancelLift, if_neg nonzero, h, refusal]

theorem State.cancelLift_ok (nonzero : number ≠ 0) (h : s.booking? number = some b)
    (allowed : b.craneRefusal crane = none) : s.cancelLift crane number =
      (s.endBooking b .cancelledRequest, .ok, .bookingWas b.state) := by
  simp only [State.cancelLift, if_neg nonzero, h, allowed]

/-! #### EXTEND (R166) -/

/-- The number and the amount of an EXTEND are in range. -/
def extendInRange (number : Nat) (amount : Int) : Prop :=
  number ≠ 0 ∧ -3600 ≤ amount ∧ amount ≤ 3600

theorem State.extendLift_range (h : ¬ extendInRange number amount) :
    s.extendLift crane number amount = (s, .range, .empty) :=
  if_pos (by unfold extendInRange at h; omega)

/-- A booking with a window in the place of the one it is in. -/
def Booking.extending (b : Booking) (w v : Window) : Booking :=
  { b with state := if b.state = .active w then .active v else .blocked v }

theorem Booking.window?_eq_some_iff {w : Window} :
    b.window? = some w ↔ b.state = .blocked w ∨ b.state = .active w := by
  cases state : b.state <;> simp [Booking.window?, state]

section
variable (within : extendInRange number amount)
include within

theorem State.extendLift_missing (h : s.booking? number = none) :
    s.extendLift crane number amount = (s, s.missingBooking crane number, .empty) := by
  have passes : ¬ (number = 0 ∨ amount < -3600 ∨ 3600 < amount) := by
    unfold extendInRange at within; omega
  simp only [State.extendLift, if_neg passes, h]

variable (h : s.booking? number = some b)
include h

theorem State.extendLift_refused {code : Code} (refusal : b.craneRefusal crane = some code) :
    s.extendLift crane number amount = (s, code, .empty) := by
  have passes : ¬ (number = 0 ∨ amount < -3600 ∨ 3600 < amount) := by
    unfold extendInRange at within; omega
  simp only [State.extendLift, if_neg passes, h, refusal]

variable (allowed : b.craneRefusal crane = none)
include allowed

theorem State.extendLift_notInWindow (closed : b.window? = none) :
    s.extendLift crane number amount = (s, .notInWindow, .empty) := by
  have passes : ¬ (number = 0 ∨ amount < -3600 ∨ 3600 < amount) := by
    unfold extendInRange at within; omega
  simp only [State.extendLift, if_neg passes, h, allowed, closed]

variable {w : Window} (opened : b.window? = some w)
include opened

theorem State.extendLift_overlap {c : Booking}
    (overlap : s.extensionOverlap b (w.projectedEnd s.clock.time (w.newAmount amount)) = some c) :
    s.extendLift crane number amount = (s, .overlap, .booking c.number) := by
  have passes : ¬ (number = 0 ∨ amount < -3600 ∨ 3600 < amount) := by
    unfold extendInRange at within; omega
  simp only [State.extendLift, if_neg passes, h, allowed, opened, overlap]

theorem State.extendLift_ok
    (free : s.extensionOverlap b (w.projectedEnd s.clock.time (w.newAmount amount)) = none) :
    s.extendLift crane number amount =
      (s.putBooking (b.extending w { w with extension := some (w.newAmount amount) }), .ok,
        .extended (w.newAmount amount) (w.projectedEnd s.clock.time (w.newAmount amount)) w.passed
          (b.zones.filter fun z => !w.passed.contains z)) := by
  have passes : ¬ (number = 0 ∨ amount < -3600 ∨ 3600 < amount) := by
    unfold extendInRange at within; omega
  rcases Booking.window?_eq_some_iff.mp opened with state | state <;>
    simp only [State.extendLift, if_neg passes, h, allowed, opened, free, Booking.extending, state,
      reduceCtorEq, if_true, if_false]

end

theorem Window.newAmount_eq (w : Window) (amount : Int) :
    w.newAmount amount = max (-3600) (min 3600 (w.extension.getD 0 + amount)) := by
  rw [Window.newAmount, clampInt, min_comm]

theorem Window.projectedEnd_eq (w : Window) (now : Nat) (amount : Int) :
    w.projectedEnd now amount = now + 1 + (max 1 (min 65535 ((w.remaining : Int) + amount))).toNat := by
  rw [Window.projectedEnd, clampInt, min_comm]

end

/-- Settles O44: with no overlap the work writes the pending amount alone. -/
theorem extendSetsThePendingAmount : Obligations.ExtendSetsThePendingAmount := by
  unfold Obligations.ExtendSetsThePendingAmount
  intro s number amount b w idle nonzero low high found inWindow pendingAmount projected apart v t data
  have within : extendInRange number amount := ⟨nonzero, low, high⟩
  have opened : b.window? = some w := Booking.window?_eq_some_iff.mpr inWindow
  have amounts : w.newAmount amount = pendingAmount := w.newAmount_eq amount
  have ends : w.projectedEnd s.clock.time pendingAmount = projected := w.projectedEnd_eq _ _
  have free (l : Link) : (s.taken l).extensionOverlap b projected = none := by
    rw [State.extensionOverlap, List.find?_eq_none]
    intro c mem passes
    simp only [Bool.and_eq_true, bne_iff_ne, decide_eq_true_eq] at passes
    obtain ⟨⟨other, shares⟩, early⟩ := passes
    rw [State.number_of_booking? found] at other
    exact absurd (apart c mem other shares) (Nat.not_le.mpr early)
  have work (l : Link) {crane : Option Station} (allowed : b.craneRefusal crane = none) :
      (s.taken l).extendLift crane number amount = (t.taken l, .ok, data) := by
    have result := State.extendLift_ok (s := s.taken l) within found allowed opened
      (by rw [amounts]; exact (congrArg _ ends).trans (free l))
    rw [result, amounts]
    refine Prod.ext rfl (Prod.ext rfl ?_)
    exact congrArg (fun e => Data.extended pendingAmount e w.passed _) ends
  refine ⟨fun online unlocked => ?_, fun tag => ?_⟩
  · refine congrArg Host.Outcome.next ((State.bookingRequest_of_nothingDue idle _ _ _).trans ?_)
    rw [onlineRequest_of_work online (work (.crane b.station) (Booking.craneRefusal_own rfl unlocked))]
    rfl
  · refine congrArg Host.Outcome.next ((State.bookingCommand_of_nothingDue idle _ _ _).trans ?_)
    rw [command_of_work (work := fun s => s.extendLift none number amount) (work .supervisor rfl)]
    rfl

end Sys2Proof.Machine
end

section
/-! The refusals of CANCEL and EXTEND, and LOCK and UNLOCK (R166, R169, R170). -/

namespace Sys2Proof.Machine

open Sys2Proof.Safety

section
variable {s : State} {n : Station} {number : Nat} {amount : Int} {b : Booking} {code : Code} {x : Data}

theorem askedOf_some (m : Station) : askedOf (some n) m ↔ m = n := by simp [askedOf]

theorem askedOf_none (m : Station) : askedOf none m ↔ True := by simp [askedOf]

/-- A crane's CANCEL whose work leaves the state. -/
theorem exec_cancel_of_unchanged (idle : nothingDue s = true) (online : (s.ctx.get n).link = .online)
    (h : (s.taken (.crane n)).cancelLift (some n) number = (s.taken (.crane n), code, x)) :
    exec (.cancel n number) s = .next (replied (.crane n) (.answer 0x07 code x) s) :=
  congrArg Host.Outcome.next ((State.bookingRequest_of_nothingDue idle _ _ _).trans
    (onlineRequest_of_unchanged online h))

/-- A crane's EXTEND whose work leaves the state. -/
theorem exec_extend_of_unchanged (idle : nothingDue s = true) (online : (s.ctx.get n).link = .online)
    (h : (s.taken (.crane n)).extendLift (some n) number amount = (s.taken (.crane n), code, x)) :
    exec (.extend n number amount) s = .next (replied (.crane n) (.answer 0x08 code x) s) :=
  congrArg Host.Outcome.next ((State.bookingRequest_of_nothingDue idle _ _ _).trans
    (onlineRequest_of_unchanged online h))

/-- The supervisor's CANCEL whose work leaves the state. -/
theorem exec_supervisorCancel_of_unchanged (idle : nothingDue s = true) {tag : Nat}
    (h : (s.taken .supervisor).cancelLift none number = (s.taken .supervisor, code, x)) :
    exec (.supervisorCancel tag number) s = .next (replied .supervisor (.answerSL tag 0x29 code x) s) :=
  congrArg Host.Outcome.next ((State.bookingCommand_of_nothingDue idle _ _ _).trans
    (command_of_unchanged (work := fun s => s.cancelLift none number) h))

/-- The supervisor's EXTEND whose work leaves the state. -/
theorem exec_supervisorExtend_of_unchanged (idle : nothingDue s = true) {tag : Nat}
    (h : (s.taken .supervisor).extendLift none number amount = (s.taken .supervisor, code, x)) :
    exec (.supervisorExtend tag number amount) s =
      .next (replied .supervisor (.answerSL tag 0x2A code x) s) :=
  congrArg Host.Outcome.next ((State.bookingCommand_of_nothingDue idle _ _ _).trans
    (command_of_unchanged (work := fun s => s.extendLift none number amount) h))

/-- The overlap an EXTEND is refused with (R166). -/
theorem State.extensionOverlap_of_lowest (kept : bookingTableKept s = true) {c : Booking} {projected : Nat}
    (number? : b.number = number) (mem : c ∈ s.bookings)
    (overlaps : c.number ≠ number ∧ b.sharesWith c = true ∧ c.start - c.lead < projected)
    (lowest : ∀ d ∈ s.bookings, d.number ≠ number ∧ b.sharesWith d = true ∧
      d.start - d.lead < projected → c.number ≤ d.number) :
    s.extensionOverlap b projected = some c := by
  have test (d : Booking) : (d.number != b.number && b.sharesWith d &&
      decide (d.spanBegin < projected)) = true ↔
      d.number ≠ number ∧ b.sharesWith d = true ∧ d.start - d.lead < projected := by
    rw [Bool.and_eq_true, Bool.and_eq_true, bne_iff_ne, decide_eq_true_eq, number?, and_assoc]
    rfl
  exact find?_lowest (bookingTableKept_iff.mp kept).ascending mem ((test c).mpr overlaps)
    fun d mem h => lowest d mem ((test d).mp h)

/-- LOCK or UNLOCK of a booking in the table (R170). -/
theorem lock_answered (idle : nothingDue s = true) {tag cmd : Nat} (found : s.booking? number = some b)
    (flag : Bool) : s.bookingCommand tag cmd (fun s => s.lockLift number flag) =
      replied .supervisor (.answerSL tag cmd .ok .empty) (s.putBooking { b with locked := flag }) := by
  have work : (s.taken .supervisor).lockLift number flag =
      ((s.putBooking { b with locked := flag }).taken .supervisor, .ok, .empty) := by
    have here : (s.taken .supervisor).booking? number = some b := found
    simp only [State.lockLift, here]
    rfl
  rw [State.bookingCommand_of_nothingDue idle,
    command_of_work (work := fun s => s.lockLift number flag) work]
  rfl

theorem lock_unanswered (idle : nothingDue s = true) {tag cmd : Nat} (missing : s.booking? number = none)
    (flag : Bool) : s.bookingCommand tag cmd (fun s => s.lockLift number flag) =
      replied .supervisor (.answerSL tag cmd .noBooking .empty) s := by
  have here : (s.taken .supervisor).booking? number = none := missing
  rw [State.bookingCommand_of_nothingDue idle]
  refine command_of_unchanged (work := fun s => s.lockLift number flag) ?_
  simp only [State.lockLift, here]

end

/-- Settles O45: each refusal by the case of the request's work that comes to it. -/
theorem lockedAndForeignBookingsAreRefused : Obligations.LockedAndForeignBookingsAreRefused := by
  unfold Obligations.LockedAndForeignBookingsAreRefused
  refine ⟨fun s n tag number amount => ?_, fun s tag number idle => ⟨fun b found => ?_, fun missing => ?_⟩⟩
  · intro cancel extend cancelSL extendSL inRange
    refine ⟨fun off => ⟨congrArg Host.Outcome.next (State.bookingRequest_of_not_online off),
      congrArg Host.Outcome.next (State.bookingRequest_of_not_online off)⟩, fun idle kept => ?_⟩
    refine ⟨?_, fun out => exec_supervisorExtend_of_unchanged idle (State.extendLift_range out),
      fun missing => ⟨fun nonzero => ?_, fun within => ?_⟩, fun online => ⟨?_, fun out => ?_,
        fun missing => ⟨fun nonzero => ?_, fun within => ?_⟩⟩, fun b found => ?_⟩
    · rintro rfl
      exact exec_supervisorCancel_of_unchanged idle State.cancelLift_range
    · exact notInTable_of_missing askedOf_none (exec_supervisorCancel_of_unchanged idle
        (State.cancelLift_missing (s := s.taken .supervisor) nonzero missing))
    · exact notInTable_of_missing askedOf_none (answered := (extendSL · .empty))
        (exec_supervisorExtend_of_unchanged idle
          (State.extendLift_missing (s := s.taken .supervisor) within missing))
    · rintro rfl
      exact exec_cancel_of_unchanged idle online State.cancelLift_range
    · exact exec_extend_of_unchanged idle online (State.extendLift_range out)
    · exact notInTable_of_missing askedOf_some (exec_cancel_of_unchanged idle online
        (State.cancelLift_missing (s := s.taken (.crane n)) nonzero missing))
    · exact notInTable_of_missing askedOf_some (answered := (extend · .empty))
        (exec_extend_of_unchanged idle online
          (State.extendLift_missing (s := s.taken (.crane n)) within missing))
    · intro mine
      have refuses {code : Code} (online : (s.ctx.get n).link = .online)
          (refusal : b.craneRefusal (some n) = some code) :
          (number ≠ 0 → cancel code) ∧ (inRange → extend code .empty) :=
        ⟨fun nonzero => exec_cancel_of_unchanged idle online
            (State.cancelLift_refused (s := s.taken (.crane n)) nonzero found refusal),
          fun within => exec_extend_of_unchanged idle online
            (State.extendLift_refused (s := s.taken (.crane n)) within found refusal)⟩
      refine ⟨fun online => ⟨fun other => refuses online ?_, fun own locked => refuses online ?_⟩,
        fun within closed => ⟨?_, ?_⟩, ?_⟩
      · exact if_pos other
      · simp [Booking.craneRefusal, own, locked]
      · rintro ⟨online, own, free⟩
        exact exec_extend_of_unchanged idle online (State.extendLift_notInWindow
          (s := s.taken (.crane n)) within found (Booking.craneRefusal_own own free) closed)
      · exact exec_supervisorExtend_of_unchanged idle (State.extendLift_notInWindow
          (s := s.taken .supervisor) within found rfl closed)
      · intro within w opened pendingAmount projected overlaps c mem hit lowest
        have ends : w.projectedEnd s.clock.time (w.newAmount amount) = projected := by
          rw [Window.newAmount_eq, Window.projectedEnd_eq]
        have overlap : s.extensionOverlap b (w.projectedEnd s.clock.time (w.newAmount amount)) =
            some c := by
          rw [ends]
          exact State.extensionOverlap_of_lowest kept (State.number_of_booking? found) mem hit lowest
        refine ⟨?_, exec_supervisorExtend_of_unchanged idle (State.extendLift_overlap
          (s := s.taken .supervisor) within found rfl opened overlap)⟩
        rintro ⟨online, own, free⟩
        exact exec_extend_of_unchanged idle online (State.extendLift_overlap (s := s.taken (.crane n))
          within found (Booking.craneRefusal_own own free) opened overlap)
  · exact ⟨congrArg Host.Outcome.next (lock_answered idle found true),
      congrArg Host.Outcome.next (lock_answered idle found false)⟩
  · exact ⟨congrArg Host.Outcome.next (lock_unanswered idle missing true),
      congrArg Host.Outcome.next (lock_unanswered idle missing false)⟩

end Sys2Proof.Machine
end

section
/-! CANCEL (R169), and the steps of the timeline that a second boundary brings (R158 to R165). -/

namespace Sys2Proof.Machine

open Sys2Proof.Safety

section
variable {s : State} {b : Booking} {e : Ending}

/-- An outcome that re-arms no series frees the record (R171). -/
theorem State.endBooking_of_no_rearm (h : e.rearms = false) :
    s.endBooking b e = (s.reportedEnd b e).dropBooking b.number := by
  obtain ⟨x, ended⟩ := State.rearm_ended (s := s.liftedEnd b) (b := b) (e := e) fun _ _ _ _ => .inl h
  rw [State.endBooking_eq, ended]

/-- The booking that has ended with no series to re-arm is in no record, its outcome stands, and its zones are
free of it (R38, R64, R171). -/
theorem State.endBooking_ended (h : e.rearms = false) :
    (s.endBooking b e).booking? b.number = none ∧
      ((s.endBooking b e).ctx.get b.station).lastEnded = some ⟨b.number, e⟩ ∧
      (b.state ≠ .pending → ∀ z ∈ b.zones, ∀ d, (s.endBooking b e).zones.get z = some d →
        d.reservation = none) := by
  refine ⟨?_, ?_, fun beyond z mem d record => ?_⟩
  · rw [State.endBooking_of_no_rearm h]
    exact State.dropBooking_booking?_same _ _
  · obtain ⟨x, ended⟩ := State.rearm_ended (s := s.liftedEnd b) (b := b) (e := e) fun _ _ _ _ => .inl h
    rw [State.endBooking_lastEnded, ended]
  · rw [State.endBooking_zones] at record
    exact (State.liftedEnd_freed beyond mem d record).1

end

/-- Settles O43: the end of the booking, as the work of either request. -/
theorem cancelEndsTheBooking : Obligations.CancelEndsTheBooking := by
  unfold Obligations.CancelEndsTheBooking
  intro s number b idle nonzero found ended
  obtain rfl := State.number_of_booking? found
  have ends (l : Link) (f : Frame) :
      ended l f (((s.taken l).endBooking b .cancelledRequest).replies l f) := by
    obtain ⟨gone, outcome, free⟩ := State.endBooking_ended (s := s.taken l) (b := b)
      (e := .cancelledRequest) rfl
    exact ⟨gone, outcome, free, answered_of_talks ((Work.refl (x := ∅) (s.taken l)).endBooking b
      .cancelledRequest).talks f, zoneWork_replies (zoneWork_endBooking _ _ _) f⟩
  have work (l : Link) {crane : Option Station} (allowed : b.craneRefusal crane = none) :
      (s.taken l).cancelLift crane b.number =
        ((s.taken l).endBooking b .cancelledRequest, .ok, .bookingWas b.state) :=
    State.cancelLift_ok nonzero found allowed
  refine ⟨fun online free => ⟨_, congrArg Host.Outcome.next ((State.bookingRequest_of_nothingDue idle _ _
    _).trans (onlineRequest_of_work online (work _ (Booking.craneRefusal_own rfl free)))), ends _ _⟩,
    fun tag => ⟨_, congrArg Host.Outcome.next ((State.bookingCommand_of_nothingDue idle _ _ _).trans
      (command_of_work (work := fun s => s.cancelLift none b.number) (work _ rfl))), ends _ _⟩⟩

end Sys2Proof.Machine
end

section
/-! The steps of R158: what a step leaves due, and the turn of one booking (R159 to R165). -/

namespace Sys2Proof.Machine

open Sys2Proof.Safety

/-! ### Bookings as zones pass to them (R164) -/

/-- A booking as it stands after zones have passed to it: the zones passed and ACTIVE for BLOCKED alone may
differ. -/
structure Booking.Passed (b c : Booking) : Prop where
  fields : c = { b with state := c.state }
  state : c.state = b.state ∨
    ∃ w v, b.window? = some w ∧ c.window? = some v ∧ v = { w with passed := v.passed }

section
variable {b c d : Booking}

theorem Booking.Passed.refl (b : Booking) : b.Passed b := ⟨rfl, .inl rfl⟩

theorem Booking.window?_of_state (h : c.state = b.state) : c.window? = b.window? := by
  rw [Booking.window?, h]; rfl

theorem Booking.Passed.trans (h : b.Passed c) (k : c.Passed d) : b.Passed d := by
  refine ⟨k.fields.trans (by rw [h.fields]), ?_⟩
  obtain same | ⟨w, v, opened, now, kept⟩ := k.state
  · obtain same' | ⟨w, v, opened, now, kept⟩ := h.state
    · exact .inl (same.trans same')
    · exact .inr ⟨w, v, opened, (Booking.window?_of_state same).trans now, kept⟩
  · obtain same' | ⟨w', v', opened', now', kept'⟩ := h.state
    · exact .inr ⟨w, v, (Booking.window?_of_state same').symm.trans opened, now, kept⟩
    · obtain rfl := Option.some.inj (opened.symm.trans now')
      exact .inr ⟨w', v, opened', now, kept.trans (by rw [kept'])⟩

theorem Booking.passed_pass (b : Booking) (z : Zone) : b.Passed (b.pass z) := by
  cases state : b.state with
  | pending | lead | armed | deferred e =>
    have same : b.pass z = b := by simp only [Booking.pass, state]
    rw [same]
    exact .refl b
  | blocked w =>
    simp only [Booking.pass, state]
    split
    · exact ⟨rfl, .inr ⟨w, _, by simp [Booking.window?, state], rfl, rfl⟩⟩
    · exact ⟨rfl, .inr ⟨w, _, by simp [Booking.window?, state], rfl, rfl⟩⟩
  | active w =>
    simp only [Booking.pass, state]
    exact ⟨rfl, .inr ⟨w, _, by simp [Booking.window?, state], rfl, rfl⟩⟩

theorem Booking.Passed.number (h : b.Passed c) : c.number = b.number := by rw [h.fields]

theorem Booking.Passed.inWindow (h : b.Passed c) : c.inWindow = b.inWindow := by
  obtain same | ⟨w, v, opened, now, -⟩ := h.state
  · rw [Booking.inWindow, Booking.inWindow, Booking.window?_of_state same]
  · rw [Booking.inWindow, Booking.inWindow, opened, now]; rfl

/-- The end of a window is due when its remaining has run out (R165). -/
theorem Booking.endDue_of_window {w : Window} (h : b.window? = some w) (now : Nat) :
    b.endDue now = none ↔ w.due = false := by
  obtain state | state := Booking.window?_eq_some_iff.mp h <;> simp [Booking.endDue, state]

theorem Booking.Passed.endDue (h : b.Passed c) (now : Nat) :
    c.endDue now = none ↔ b.endDue now = none := by
  obtain same | ⟨w, v, opened, here, kept⟩ := h.state
  · rw [h.fields, Booking.endDue, Booking.endDue, same]
  · rw [Booking.endDue_of_window here, Booking.endDue_of_window opened, kept]

end

/-- Each booking of `t` is one of `s` to which zones may have passed. -/
def PassesOnly (s t : State) : Prop := ∀ c ∈ t.bookings, ∃ b ∈ s.bookings, b.Passed c

theorem PassesOnly.of_bookings {s t : State} (h : t.bookings = s.bookings) : PassesOnly s t :=
  fun c mem => ⟨c, h ▸ mem, .refl c⟩

theorem PassesOnly.trans {s t u : State} (h : PassesOnly s t) (k : PassesOnly t u) : PassesOnly s u := by
  intro d mem
  obtain ⟨c, mem, later⟩ := k d mem
  obtain ⟨b, mem, earlier⟩ := h c mem
  exact ⟨b, mem, earlier.trans later⟩

theorem PassesOnly.bookingPassed (s : State) (num : Nat) (z : Zone) :
    PassesOnly s (s.bookingPassed num z) := by
  unfold State.bookingPassed
  split
  case h_1 b found =>
    intro c mem
    obtain ⟨d, there, rfl⟩ := List.mem_map.mp mem
    split
    · exact ⟨b, State.mem_of_booking? found, b.passed_pass z⟩
    · exact ⟨d, there, .refl d⟩
  case h_2 => exact .of_bookings rfl

theorem PassesOnly.serve (s : State) (z : Zone) : PassesOnly s (s.serve z) := by
  cases s.served z with
  | kept same => rw [same]; exact .of_bookings rfl
  | ordinary _ n _ _ _ _ _ _ same => rw [same]; exact .of_bookings (s.grantOrdinary_bookings z n)
  | booked _ num b _ _ _ _ _ _ same =>
    rw [same]
    exact (PassesOnly.of_bookings (s.grantBooked_bookings z b.station)).trans (.bookingPassed _ num z)

theorem PassesOnly.liftedEnd (s : State) (b : Booking) : PassesOnly s (s.liftedEnd b) := by
  have ended : ZonesOnly s (b.zones.foldl (State.endZone b) s) :=
    foldl_related .refl .trans (.endZone b) s b.zones
  have serves (t : State) (zs : List Zone) : PassesOnly t (zs.foldl State.serve t) :=
    foldl_related (fun _ => .of_bookings rfl) .trans .serve t zs
  unfold State.liftedEnd
  extract_lets t
  have first : PassesOnly s t := .of_bookings (by rw [show t = _ from ended])
  split
  · exact first
  · have unreserved : ZonesOnly t
        (b.zones.foldl (fun s z => s.modZone z fun d => { d with reservation := none }) t) :=
      foldl_related .refl .trans (fun s z => .modZone s z _) t b.zones
    exact ((first.trans (.of_bookings (by rw [unreserved]))).trans (serves _ _)).trans (serves _ _)

/-! ### The table after the end of a booking and after its opening -/

section
variable {s : State} {b c : Booking}

theorem State.mem_putBooking (h : c ∈ (s.putBooking b).bookings) :
    c = b ∨ c ∈ s.bookings ∧ c.number ≠ b.number := by
  obtain ⟨d, mem, rfl⟩ := List.mem_map.mp h
  by_cases own : d.number = b.number
  · rw [if_pos own]; exact .inl rfl
  · rw [if_neg own]; exact .inr ⟨mem, own⟩

theorem seekSlot_state {others : List Booking} {now period : Nat} {b c : Booking} {k : Nat}
    (fuel skips : Nat) (h : seekSlot others now period fuel b skips = some (c, k)) :
    c.state = b.state := by
  induction fuel generalizing b skips with
  | zero => cases h
  | succ fuel ih =>
    rw [seekSlot] at h
    split at h
    · cases h
    · split at h
      · exact ih (b := { b with start := b.start + period }) (skips + 1) h
      · cases h; rfl

theorem State.rearm_state {e : Ending} {c : Booking} (h : (s.rearm b e).1 = some c) :
    c.state = .pending := by
  unfold State.rearm at h
  split at h
  case h_1 =>
    split at h
    · cases h
    · split at h
      · cases h
      · extract_lets first at h
        split at h
        case h_1 d k slot =>
          cases h
          exact (seekSlot_state 8 0 slot :)
        case h_2 => cases h
  case h_2 => cases h

/-- What the end of a booking leaves in the table: its own series re-armed as PENDING, and the other bookings
with what has passed to them (R64, R164, R171). -/
theorem State.mem_endBooking {e : Ending} (h : c ∈ (s.endBooking b e).bookings) :
    c.number = b.number ∧ c.state = .pending ∨
      c.number ≠ b.number ∧ ∃ d ∈ s.bookings, d.Passed c := by
  have others {c : Booking} (mem : c ∈ (s.reportedEnd b e).bookings) : ∃ d ∈ s.bookings, d.Passed c :=
    PassesOnly.liftedEnd s b c (s.reportedEnd_bookings b e ▸ mem)
  rw [State.endBooking_eq] at h
  split at h
  case h_1 r armed =>
    have number := State.rearm_number armed
    obtain rfl | ⟨mem, other⟩ := State.mem_putBooking h
    · exact .inl ⟨number, State.rearm_state armed⟩
    · exact .inr ⟨number ▸ other, others mem⟩
  case h_2 =>
    obtain ⟨mem, other⟩ := List.mem_filter.mp h
    exact .inr ⟨by simpa using other, others mem⟩

/-- What the opening of a booking leaves in the table (R163). -/
theorem State.mem_openBooking {remaining ends : Nat}
    (h : c ∈ (s.openBooking b remaining ends).bookings) :
    c.number = b.number ∧ c.inWindow = true ∨ c.number ≠ b.number ∧ c ∈ s.bookings := by
  obtain rfl | ⟨mem, other⟩ := State.mem_putBooking (State.openBooking_eq s b remaining ends ▸ h)
  · refine .inl ⟨rfl, ?_⟩
    unfold openState
    split <;> rfl
  · rw [(s.openedZones_kept b remaining ends).2.2] at mem
    obtain rfl | ⟨mem, other⟩ := State.mem_putBooking mem
    · exact absurd rfl other
    · exact .inr ⟨other, mem⟩

end

/-! ### The turn of one booking -/

section
variable {s : State} {number : Nat} {b : Booking} {f : State → Booking → State}

/-- A step of R158 up to a number takes the booking with that number alone, when the others below it are not
due and what it leaves is not. -/
theorem State.overBookings_once (found : s.booking? number = some b)
    (below : ∀ c ∈ s.bookings, c.number < number → f s c = s)
    (after : ∀ c ∈ (f s b).bookings, c.number ≤ number → f (f s b) c = f s b) :
    s.overBookings (fun k => decide (k ≤ number)) f = f s b := by
  have own : number ∈ (s.bookings.map (·.number)).filter (fun k => decide (k ≤ number)) :=
    List.mem_filter.mpr ⟨List.mem_map.mpr ⟨b, State.mem_of_booking? found,
      State.number_of_booking? found⟩, by simp⟩
  have within {k : Nat} (mem : k ∈ (s.bookings.map (·.number)).filter
      (fun k => decide (k ≤ number))) : k ≤ number := by simpa using (List.mem_filter.mp mem).2
  rw [State.overBookings_eq]
  obtain ⟨first, rest, split, fresh⟩ := List.eq_append_cons_of_mem own
  rw [split, List.foldl_append, List.foldl_cons]
  have before : first.foldl (State.stepNumber f) s = s := foldl_of_idle fun k mem =>
    State.stepNumber_of_idle fun c there same => below c there (by
      have := within (split ▸ List.mem_append_left _ mem)
      have : k ≠ number := fun eq => fresh (eq ▸ mem)
      omega)
  have step : State.stepNumber f s number = f s b := by simp only [State.stepNumber, found]
  rw [before, step]
  exact foldl_of_idle fun k mem => State.stepNumber_of_idle fun c there same => after c there
    (same ▸ within (split ▸ List.mem_append_right _ (List.mem_cons_of_mem _ mem)))


variable {before : State → State} {due : State → Booking → Bool}

/-- The turn of a booking whose step is due, with nothing of the earlier steps to do. -/
theorem State.bookingTurn_of_due (found : s.booking? number = some b) (idle : before s = s)
    (own : due s b = true) :
    s.bookingTurn number before f due = s.overBookings (fun k => decide (k ≤ number)) f := by
  simp only [State.bookingTurn, idle, found, own, if_true]

end

theorem State.endBooking_time (s : State) (b : Booking) (e : Ending) :
    (s.endBooking b e).clock = s.clock := by rw [(zoneWork_endBooking s b e).1]

section
variable {s : State} {number : Nat} {b : Booking} {e : Ending}

theorem State.stepRemaining_of_due (opened : b.inWindow = true)
    (due : b.endDue s.clock.time = some e) : s.stepRemaining b = s.endBooking b e := by
  simp only [State.stepRemaining, opened, if_true, due]

theorem State.stepExpiry_of_due (closed : b.inWindow = false)
    (due : b.endDue s.clock.time = some e) : s.stepExpiry b = s.endBooking b e := by
  simp only [State.stepExpiry, closed, Bool.false_eq_true, if_false, due]

theorem State.allRemaining_of_no_window_end
    (h : ∀ c ∈ s.bookings, c.inWindow = true → c.endDue s.clock.time = none) :
    s.allRemaining = s := by
  refine State.overBookings_of_idle fun c mem => ?_
  cases opened : c.inWindow with
  | true => exact State.stepRemaining_of_not_due (h c mem opened)
  | false => simp only [State.stepRemaining, opened, Bool.false_eq_true, if_false]

variable (found : s.booking? number = some b)
  (below : ∀ c ∈ s.bookings, c.number < number → c.endDue s.clock.time = none)
include found below

/-- The end of a booking leaves no end due at its number or below. -/
theorem State.no_end_after {c : Booking} (mem : c ∈ (s.endBooking b e).bookings)
    (low : c.number ≤ number) : c.endDue (s.endBooking b e).clock.time = none := by
  have own := State.number_of_booking? found
  rw [s.endBooking_time b e]
  obtain ⟨-, state⟩ | ⟨other, d, there, passed⟩ := State.mem_endBooking mem
  · simp only [Booking.endDue, state]
  · have number := passed.number
    exact (passed.endDue _).mpr (below d there (by omega))

theorem State.overRemaining_once (opened : b.inWindow = true) (due : b.endDue s.clock.time = some e) :
    s.overBookings (fun k => decide (k ≤ number)) State.stepRemaining = s.endBooking b e := by
  have step := State.stepRemaining_of_due opened due
  rw [State.overBookings_once found (fun c mem low => State.stepRemaining_of_not_due (below c mem low)), step]
  rw [step]
  exact fun c mem low => State.stepRemaining_of_not_due (State.no_end_after found below mem low)

theorem State.overExpiry_once (closed : b.inWindow = false) (due : b.endDue s.clock.time = some e) :
    s.overBookings (fun k => decide (k ≤ number)) State.stepExpiry = s.endBooking b e := by
  have step := State.stepExpiry_of_due closed due
  rw [State.overBookings_once found (fun c mem low => State.stepExpiry_of_not_due (below c mem low)), step]
  rw [step]
  exact fun c mem low => State.stepExpiry_of_not_due (State.no_end_after found below mem low)

end

theorem Booking.endDue_eq_none_iff (b : Booking) (now : Nat) : b.endDue now = none ↔
    (∀ w, b.state = .active w ∨ b.state = .blocked w → w.due = false) ∧
      (b.state = .armed → now ≤ b.start + acceptOf b.mode) ∧ ∀ e, b.state = .deferred e → now < e := by
  cases state : b.state with
  | pending | lead => simp [Booking.endDue, state]
  | armed | deferred e => simp [Booking.endDue, state]
  | active w | blocked w => simp [Booking.endDue, state]

/-- Settles O47: the turn of the booking is its end, and leaves no other end due below it. -/
theorem bookingWindowsRunOut : Obligations.BookingWindowsRunOut := by
  unfold Obligations.BookingWindowsRunOut
  refine ⟨Booking.endDue_eq_none_iff, fun s number b found below => ?_⟩
  have window {w : Window} {e : Ending} (opened : b.window? = some w)
      (due : b.endDue s.clock.time = some e) :
      exec (.bookingRemainingExpiry number) s = .next (s.endBooking b e) := by
    have inWindow : b.inWindow = true := by rw [Booking.inWindow, opened]; rfl
    refine congrArg Host.Outcome.next ((State.bookingTurn_of_due found rfl ?_).trans
      (State.overRemaining_once found below inWindow due))
    simp only [inWindow, due, Option.isSome_some, Bool.and_self]
  refine ⟨fun w due state => window (Booking.window?_eq_some_iff.mpr (.inr state)) ?_,
    fun w due state => window (Booking.window?_eq_some_iff.mpr (.inl state)) ?_,
    fun earlier => ⟨fun state past => ?_, fun ends state past => ?_⟩⟩
  · simp only [Booking.endDue, state, due, if_true]
  · simp only [Booking.endDue, state, due, if_true]
  all_goals have closed : b.inWindow = false := by simp [Booking.inWindow, Booking.window?, state]
  · have due : b.endDue s.clock.time = some .lapsedNoLoad := by
      simp only [Booking.endDue, state, if_pos past]
    refine congrArg Host.Outcome.next ((State.bookingTurn_of_due found
      (State.allRemaining_of_no_window_end earlier) ?_).trans
      (State.overExpiry_once found below closed due))
    rw [due]; rfl
  · have due : b.endDue s.clock.time = some .lapsedDeferred := by
      simp only [Booking.endDue, state, if_pos past]
    refine congrArg Host.Outcome.next ((State.bookingTurn_of_due found
      (State.allRemaining_of_no_window_end earlier) ?_).trans
      (State.overExpiry_once found below closed due))
    rw [due]; rfl

section
variable {s : State} {number : Nat} {b : Booking} (found : s.booking? number = some b)
include found

/-- The turn of a PENDING booking whose lead begins (R159). -/
theorem State.overLead_once (due : leadDue s b = true)
    (below : ∀ c ∈ s.bookings, c.number < number → leadDue s c = false) :
    s.overBookings (fun k => decide (k ≤ number)) State.stepLead = s.leadBooking b := by
  have own := State.number_of_booking? found
  have step : s.stepLead b = s.leadBooking b := if_pos (by simpa [leadDue] using due)
  have reserved : ZonesOnly (s.putBooking { b with state := .lead }) (s.leadBooking b) :=
    foldl_related .refl .trans (fun s z => .modZone s z _) _ b.zones
  rw [State.overBookings_once found (fun c mem low => State.stepLead_of_not_due (below c mem low)), step]
  rw [step]
  intro c mem low
  refine State.stepLead_of_not_due ?_
  rw [reserved] at mem ⊢
  obtain rfl | ⟨there, other⟩ := State.mem_putBooking mem
  · rfl
  · exact below c there (by dsimp only at other; omega)

omit found in
theorem State.stepStart_of_due (due : startDue s b = true) : s.stepStart b = s.startBooking b :=
  if_pos (by simpa [startDue] using due)

/-- The turn of a LEAD booking whose start comes (R160, R161). -/
theorem State.overStart_once (due : startDue s b = true)
    (below : ∀ c ∈ s.bookings, c.number < number → startDue s c = false)
    (others : ∀ c ∈ (s.startBooking b).bookings,
      c.number = b.number ∧ c.state ≠ .lead ∨ c.number ≠ b.number ∧ c ∈ s.bookings) :
    s.overBookings (fun k => decide (k ≤ number)) State.stepStart = s.startBooking b := by
  have own := State.number_of_booking? found
  have step := State.stepStart_of_due due
  rw [State.overBookings_once found (fun c mem low => State.stepStart_of_not_due (below c mem low)), step]
  rw [step]
  intro c mem low
  refine State.stepStart_of_not_due ?_
  have clock : (s.startBooking b).clock = s.clock := by rw [(zoneWork_startBooking s b).1]
  rw [startDue, clock]
  obtain ⟨-, started⟩ | ⟨other, there⟩ := others c mem
  · simp [started]
  · exact below c there (by omega)

end

section
variable {s : State} {b : Booking}

theorem State.startBooking_of_onLoad {w : Nat} (mode : b.mode = .onLoad w) :
    s.startBooking b = s.putBooking { b with state := .armed } := by
  simp only [State.startBooking, mode]

theorem State.startBooking_of_stopped (mode : ∀ w, b.mode ≠ .onLoad w)
    (stage : (s.wind.get b.station).stage = .hold ∨ (s.wind.get b.station).stage = .shutdown) :
    s.startBooking b = s.putBooking { b with state := .deferred (b.start + b.duration) } := by
  cases timing : b.mode with
  | onLoad w => exact absurd timing (mode w)
  | timed | repeating => rcases stage with stage | stage <;> simp only [State.startBooking, timing, stage]

theorem State.startBooking_of_open (mode : ∀ w, b.mode ≠ .onLoad w)
    (stage : (s.wind.get b.station).stage = .normal ∨ (s.wind.get b.station).stage = .caution) :
    s.startBooking b = s.openBooking b b.duration (b.start + b.duration) := by
  cases timing : b.mode with
  | onLoad w => exact absurd timing (mode w)
  | timed | repeating => rcases stage with stage | stage <;> simp only [State.startBooking, timing, stage]

end

/-- Settles O46: the turn of the booking is its step, with no earlier step to take. -/
theorem bookingLeadsAndStarts : Obligations.BookingLeadsAndStarts := by
  unfold Obligations.BookingLeadsAndStarts
  intro s number b found ends
  refine ⟨fun due below => ?_, fun due leads below => ?_⟩
  · obtain rfl := State.number_of_booking? found
    exact congrArg Host.Outcome.next ((State.bookingTurn_of_due found
      (State.allEnds_of_no_end ends) due).trans (State.overLead_once found due below))
  · have starts {t : State} (result : s.startBooking b = t)
        (others : ∀ c ∈ t.bookings,
          c.number = b.number ∧ c.state ≠ .lead ∨ c.number ≠ b.number ∧ c ∈ s.bookings) :
        exec (.bookingStart number) s = .next t := by
      subst result
      exact congrArg Host.Outcome.next ((State.bookingTurn_of_due found
        (State.allLeads_of_no_lead ends leads) due).trans (State.overStart_once found due below others))
    have put {x : BookingState} (beyond : x ≠ .lead) (c : Booking)
        (mem : c ∈ (s.putBooking { b with state := x }).bookings) :
        c.number = b.number ∧ c.state ≠ .lead ∨ c.number ≠ b.number ∧ c ∈ s.bookings := by
      obtain rfl | ⟨there, other⟩ := State.mem_putBooking mem
      · exact .inl ⟨rfl, beyond⟩
      · exact .inr ⟨other, there⟩
    refine ⟨fun w mode => starts (State.startBooking_of_onLoad mode) (put nofun),
      fun mode => ⟨fun stage => starts (State.startBooking_of_stopped mode stage) (put nofun),
        fun stage => starts (State.startBooking_of_open mode stage) fun c mem => ?_⟩⟩
    obtain ⟨same, opened⟩ | other := State.mem_openBooking mem
    · exact .inl ⟨same, fun lead => by simp [Booking.inWindow, Booking.window?, lead] at opened⟩
    · exact .inr other

end Sys2Proof.Machine
end

section
/-! The fields of a BOOK, conflicts, and the refusals of a BOOK in their order (R155, R156). -/

namespace Sys2Proof.Machine

open Sys2Proof.Safety

/-! ### The fields of a BOOK (R156) -/

/-- The mode of a BOOK and the fields of that mode are in range. -/
def modeInRange (f : WireBook) : Prop :=
  f.mode = 0 ∨ (f.mode = 1 ∧ f.accept ≤ 3600) ∨
    (f.mode = 2 ∧ 300 ≤ f.period ∧ f.period ≤ 86400 ∧ f.occurrences ≤ 255)

section
variable {f : WireBook} {m : BookingMode} {r : BookRequest}

theorem readMode_eq_some_iff : readMode f = some m ↔ modeInRange f ∧ m = bookMode f := by
  unfold readMode modeInRange bookMode
  rcases mode : f.mode with _ | _ | _ | k
  · simp [eq_comm]
  · simp only [inRange]
    by_cases h : f.accept ≤ 3600 <;> simp [h, eq_comm]
  · have fields : (inRange 300 f.period 86400 && inRange 0 f.occurrences 255) = true ↔
        300 ≤ f.period ∧ f.period ≤ 86400 ∧ f.occurrences ≤ 255 := by simp [inRange_iff, and_assoc]
    by_cases h : (inRange 300 f.period 86400 && inRange 0 f.occurrences 255) = true
    · simp [h, fields.mp h, eq_comm]
    · simp [h, ← fields]
  · simp

theorem acceptOf_bookMode : acceptOf (bookMode f) = if f.mode = 1 then f.accept else 0 := by
  unfold bookMode
  split
  · next h => simp [acceptOf, h]
  · split
    · simp [acceptOf]
    · simp [acceptOf]

/-- The zones of a BOOK whose numbers are in range. -/
theorem map_val_filterMap_ofNumber? {zs : List Nat} (h : ∀ z ∈ zs, z ≤ 63) :
    (zs.filterMap Zone.ofNumber?).map (·.val) = zs := by
  induction zs with
  | nil => rfl
  | cons z zs ih =>
    have below : z < 64 := Nat.lt_succ_of_le (h z List.mem_cons_self)
    rw [List.filterMap_cons_some (b := ⟨z, below⟩) (dif_pos below), List.map_cons,
      ih fun y mem => h y (List.mem_cons_of_mem z mem)]

theorem acceptBook_eq_some_iff : acceptBook f = some r ↔ bookInRange f ∧
    r = { zones := (countedZones f).filterMap Zone.ofNumber?, mode := bookMode f, start := f.start,
          duration := f.duration, lead := f.lead } := by
  have checks : (inRange 1 f.count 4 && (countedZones f).all (fun z => decide (z < 64))
        && decide ((countedZones f).Nodup) && inRange 60 f.duration 43200 && inRange 0 f.lead 900
        && inRange 0 f.start maxTime && decide (f.lead ≤ f.start)
        && decide (f.start + acceptOf (bookMode f) + f.duration ≤ maxTime)) = true ∧ modeInRange f ↔
      bookInRange f := by
    simp only [Bool.and_eq_true, inRange_iff, List.all_eq_true, decide_eq_true_eq, acceptOf_bookMode,
      bookInRange, modeInRange, maxTime, Nat.lt_succ_iff (m := _) (n := 63)]
    constructor
    · rintro ⟨⟨⟨⟨⟨⟨⟨⟨⟨low, high⟩, zones⟩, nodup⟩, short, long⟩, -, lead⟩, -, -⟩, early⟩, ends⟩, mode⟩
      exact ⟨low, high, zones, nodup, short, long, lead, early, mode, ends⟩
    · rintro ⟨low, high, zones, nodup, short, long, lead, early, mode, ends⟩
      exact ⟨⟨⟨⟨⟨⟨⟨⟨⟨low, high⟩, zones⟩, nodup⟩, short, long⟩, Nat.zero_le _, lead⟩, Nat.zero_le _,
        by omega⟩, early⟩, ends⟩, mode⟩
  unfold acceptBook
  rw [← checks]
  by_cases mode : modeInRange f
  · simp only [readMode_eq_some_iff.mpr ⟨mode, rfl⟩, mode, and_true]
    split
    case isTrue h => simp only [h, true_and, Option.some.injEq, eq_comm]
    case isFalse h => simp only [h, false_and, reduceCtorEq, Bool.false_eq_true]
  · have unread : readMode f = none :=
      Option.eq_none_iff_forall_not_mem.mpr fun m read => mode (readMode_eq_some_iff.mp read).1
    simp only [unread, mode, and_false, false_and, reduceCtorEq]

end

/-! ### Conflicts (R155) -/

theorem Booking.spanEnd_eq (b : Booking) (now : Nat) : b.spanEnd now = spanEndIs b now := by
  have accept : acceptOf b.mode = (match b.mode with
      | .onLoad accept => accept
      | .timed | .repeating _ _ _ => 0) := by cases b.mode <;> rfl
  unfold Booking.spanEnd spanEndIs
  cases b.state with
  | pending | lead | armed => exact congrArg (fun a => b.start + a + b.duration) accept
  | deferred e => rfl
  | blocked w | active w =>
    dsimp only
    cases w.extension <;> rfl

theorem Booking.conflictsWith_iff (b c : Booking) (now : Nat) : b.conflictsWith c now = true ↔
    b.start - b.lead < spanEndIs c now ∧ c.start - c.lead < spanEndIs b now ∧
      (b.station = c.station ∨ ∃ z ∈ b.zones, z ∈ c.zones) := by
  simp [Booking.conflictsWith, Booking.spanEnd_eq, Booking.sharesWith, Booking.spanBegin, and_assoc]

/-! ### The refusals in their order (R156) -/

/-- The request is an ON_LOAD booking. -/
def BookRequest.loads (r : BookRequest) : Prop := ∃ w, r.mode = .onLoad w

theorem BookRequest.loads_iff (r : BookRequest) :
    (match r.mode with | .onLoad _ => true | _ => false) = true ↔ r.loads := by
  unfold BookRequest.loads
  cases r.mode <;> simp

/-- Whether the flag is set takes no part in a conflict. -/
theorem State.bookingFor_conflicts (s : State) (n : Station) (locked : Bool) (r : BookRequest)
    (c : Booking) (now : Nat) :
    (s.bookingFor n locked r).conflictsWith c now = (s.bookingFor n false r).conflictsWith c now := rfl

section
variable {s : State} {n : Station} {bySupervisor locked : Bool} {r : BookRequest}

theorem State.bookInRange_disabled (requested : bySupervisor = true) (off : (s.station n).enabled = false) :
    s.bookInRange n bySupervisor locked r = (s, .disabled, .empty) := if_pos ⟨requested, off⟩

variable (enabled : ¬ (bySupervisor = true ∧ (s.station n).enabled = false))
include enabled

theorem State.bookInRange_noZone (h : ∃ z ∈ r.zones, (s.zone z).enabled = false) :
    s.bookInRange n bySupervisor locked r = (s, .noZone, .empty) := by
  have found : r.zones.any (fun z => !(s.zone z).enabled) = true := by simpa using h
  simp only [State.bookInRange, if_neg enabled, found, if_true]

variable (zones : ∀ z ∈ r.zones, (s.zone z).enabled = true)
include zones

omit enabled in
theorem State.no_zone_disabled : r.zones.any (fun z => !(s.zone z).enabled) = false := by
  simpa using zones

theorem State.bookInRange_notMember {z : Zone}
    (h : r.zones.find? (fun z => !s.isMember z n) = some z) :
    s.bookInRange n bySupervisor locked r = (s, .notMember, .zone z) := by
  simp only [State.bookInRange, if_neg enabled, State.no_zone_disabled zones,
    Bool.false_eq_true, if_false, h]

variable (members : ∀ z ∈ r.zones, s.isMember z n = true)
include members

omit enabled zones in
theorem State.no_zone_apart : r.zones.find? (fun z => !s.isMember z n) = none := by simpa using members

theorem State.bookInRange_full (h : 48 ≤ s.bookings.length) :
    s.bookInRange n bySupervisor locked r = (s, .full, .empty) := by
  simp only [State.bookInRange, if_neg enabled, State.no_zone_disabled zones,
    Bool.false_eq_true, if_false, State.no_zone_apart members, if_pos h]

variable (room : s.bookings.length < 48)
include room

theorem State.bookInRange_late (h : r.start - r.lead < s.clock.time) :
    s.bookInRange n bySupervisor locked r = (s, .late, .empty) := by
  simp only [State.bookInRange, if_neg enabled, State.no_zone_disabled zones,
    Bool.false_eq_true, if_false, State.no_zone_apart members, if_neg (Nat.not_le.mpr room)]
  exact if_pos h

variable (soon : s.clock.time ≤ r.start - r.lead)
include soon

theorem State.bookInRange_loadStart (loads : r.loads) (h : (s.station n).loadStart = false) :
    s.bookInRange n bySupervisor locked r = (s, .loadStart, .empty) := by
  simp only [State.bookInRange, if_neg enabled, State.no_zone_disabled zones,
    Bool.false_eq_true, if_false, State.no_zone_apart members, if_neg (Nat.not_le.mpr room)]
  exact (if_neg (Nat.not_lt.mpr soon)).trans (if_pos ⟨(BookRequest.loads_iff r).mpr loads, h⟩)

variable (loadStart : r.loads → (s.station n).loadStart = true)
include loadStart

theorem State.bookInRange_overlap {c : Booking} (found : (s.bookings.find? fun c =>
      (s.bookingFor n locked r).conflictsWith c s.clock.time) = some c) :
    s.bookInRange n bySupervisor locked r = (s, .overlap, .booking c.number) := by
  simp only [State.bookInRange, if_neg enabled, State.no_zone_disabled zones,
    Bool.false_eq_true, if_false, State.no_zone_apart members, if_neg (Nat.not_le.mpr room), found]
  refine (if_neg (Nat.not_lt.mpr soon)).trans (if_neg ?_)
  rintro ⟨loads, off⟩
  exact absurd (loadStart ((BookRequest.loads_iff r).mp loads)) (by simp [off])

theorem State.bookInRange_ok (found : (s.bookings.find? fun c =>
      (s.bookingFor n locked r).conflictsWith c s.clock.time) = none) :
    s.bookInRange n bySupervisor locked r = (s.admitLift (s.bookingFor n locked r),
      (s.admitLift (s.bookingFor n locked r)).admittedAnswer (s.bookingFor n locked r)) := by
  simp only [State.bookInRange, if_neg enabled, State.no_zone_disabled zones,
    Bool.false_eq_true, if_false, State.no_zone_apart members, if_neg (Nat.not_le.mpr room), found]
  refine (if_neg (Nat.not_lt.mpr soon)).trans (if_neg ?_)
  rintro ⟨loads, off⟩
  exact absurd (loadStart ((BookRequest.loads_iff r).mp loads)) (by simp [off])

end

/-- The checks of a BOOK answer as its work does, when the work's refusals are its refusals. -/
theorem bookChecked_of_work {s : State} {n : Station} {bySupervisor locked : Bool} {r : BookRequest}
    (kept : bookingTableKept s = true) {refused : Code → Data → Prop}
    (work : ∀ code x, s.bookInRange n bySupervisor locked r = (s, code, x) → refused code x) :
    bookChecked s n bySupervisor r refused := by
  unfold bookChecked
  intro conflicts
  refine ⟨fun requested off => work _ _ (State.bookInRange_disabled requested off), fun passes => ?_⟩
  have enabled : ¬ (bySupervisor = true ∧ (s.station n).enabled = false) :=
    fun ⟨requested, off⟩ => by simp [passes requested] at off
  refine ⟨fun h => work _ _ (State.bookInRange_noZone enabled h), fun zones => ⟨?_, fun members =>
    ⟨fun full => work _ _ (State.bookInRange_full enabled zones members full), fun room =>
      ⟨fun late => work _ _ (State.bookInRange_late enabled zones members room late), fun soon =>
        ⟨fun loads off => work _ _ (State.bookInRange_loadStart enabled zones members room soon loads off),
          fun loadStart c mem hit lowest => work _ _ (State.bookInRange_overlap enabled zones members
            room soon loadStart (find?_lowest (bookingTableKept_iff.mp kept).ascending mem hit
              lowest))⟩⟩⟩⟩⟩
  intro before z after split first out
  refine work _ _ (State.bookInRange_notMember enabled zones ?_)
  rw [List.find?_eq_some_iff_append]
  exact ⟨by simpa using out, before, after, split, by simpa using first⟩

end Sys2Proof.Machine
end

section
/-! The admission of a BOOK (R157, R160, R161). -/

namespace Sys2Proof.Machine

open Sys2Proof.Safety

/-! ### The table after admission -/

/-- The booking entered is the one its number finds. -/
theorem find?_insertBooking (b : Booking) (bs : List Booking) :
    (insertBooking b bs).find? (·.number = b.number) = some b := by
  induction bs with
  | nil => exact List.find?_cons_of_pos (by simp)
  | cons c bs ih =>
    unfold insertBooking
    split
    · exact List.find?_cons_of_pos (by simp)
    case isFalse above =>
      rw [List.find?_cons_of_neg (by simp; omega), ih]

section
variable {s : State} {b c : Booking}

theorem State.admittedAnswer_of_booking? (found : s.booking? b.number = some c) :
    s.admittedAnswer b = (.ok, .admitted b.number c.state (b.zones.map s.holder)) := by
  simp only [State.admittedAnswer, found]

/-- The state with a booking entered under its number (R157). -/
def State.entered (s : State) (b : Booking) : State :=
  { s.setBookings (insertBooking b s.bookings) with nextNumber := nextBookingNumber b.number }

theorem State.entered_booking? (s : State) (b : Booking) :
    (s.entered b).booking? b.number = some b := find?_insertBooking b s.bookings

theorem State.admitLift_of_pending (h : s.clock.time < b.spanBegin) : s.admitLift b = s.entered b :=
  if_neg (by omega)

theorem State.admitLift_of_lead (now : b.spanBegin = s.clock.time) (h : s.clock.time < b.start) :
    s.admitLift b = (s.entered b).leadBooking b :=
  (if_pos now).trans (if_neg (by omega))

theorem State.admitLift_of_start (now : b.spanBegin = s.clock.time) (h : b.start = s.clock.time) :
    s.admitLift b = ((s.entered b).leadBooking b).startBooking { b with state := .lead } :=
  (if_pos now).trans (if_pos h)

theorem State.reserve_only (s : State) (num : Nat) (zs : List Zone) : ZonesOnly s (s.reserve num zs) :=
  foldl_related .refl .trans (fun s z => .modZone s z _) s zs

/-- A reservation leaves every holder. -/
theorem State.reserve_holder (s : State) (num : Nat) (zs : List Zone) (z : Zone) :
    (s.reserve num zs).holder z = s.holder z := by
  refine foldl_related (R := fun s t : State => t.holder z = s.holder z) (fun _ => rfl)
    (fun h k => k.trans h) (fun s y => ?_) s zs
  simp only [State.holder, State.holding, State.modZone_get]
  split
  · next same => subst same; cases s.zones.get z <;> rfl
  · rfl

theorem State.leadBooking_booking? (found : s.booking? b.number = some c) :
    (s.leadBooking b).booking? b.number = some { b with state := .lead } := by
  have only := (s.putBooking { b with state := .lead }).reserve_only b.number b.zones
  have same : (s.leadBooking b).bookings = (s.putBooking { b with state := .lead }).bookings := by
    rw [State.leadBooking, only]
  rw [State.booking?_of_bookings same]
  exact State.putBooking_booking?_same (b := { b with state := .lead }) found

theorem State.leadBooking_holder (s : State) (b : Booking) (z : Zone) :
    (s.leadBooking b).holder z = s.holder z :=
  State.reserve_holder (s.putBooking { b with state := .lead }) b.number b.zones z

/-! ### A start (R160, R161) -/

/-- What the start of a booking leaves under its number: ARMED, DEFERRED, or open with the zones its station
then holds. -/
structure State.Started (s t : State) (b c : Booking) : Prop where
  found : t.booking? b.number = some c
  fields : c = { b with state := c.state }
  armed : ∀ w, b.mode = .onLoad w → c.state = .armed
  deferred : (∀ w, b.mode ≠ .onLoad w) →
    (s.wind.get b.station).stage = .hold ∨ (s.wind.get b.station).stage = .shutdown →
      c.state = .deferred (b.start + b.duration)
  opened : (∀ w, b.mode ≠ .onLoad w) →
    (s.wind.get b.station).stage = .normal ∨ (s.wind.get b.station).stage = .caution →
      c.state = openState b.zones
        { ends := b.start + b.duration, remaining := b.duration, extension := none,
          passed := b.zones.filter fun z => t.holds b.station z, due := false }

theorem State.openBooking_booking? (found : s.booking? b.number = some c) (remaining ends : Nat) :
    (s.openBooking b remaining ends).booking? b.number = some { b with
      state := openState b.zones
        { ends, remaining, extension := none,
          passed := b.zones.filter fun z => (s.openBooking b remaining ends).holds b.station z,
          due := false } } := by
  have first := State.putBooking_booking?_same (s := s) (b := { b with
    state := .blocked { ends, remaining, extension := none, passed := [], due := false } }) found
  have kept := (State.booking?_of_bookings (s.openedZones_kept b remaining ends).2.2 b.number).trans first
  rw [State.openBooking_eq]
  exact State.putBooking_booking?_same kept

theorem State.startBooking_started (found : s.booking? b.number = some c) :
    ∃ d, State.Started s (s.startBooking b) b d := by
  by_cases loads : ∃ w, b.mode = .onLoad w
  · obtain ⟨w, mode⟩ := loads
    rw [State.startBooking_of_onLoad mode]
    have other : ¬ ∀ w, b.mode ≠ .onLoad w := fun none => none w mode
    exact ⟨{ b with state := .armed },
      State.putBooking_booking?_same (b := { b with state := .armed }) found, rfl, fun _ _ => rfl,
      fun none => absurd none other, fun none => absurd none other⟩
  · have mode : ∀ w, b.mode ≠ .onLoad w := by simpa using loads
    have stages : ((s.wind.get b.station).stage = .hold ∨ (s.wind.get b.station).stage = .shutdown) ∨
        ((s.wind.get b.station).stage = .normal ∨ (s.wind.get b.station).stage = .caution) := by
      cases (s.wind.get b.station).stage <;> simp
    obtain stage | stage := stages
    · rw [State.startBooking_of_stopped mode stage]
      refine ⟨{ b with state := .deferred (b.start + b.duration) }, State.putBooking_booking?_same
        (b := { b with state := .deferred (b.start + b.duration) }) found, rfl,
        fun w onLoad => absurd onLoad (mode w), fun _ _ => rfl, fun _ open_ => ?_⟩
      rcases stage with stage | stage <;> simp [stage] at open_
    · rw [State.startBooking_of_open mode stage]
      refine ⟨_, State.openBooking_booking? found b.duration (b.start + b.duration), rfl,
        fun w onLoad => absurd onLoad (mode w), fun _ stopped => ?_, fun _ _ => rfl⟩
      rcases stage with stage | stage <;> simp [stage] at stopped

end

/-! ### Admission as the outcome of a request -/

/-- Admission leaves the booking entered, in LEAD, or started (R157). -/
theorem State.admitLift_cases (s : State) (b : Booking) :
    s.admitLift b = s.entered b ∨ s.admitLift b = (s.entered b).leadBooking b ∨
      s.admitLift b = ((s.entered b).leadBooking b).startBooking { b with state := .lead } := by
  by_cases now : b.spanBegin = s.clock.time
  · by_cases start : b.start = s.clock.time
    · exact .inr (.inr ((if_pos now).trans (if_pos start)))
    · exact .inr (.inl ((if_pos now).trans (if_neg start)))
  · exact .inl (if_neg now)

theorem zoneWork_leadBooking (s : State) (b : Booking) : zoneWork s (s.leadBooking b) :=
  zoneWork_trans (zoneWork_setBookings s _) (zoneWork_reserve _ _ _)

theorem zoneWork_admitLift (s : State) (b : Booking) : zoneWork (s.entered b) (s.admitLift b) := by
  obtain same | same | same := s.admitLift_cases b <;> rw [same]
  · exact zoneWork_refl _
  · exact zoneWork_leadBooking _ b
  · exact zoneWork_trans (zoneWork_leadBooking _ b) (zoneWork_startBooking _ _)

theorem Talks.admitLift (s : State) (b : Booking) : Talks s (s.admitLift b) := by
  refine Talks.trans (t := s.entered b) .of_eq ?_
  obtain same | same | same := s.admitLift_cases b <;> rw [same]
  · exact .refl _
  · exact ((Work.refl (x := ∅) (s.entered b)).leadBooking b).talks
  · exact (((Work.refl (x := ∅) (s.entered b)).leadBooking b).startBooking _).talks

/-- Reserving zones writes neither the reception of a link nor what is held back. -/
theorem State.reserve_taken (s : State) (l : Link) (num : Nat) (zs : List Zone) :
    (s.taken l).reserve num zs = (s.reserve num zs).taken l := by
  unfold State.reserve
  induction zs generalizing s with
  | nil => rfl
  | cons z zs ih =>
    have step : (s.taken l).modZone z (fun d => { d with reservation := some num }) =
        (s.modZone z fun d => { d with reservation := some num }).taken l := by
      unfold State.modZone
      rw [show (s.taken l).zones = s.zones from rfl]
      cases s.zones.get z <;> rfl
    rw [List.foldl_cons, step, ih, List.foldl_cons]

/-- The answer to a BOOK that is admitted shows what became of the booking (R157). -/
theorem admission_of_work {s : State} {n : Station} {l : Link} {say : Data → Frame} {b : Booking}
    {o : Host.Outcome State Fault Refusal} (own : b.station = n) (pending : b.state = .pending)
    (soon : s.clock.time ≤ b.spanBegin)
    (outcome : o = .next (((s.taken l).admitLift b).replies l
      (say (((s.taken l).admitLift b).admittedAnswer b).2))) : admission s n l say b o := by
  have entered := (s.taken l).entered_booking? b
  unfold admission
  intro u holders
  refine ⟨fun early => ?_, fun now later => ?_, fun start => ?_⟩
  · have admitted := State.admitLift_of_pending (s := s.taken l) early
    rw [outcome, admitted, State.admittedAnswer_of_booking? entered, pending]
    rfl
  · have admitted := State.admitLift_of_lead (s := s.taken l) now later
    have held : b.zones.map (((s.taken l).entered b).leadBooking b).holder = holders :=
      List.map_congr_left fun z _ => State.leadBooking_holder _ b z
    have reserved : ((s.taken l).entered b).leadBooking b =
        ((u.putBooking { b with state := .lead }).reserve b.number b.zones).taken l :=
      State.reserve_taken (u.putBooking { b with state := .lead }) l b.number b.zones
    rw [outcome, admitted, State.admittedAnswer_of_booking? (State.leadBooking_booking? entered), held,
      reserved]
    rfl
  · have now : b.spanBegin = s.clock.time := by
      have := b.spanBegin.le_refl
      unfold Booking.spanBegin at soon ⊢
      omega
    have lead := State.leadBooking_booking? entered
    obtain ⟨c, started⟩ := State.startBooking_started (b := { b with state := .lead }) lead
    have admitted := State.admitLift_of_start (s := s.taken l) now start
    rw [← admitted] at started
    set t := (s.taken l).admitLift b with result
    have wind : (((s.taken l).entered b).leadBooking b).wind = s.wind := by
      rw [(zoneWork_leadBooking _ b).1]; rfl
    refine ⟨_, c, outcome, started.found, started.fields, ?_, started.armed, fun mode =>
      ⟨fun stage => started.deferred mode ?_, fun stage => ?_⟩, ?_⟩
    · have found : t.booking? b.number = some c := started.found
      rw [State.admittedAnswer_of_booking? found]
      exact answered_of_talks (Talks.admitLift (s.taken l) b) _
    · rw [wind, own]; exact stage
    · rw [← own]
      exact started.opened mode (by rw [wind, own]; exact stage)
    · have number : t.nextNumber = nextBookingNumber b.number := by
        rw [result, (zoneWork_admitLift (s.taken l) b).1]; rfl
      have entered : zoneWork { s with nextNumber := t.nextNumber } ((s.taken l).entered b) := by
        rw [number]
        exact ⟨rfl, fun _ => ⟨rfl, rfl⟩⟩
      exact zoneWork_trans (zoneWork_trans entered (zoneWork_admitLift (s.taken l) b))
        (zoneWork_of_holderWork (holderWork_replies t l _))

section
variable {s : State} {n : Station} {f : WireBook} {r : BookRequest}

/-- A BOOK whose fields are in range goes on to the checks on the plan and the table (R156). -/
theorem State.bookLift_of_accepted (timeSet : s.clock.timeSet = true) (fields : acceptBook f = some r)
    (bySupervisor locked : Bool) :
    s.bookLift n bySupervisor locked f = s.bookInRange n bySupervisor locked r := by
  simp only [State.bookLift, timeSet, Bool.true_eq_false, if_false, fields]

theorem State.bookLift_timeUnset (h : s.clock.timeSet = false) (bySupervisor locked : Bool) :
    s.bookLift n bySupervisor locked f = (s, .timeUnset, .empty) := if_pos h

theorem State.bookLift_range (timeSet : s.clock.timeSet = true) (fields : acceptBook f = none)
    (bySupervisor locked : Bool) :
    s.bookLift n bySupervisor locked f = (s, .range, .empty) := by
  simp only [State.bookLift, timeSet, Bool.true_eq_false, if_false, fields]

theorem State.supervisorBookLift_of_station {k locked : Nat} (timeSet : s.clock.timeSet = true)
    (station : Station.ofNumber? k = some n) (flag : locked ≤ 1) :
    s.supervisorBookLift k locked f = s.bookLift n true (yesNo locked) f := by
  have ok : yesNoOk locked = true := by simpa [yesNoOk] using flag
  simp only [State.supervisorBookLift, timeSet, Bool.true_eq_false, if_false, station, ok]

theorem State.supervisorBookLift_timeUnset {k locked : Nat} (h : s.clock.timeSet = false) :
    s.supervisorBookLift k locked f = (s, .timeUnset, .empty) := if_pos h

theorem State.supervisorBookLift_range {k locked : Nat} (timeSet : s.clock.timeSet = true)
    (h : Station.ofNumber? k = none ∨ 1 < locked ∨ acceptBook f = none) :
    s.supervisorBookLift k locked f = (s, .range, .empty) := by
  cases station : Station.ofNumber? k with
  | none => simp only [State.supervisorBookLift, timeSet, Bool.true_eq_false, if_false, station]
  | some n =>
    obtain unnamed | flag | fields := h
    · rw [station] at unnamed; cases unnamed
    · have bad : yesNoOk locked = false := by simpa [yesNoOk] using flag
      simp only [State.supervisorBookLift, timeSet, Bool.true_eq_false, if_false, station, bad, if_true]
    · by_cases flag : locked ≤ 1
      · rw [State.supervisorBookLift_of_station timeSet station flag,
          State.bookLift_range timeSet fields]
      · have bad : yesNoOk locked = false := by simpa [yesNoOk] using flag
        simp only [State.supervisorBookLift, timeSet, Bool.true_eq_false, if_false, station, bad,
          if_true]

/-- A BOOK that passes its checks is admitted (R156, R157). -/
theorem State.bookInRange_of_bookable {bySupervisor locked : Bool}
    (h : bookable s n bySupervisor r) : s.bookInRange n bySupervisor locked r =
      (s.admitLift (s.bookingFor n locked r),
        (s.admitLift (s.bookingFor n locked r)).admittedAnswer (s.bookingFor n locked r)) := by
  obtain ⟨enabled, zones, room, soon, loads, apart⟩ := h
  have passes : ¬ (bySupervisor = true ∧ (s.station n).enabled = false) :=
    fun ⟨requested, off⟩ => by simp [enabled requested] at off
  refine State.bookInRange_ok passes (fun z mem => (zones z mem).1) (fun z mem => (zones z mem).2) room
    soon loads (List.find?_eq_none.mpr fun c mem => ?_)
  rw [State.bookingFor_conflicts, apart c mem]
  nofun

/-- What the admission of a booking answers, as a frame's data. -/
theorem State.admittedAnswer_ok (s : State) (b : Booking) :
    s.admittedAnswer b = (.ok, (s.admittedAnswer b).2) := rfl

end

/-- Settles O42: the fields read, the refusals in the order of the checks, and the booking entered. -/
theorem bookIsAdmitted : Obligations.BookIsAdmitted := by
  unfold Obligations.BookIsAdmitted
  refine ⟨fun f => ⟨?_, fun r accepted => ?_⟩, Booking.conflictsWith_iff, fun s n f => ?_,
    fun s tag k locked f => ?_, fun s n f r idle timeSet accepted => ⟨fun online bookable => ?_,
      fun tag k locked station bookable => ?_⟩⟩
  · rw [Option.isSome_iff_exists]
    exact ⟨fun ⟨r, accepted⟩ => (acceptBook_eq_some_iff.mp accepted).1,
      fun within => ⟨_, acceptBook_eq_some_iff.mpr ⟨within, rfl⟩⟩⟩
  · obtain ⟨⟨-, -, zones, -⟩, rfl⟩ := acceptBook_eq_some_iff.mp accepted
    exact ⟨map_val_filterMap_ofNumber? zones, rfl, rfl, rfl, rfl⟩
  · intro refused
    refine ⟨fun off => congrArg Host.Outcome.next (State.bookingRequest_of_not_online off),
      fun idle kept online => ?_⟩
    have answers {code : Code} {x : Data}
        (h : (s.taken (.crane n)).bookLift n false false f = (s.taken (.crane n), code, x)) :
        refused code x :=
      congrArg Host.Outcome.next ((State.bookingRequest_of_nothingDue idle _ _ _).trans
        (onlineRequest_of_unchanged online h))
    refine ⟨fun unset => answers
      (State.bookLift_timeUnset (s := s.taken (.crane n)) unset _ _), fun timeSet =>
      ⟨fun bad => answers
        (State.bookLift_range (s := s.taken (.crane n)) timeSet bad _ _), fun r accepted => ?_⟩⟩
    exact bookChecked_of_work (s := s.taken (.crane n)) (locked := false) kept fun code x work =>
      answers ((State.bookLift_of_accepted (s := s.taken (.crane n)) timeSet accepted _ _).trans work)
  · intro refused idle kept
    have answers {code : Code} {x : Data}
        (h : (s.taken .supervisor).supervisorBookLift k locked f = (s.taken .supervisor, code, x)) :
        refused code x :=
      congrArg Host.Outcome.next ((State.bookingCommand_of_nothingDue idle _ _ _).trans
        (command_of_unchanged (work := fun s => s.supervisorBookLift k locked f) h))
    refine ⟨fun unset => answers (State.supervisorBookLift_timeUnset unset), fun timeSet =>
      ⟨fun bad => answers (State.supervisorBookLift_range timeSet bad),
        fun n r station flag accepted => ?_⟩⟩
    exact bookChecked_of_work (s := s.taken .supervisor) (locked := yesNo locked) kept
      fun code x work => answers ((State.supervisorBookLift_of_station (s := s.taken .supervisor)
        timeSet station flag).trans
        ((State.bookLift_of_accepted (s := s.taken .supervisor) timeSet accepted _ _).trans work))
  · have work := (State.bookLift_of_accepted (s := s.taken (.crane n)) (n := n) timeSet accepted false
      false).trans (State.bookInRange_of_bookable (s := s.taken (.crane n)) bookable)
    rw [State.admittedAnswer_ok] at work
    exact admission_of_work rfl rfl bookable.2.2.2.1 (congrArg Host.Outcome.next
      ((State.bookingRequest_of_nothingDue idle _ _ _).trans (onlineRequest_of_work online work)))
  · have flag : yesNo (if locked then 1 else 0) = locked := by cases locked <;> rfl
    have low : (if locked then 1 else 0) ≤ 1 := by cases locked <;> decide
    have work := ((State.supervisorBookLift_of_station (s := s.taken .supervisor) (f := f) timeSet
      station low).trans (State.bookLift_of_accepted (s := s.taken .supervisor) (n := n) timeSet
        accepted true _)).trans (State.bookInRange_of_bookable (s := s.taken .supervisor) bookable)
    rw [flag, State.admittedAnswer_ok] at work
    exact admission_of_work rfl rfl bookable.2.2.2.1 (congrArg Host.Outcome.next
      ((State.bookingCommand_of_nothingDue idle _ _ _).trans (command_of_work
        (work := fun s => s.supervisorBookLift k (if locked then 1 else 0) f) work)))

end Sys2Proof.Machine
end

section
/-! The links: refusals, sending, and a frame that fails its check (R179, R192 to R194). -/

namespace Sys2Proof.Machine

open Sys2Proof.Safety

/-! ### The commands that frames carry -/

/-- A frame can carry the command. -/
def carried : Instr → Bool
  | .powerOn | .tick | .windowClose | .windCycleReadingEnd _ | .echoWaitExpiry | .runWatchEnd
  | .checkingTimeout _ | .sensorSilent _ | .dropDwellExpiry _ | .sstopAsserted
  | .sstopWithdrawn | .clearanceTimerExpiry _ | .badCheckFrame _ _ | .waitingFrameSent _
  | .reportTimerExpiry _ | .linkDwellExpiry _ | .entryTimerExpiry _ | .releaseDwellExpiry _
  | .bookingLead _ | .bookingStart _ | .bookingRemainingExpiry _ | .acceptWindowExpiry _
  | .deferredWindowExpiry _ | .timeMark _ | .atTimeCommitMoment | .storeWriteEnd _
  | .zeroLengthCollectionEnd _ => false
  | _ => true

/-- A frame is handled as the command it spells. -/
theorem State.takeFrame_of_carried {i : Instr} (h : carried i = true) (s : State) :
    s.takeFrame i = afterMeaning s (exec i s) := by
  cases i with
  | powerOn | tick | windowClose | windCycleReadingEnd | echoWaitExpiry | runWatchEnd
  | checkingTimeout | sensorSilent | dropDwellExpiry | sstopAsserted | sstopWithdrawn
  | clearanceTimerExpiry | badCheckFrame | waitingFrameSent | reportTimerExpiry | linkDwellExpiry
  | entryTimerExpiry | releaseDwellExpiry | bookingLead | bookingStart | bookingRemainingExpiry
  | acceptWindowExpiry | deferredWindowExpiry | timeMark | atTimeCommitMoment | storeWriteEnd
  | zeroLengthCollectionEnd => cases h
  | _ => rfl

theorem carried_of_craneLayout {n : Station} {kind : Byte} {w : Nat} {spell : List Byte → Instr}
    (h : craneLayout n kind = some (w, spell)) (p : List Byte) : carried (spell p) = true := by
  unfold craneLayout at h
  split_ifs at h <;> cases h <;> rfl

/-- A layout spells a command that a frame can carry. -/
def LayoutCarried (layout : Option (Nat × Instr)) : Prop :=
  ∀ w i, layout = some (w, i) → carried i = true

theorem LayoutCarried.some {w : Nat} {i : Instr} (h : carried i = true) :
    LayoutCarried (some (w, i)) := by
  rintro _ _ ⟨⟩
  exact h

theorem LayoutCarried.ite {c : Prop} [Decidable c] {a b : Option (Nat × Instr)}
    (ha : LayoutCarried a) (hb : LayoutCarried b) : LayoutCarried (if c then a else b) := by
  split
  · exact ha
  · exact hb

theorem layoutCarried_commandLayout (tag : Nat) (code : Byte) (p : List Byte) :
    LayoutCarried (commandLayout tag code p) := by
  unfold commandLayout
  iterate 32 refine .ite (.some rfl) ?_
  exact fun _ _ none => nomatch none

theorem carried_classify (l : Link) (f : Taken) : carried (classify l f) = true := by
  cases l with
  | crane n =>
    change carried (classifyCrane n f) = true
    unfold classifyCrane
    split
    · rfl
    next layout =>
      split
      · exact carried_of_craneLayout layout _
      · rfl
  | supervisor =>
    change carried (classifySupervisor f) = true
    unfold classifySupervisor
    split
    · split
      · split
        · rfl
        next layout =>
          split
          · exact layoutCarried_commandLayout _ _ _ _ _ layout
          · rfl
      · rfl
    · rfl

/-! ### Hunting (R193) -/

/-- Without a start byte nothing is taken. -/
theorem hunt_of_no_start {bytes : List Byte} (h : ∀ b ∈ bytes, b ≠ 0xA5#8) (fuel : Nat) :
    hunt fuel bytes = ([], none) := by
  induction fuel generalizing bytes with
  | zero => rfl
  | succ fuel ih =>
    cases bytes with
    | nil => rfl
    | cons b bytes =>
      rw [hunt, if_neg (h b List.mem_cons_self)]
      exact ih fun c mem => h c (List.mem_cons_of_mem b mem)

theorem exec_badCheckFrame_of_nothing {s : State} {l : Link} {frame : List Byte}
    {rest : Option (List Byte)} (h : huntAgain frame.tail = ([], rest)) :
    exec (.badCheckFrame l frame) s = .next (s.setRx l (Rx.ofHunt rest)) := by
  have again : s.rehunt l frame.tail = (s.setRx l .hunting).setRx l (Rx.ofHunt rest) := by
    simp only [State.rehunt, h, List.map_nil, List.foldl_nil]
  have table : (s.rx.set l .hunting).set l (Rx.ofHunt rest) = s.rx.set l (Rx.ofHunt rest) := by
    refine PerLink.eq_of_get fun k => ?_
    by_cases same : k = l
    · rw [same, PerLink.get_set_same, PerLink.get_set_same]
    · rw [PerLink.get_set_ne same, PerLink.get_set_ne same, PerLink.get_set_ne same]
  exact congrArg Host.Outcome.next (again.trans (congrArg (fun r => { s with rx := r }) table))

/-- Settles O60: the refusals answered at once, the queue of a link, and the frames a hunt finds. -/
theorem linksRefuseHuntAndSend : Obligations.LinksRefuseHuntAndSend := by
  unfold Obligations.LinksRefuseHuntAndSend
  refine ⟨fun s l kind payload => ⟨?_, ?_, ?_, rfl, fun empty => ?_, fun f rest waits => ?_⟩,
    fun s l frame => ⟨fun silent => ?_, fun bytes found => exec_badCheckFrame_of_nothing found,
      fun f found => ?_⟩⟩
  · rintro n rfl
    exact ⟨congrArg Host.Outcome.next (handle_of_unchanged rfl),
      congrArg Host.Outcome.next (handle_of_unchanged rfl)⟩
  · rintro rfl tag cmd rest rfl
    exact ⟨congrArg Host.Outcome.next (handle_of_unchanged rfl),
      congrArg Host.Outcome.next (handle_of_unchanged rfl)⟩
  · rintro rfl short
    have refusal (code : Code) : refusalFrame .supervisor kind payload code =
        .answerSL 0 0 code .empty := by
      match payload, short with
      | [], _ => rfl
      | [b], _ => rfl
    rw [← refusal, ← refusal]
    exact ⟨congrArg Host.Outcome.next (handle_of_unchanged rfl),
      congrArg Host.Outcome.next (handle_of_unchanged rfl)⟩
  · refine congrArg (fun t => Host.Outcome.next (s.setTx l t)) ?_
    rw [Tx.sent, empty]; rfl
  · refine congrArg (fun t => Host.Outcome.next (s.setTx l t)) ?_
    rw [Tx.sent, waits]; rfl
  · exact exec_badCheckFrame_of_nothing (hunt_of_no_start silent _)
  · obtain ⟨t, meaning, -⟩ := everyCommandGoesOnAndKeepsTheQueue (classify l f) (s.setRx l .hunting)
    refine ⟨t, meaning, congrArg Host.Outcome.next ?_⟩
    have taken := State.takeFrame_of_carried (carried_classify l f) (s.setRx l .hunting)
    rw [meaning] at taken
    simp only [State.rehunt, found, List.map_cons, List.map_nil, List.foldl_cons, List.foldl_nil, taken]
    rfl

end Sys2Proof.Machine
end

section
/-! ACK_ALARM (R187), and what a re-evaluation of the motion permit writes. -/

namespace Sys2Proof.Machine

open Sys2Proof.Safety

/-! ### What a re-evaluation of the permit writes (R39, R73) -/

/-- Of one station the motion permit and the limits, but not v_wind, may differ, and nothing else does. -/
structure PermitFrame (m : Station) (s t : State) : Prop where
  frame : t = { s with ctx := t.ctx, lim := t.lim }
  own : t.ctx.get m = { s.ctx.get m with mp := (t.ctx.get m).mp }
  speed : (t.lim.get m).vWind = (s.lim.get m).vWind
  others : ∀ k, k ≠ m → t.ctx.get k = s.ctx.get k ∧ t.lim.get k = s.lim.get k

theorem PermitFrame.refl (m : Station) (s : State) : PermitFrame m s s :=
  ⟨rfl, rfl, rfl, fun _ _ => ⟨rfl, rfl⟩⟩

theorem PermitFrame.trans {m : Station} {s t u : State} (h : PermitFrame m s t) (k : PermitFrame m t u) :
    PermitFrame m s u where
  frame := by
    calc u = { t with ctx := u.ctx, lim := u.lim } := k.frame
      _ = { s with ctx := u.ctx, lim := u.lim } := by rw [h.frame]
  own := k.own.trans (by rw [h.own])
  speed := k.speed.trans h.speed
  others := fun j ne => ⟨(k.others j ne).1.trans (h.others j ne).1, (k.others j ne).2.trans (h.others j ne).2⟩

theorem PermitFrame.recompute (s : State) (m : Station) : PermitFrame m s (s.recompute m) := by
  obtain ⟨l, written, speed⟩ := s.recompute_cases m
  rw [written]
  exact ⟨rfl, rfl, by simpa using speed, fun k ne => ⟨rfl, by simp [ne]⟩⟩

theorem PermitFrame.reevalPermit (s : State) (m : Station) : PermitFrame m s (s.reevalPermit m) := by
  rcases s.reevalPermit_cases m with ⟨-, e⟩ | ⟨-, e⟩ <;> rw [e]
  · exact .refl m s
  · refine PermitFrame.trans (t := s.setCtx m _) ⟨rfl, by simp, rfl, fun k ne => ⟨by simp [ne], rfl⟩⟩
      (.recompute _ m)

/-! ### The entries a kind and a scope name (R185) -/

theorem Addr.ofNumber?_isSome {k : Nat} : (Addr.ofNumber? k).isSome = true ↔ 1 ≤ k ∧ k ≤ 4 := by
  match k with
  | 0 | 1 | 2 | 3 | 4 => decide
  | k + 5 => simp [Addr.ofNumber?]

theorem AlarmKind.entry?_isSome (k : AlarmKind) (scope : Nat) : (k.entry? scope).isSome = true ↔
    (k.priority ∈ [1, 2, 11, 12, 13] ∧ scope = 0) ∨
      (3 ≤ k.priority ∧ k.priority ≤ 8 ∧ 1 ≤ scope ∧ scope ≤ 6) ∨
      (9 ≤ k.priority ∧ k.priority ≤ 10 ∧ 1 ≤ scope ∧ scope ≤ 4) := by
  cases k <;>
    simp [AlarmKind.entry?, AlarmKind.priority, ← Station.ofNumber?_isSome, ← Addr.ofNumber?_isSome]

theorem AlarmKind.ofPriority?_eq_some_iff {p : Nat} {k : AlarmKind} :
    AlarmKind.ofPriority? p = some k ↔ k.priority = p := by
  constructor
  · intro found
    simpa using List.find?_some found
  · rintro rfl
    cases k <;> rfl

theorem AlarmKind.exists_priority {p : Nat} (low : 1 ≤ p) (high : p ≤ 13) :
    ∃ k : AlarmKind, k.priority = p := by
  have each : ∀ q : Fin 14, 1 ≤ q.val → ∃ k ∈ AlarmKind.all, k.priority = q.val := by decide
  obtain ⟨k, -, priority⟩ := each ⟨p, by omega⟩ low
  exact ⟨k, priority⟩

theorem AlarmKind.kind_of_entry? {k : AlarmKind} {scope : Nat} {i : AlarmId}
    (h : k.entry? scope = some i) : i.kind = k := by
  have site {j : AlarmId} (h : (if scope = 0 then some j else none) = some i) : i = j := by
    split at h
    · exact (Option.some.inj h).symm
    · cases h
  cases k with
  | planInvalid | siteStop | timeSlip | storeFailed | commitFailed => rw [site h]; rfl
  | unsafeVane | intrusion | conflict | clearanceOverdue | windLost | linkStale | sensorFailed
  | sensorFault => obtain ⟨_, -, rfl⟩ := Option.map_eq_some_iff.mp h; rfl

/-! ### The acknowledgement of an entry (R187) -/

section
variable {s : State} {i : AlarmId}

theorem State.ackEntry_of_clear (h : (s.alarms.get i).state = .clear) :
    s.ackEntry i = (s, .noAlarm, .empty) := if_pos h

theorem State.ackEntry_of_stands (h : (s.alarms.get i).state ≠ .clear) :
    s.ackEntry i = ((s.setEntry i ((s.alarms.get i).acked i.kind.latchClass)).toldAcked i, .ok,
      .entryState ((s.alarms.get i).acked i.kind.latchClass).state) := if_neg h

theorem Entry.acked_eq {e : Entry} {c : LatchClass} (stands : e.state ≠ .clear)
    (class_ : e.state = .latched → c = .latching ∨ c = .sensorLatching) :
    e.acked c = (if e.state = .active then ⟨.active, true⟩
      else if c = .latching then ⟨.clear, false⟩ else ⟨.latched, true⟩) := by
  obtain ⟨state, ack⟩ := e
  cases state with
  | clear => exact absurd rfl stands
  | active => rfl
  | latched => obtain rfl | rfl := class_ rfl <;> rfl

/-- What an acknowledgement writes beside its entry: unsafe vane latched, a permit and limits (R141). -/
def AckFrame (s t : State) : Prop := t = { s with vane := t.vane, ctx := t.ctx, lim := t.lim }

theorem AckFrame.unsafeCleared (s : State) (n : Station) : AckFrame s (s.unsafeCleared n) := by
  unfold State.unsafeCleared
  split
  · have frame := (PermitFrame.reevalPermit
      (s.setVane n { s.vane.get n with unsafeLatched := false }) n).frame
    unfold AckFrame
    rw [frame]; rfl
  · rfl

theorem AckFrame.toldAcked (s : State) (i : AlarmId) : AckFrame s (s.toldAcked i) := by
  unfold State.toldAcked
  split
  · exact .unsafeCleared s _
  · rfl

/-- Unsafe vane latched goes with its entry (R141). -/
theorem State.unsafeCleared_latched (s : State) (n : Station)
    (h : (s.alarms.get (.unsafeVane n)).state = .clear) :
    ((s.unsafeCleared n).vane.get n).unsafeLatched = false := by
  unfold State.unsafeCleared
  split
  · rw [State.reevalPermit_vane]
    simp
  case isFalse other =>
    simpa [h] using other

theorem Talks.unsafeCleared (s : State) (n : Station) : Talks s (s.unsafeCleared n) := by
  unfold State.unsafeCleared
  split
  · exact Talks.trans (t := s.setVane n _) .of_eq (.reevalPermit _ n)
  · exact .refl s

theorem Talks.toldAcked (s : State) (i : AlarmId) : Talks s (s.toldAcked i) := by
  unfold State.toldAcked
  split
  · exact .unsafeCleared s _
  · exact .refl s

end

/-- Settles O57: the entries named, the refusals, and the entry moved by its state and class. -/
theorem acknowledgementActsOnItsEntry : Obligations.AcknowledgementActsOnItsEntry := by
  unfold Obligations.AcknowledgementActsOnItsEntry
  refine ⟨?_, fun s tag priority scope k i kind entry => ?_⟩
  · intro s tag priority scope named
    refine ⟨fun h => ?_, fun h => ?_⟩
    · obtain ⟨k, rfl⟩ : ∃ k : AlarmKind, k.priority = priority := by
        simp only [named, List.mem_cons, List.not_mem_nil, or_false] at h
        exact AlarmKind.exists_priority (by omega) (by omega)
      obtain ⟨i, entry⟩ := Option.isSome_iff_exists.mp ((k.entry?_isSome scope).mpr h)
      exact ⟨k, i, AlarmKind.ofPriority?_eq_some_iff.mpr rfl, entry⟩
    · have unnamed : (AlarmKind.ofPriority? priority).bind (fun k => k.entry? scope) = none := by
        refine Option.bind_eq_none_iff.mpr fun k kind => ?_
        obtain rfl := AlarmKind.ofPriority?_eq_some_iff.mp kind
        rw [← Option.not_isSome_iff_eq_none, AlarmKind.entry?_isSome]
        exact h
      refine congrArg Host.Outcome.next
        (command_of_unchanged (work := fun s => s.ackAlarm priority scope) ?_)
      simp only [State.ackAlarm, unnamed]
  · intro e
    have named : (AlarmKind.ofPriority? priority).bind (fun k => k.entry? scope) = some i := by
      rw [kind, Option.bind_some, entry]
    refine ⟨fun clear => ?_, fun stands class_ => ?_⟩
    · refine congrArg Host.Outcome.next
        (command_of_unchanged (work := fun s => s.ackAlarm priority scope) ?_)
      have refused := State.ackEntry_of_clear (s := s.taken .supervisor) clear
      simp only [State.ackAlarm, named, refused]
    · have own := AlarmKind.kind_of_entry? entry
      set f := e.acked i.kind.latchClass with acked
      set u := (s.taken .supervisor).setEntry i f with written
      have work : (s.taken .supervisor).ackAlarm priority scope =
          (u.toldAcked i, .ok, .entryState f.state) := by
        have moved := State.ackEntry_of_stands (s := s.taken .supervisor) stands
        simp only [State.ackAlarm, named, moved]
        rfl
      set v := u.toldAcked i with told
      have frame : v = { u with vane := v.vane, ctx := v.ctx, lim := v.lim } := AckFrame.toldAcked u i
      have entries : v.alarms = s.alarms.set i f := by rw [frame]; rfl
      have here : (v.replies .supervisor (.answerSL tag 0x38 .ok (.entryState f.state))).alarms.get i =
          f := by
        rw [show (v.replies .supervisor _).alarms = v.alarms from rfl, entries, AlarmTable.get_set_same]
      refine ⟨_, congrArg Host.Outcome.next (command_of_work (work := fun s => s.ackAlarm priority scope)
        work), ?_, fun j other => ?_, ?_, ?_, ?_⟩
      · rw [here, acked, Entry.acked_eq stands (own ▸ class_), own]
      · exact (congrArg (·.get j) entries).trans (AlarmTable.get_set_ne other)
      · rintro n rfl clear
        rw [here] at clear
        have entry : (u.alarms.get (.unsafeVane n)).state = .clear := by
          rwa [written, State.setEntry_alarms, AlarmTable.get_set_same]
        exact State.unsafeCleared_latched u n entry
      · rw [here]
        exact answered_of_talks (Talks.trans (t := u) .of_eq (.toldAcked u i)) _
      · rw [State.replies, frame]; rfl

end Sys2Proof.Machine
end

section
/-! Work that writes one station's own contexts, and HELLO (R25, R26). -/

namespace Sys2Proof.Machine

open Sys2Proof.Safety

/-! ### Work on one station's contexts -/

/-- Of the contexts of the blocks those of one station alone may differ, its station context in the motion
permit alone; of the alarms CLEARANCE_OVERDUE of that station alone; beside them frames are raised. -/
structure OwnFrame (m : Station) (s t : State) : Prop where
  frame : t = { s with ctx := t.ctx, lim := t.lim, vane := t.vane, alarms := t.alarms, attn := t.attn,
                       held := t.held, tx := t.tx }
  own : t.ctx.get m = { s.ctx.get m with mp := (t.ctx.get m).mp }
  others : ∀ k, k ≠ m → t.ctx.get k = s.ctx.get k ∧ t.lim.get k = s.lim.get k ∧ t.vane.get k = s.vane.get k
  alarms : ∀ i, i ≠ .clearanceOverdue m → t.alarms.get i = s.alarms.get i

section
variable {m : Station} {s t u : State}

theorem OwnFrame.refl (m : Station) (s : State) : OwnFrame m s s :=
  ⟨rfl, rfl, fun _ _ => ⟨rfl, rfl, rfl⟩, fun _ _ => rfl⟩

theorem OwnFrame.trans (h : OwnFrame m s t) (k : OwnFrame m t u) : OwnFrame m s u where
  frame := by
    calc u = { t with ctx := u.ctx, lim := u.lim, vane := u.vane, alarms := u.alarms, attn := u.attn,
                      held := u.held, tx := u.tx } := k.frame
      _ = { s with ctx := u.ctx, lim := u.lim, vane := u.vane, alarms := u.alarms, attn := u.attn,
                   held := u.held, tx := u.tx } := by rw [h.frame]
  own := k.own.trans (by rw [h.own])
  others := fun j ne => ⟨(k.others j ne).1.trans (h.others j ne).1,
    (k.others j ne).2.1.trans (h.others j ne).2.1, (k.others j ne).2.2.trans (h.others j ne).2.2⟩
  alarms := fun i ne => (k.alarms i ne).trans (h.alarms i ne)

theorem OwnFrame.of_permit (h : PermitFrame m s t) : OwnFrame m s t where
  frame := by rw [h.frame]
  own := h.own
  others := fun k ne => ⟨(h.others k ne).1, (h.others k ne).2, by rw [h.frame]⟩
  alarms := fun i _ => by rw [h.frame]

theorem OwnFrame.setLim (s : State) (m : Station) (l : LimitCtx) : OwnFrame m s (s.setLim m l) :=
  ⟨rfl, rfl, fun k ne => ⟨rfl, by simp [ne], rfl⟩, fun _ _ => rfl⟩

theorem OwnFrame.setVane (s : State) (m : Station) (c : VaneCtx) : OwnFrame m s (s.setVane m c) :=
  ⟨rfl, rfl, fun k ne => ⟨rfl, rfl, by simp [ne]⟩, fun _ _ => rfl⟩

theorem OwnFrame.setOverdue (s : State) (m : Station) (b : Bool) : OwnFrame m s (s.setOverdue m b) := by
  unfold State.setOverdue
  extract_lets c
  split
  · exact .refl m s
  · refine (OwnFrame.setVane s m { c with overdue := b }).trans ?_
    have alarm := AlarmFrame.alarmIs (s.setVane m { c with overdue := b }) (.clearanceOverdue m) b
    refine ⟨by rw [alarm], by rw [alarm.ctx], fun k _ => ⟨by rw [alarm.ctx], by rw [alarm], by rw [alarm.vane]⟩,
      fun i ne => ?_⟩
    rw [State.alarmIs_get, if_neg ne]

theorem OwnFrame.judgeClear (s : State) (m : Station) : OwnFrame m s (s.judgeClear m) := by
  unfold State.judgeClear
  extract_lets c
  split
  · exact (OwnFrame.setVane s m _).trans (.setOverdue _ m _)
  · exact .refl m s

theorem OwnFrame.setVWind (s : State) (m : Station) (v : Nat) : OwnFrame m s (s.setVWind m v) := by
  unfold State.setVWind
  extract_lets l t
  have set : OwnFrame m s t := .setLim s m _
  split
  · exact set
  · exact (set.trans (.of_permit (.reevalPermit t m))).trans (.judgeClear _ m)

end

/-! ### HELLO (R25, R26) -/

theorem State.permit_of_not_online {s : State} {n : Station} (h : (s.ctx.get n).link ≠ .online) :
    s.permit n = false := by
  unfold State.permit permitCondition
  cases link : (s.ctx.get n).link <;> simp_all

theorem State.reevalPermit_mp (s : State) (n : Station) :
    ((s.reevalPermit n).ctx.get n).mp = (s.reevalPermit n).permit n :=
  permitFollows_iff.mp (permitFollows_reevalPermit_self s n)

/-- The end of LINK_STALE with a station's stale link (R26). -/
theorem State.staleEnds_get (s : State) (n : Station) (was : LinkState) (i : AlarmId) :
    (s.staleEnds n was).alarms.get i =
      if was = .stale ∧ i = .linkStale n then (s.alarms.get i).ends .temporary else s.alarms.get i := by
  unfold State.staleEnds
  by_cases stale : was = .stale
  · rw [if_pos stale, State.alarmEnds_get]
    by_cases same : i = .linkStale n
    · subst same; simp [stale]; rfl
    · simp [same]
  · simp [stale]

theorem AlarmFrame.staleEnds (s : State) (n : Station) (was : LinkState) :
    AlarmFrame s (s.staleEnds n was) := by
  unfold State.staleEnds
  split
  · exact .alarmEnds s _
  · exact .refl s

/-- The context of a station as HELLO leaves it, but for the motion permit (R26). -/
def StationCtx.joining (c : StationCtx) (offlineDwell : Nat) : StationCtx :=
  { c with link := .joining, linkDwell := .running offlineDwell, reportTimer := .stopped, rise := none,
           profileHeld := false }

section
variable {s : State} {n : Station} {identity : Nat}

theorem State.helloRefusal_cases : s.helloRefusal n identity =
    if s.plan.invalid = true then some .noPlan else if (s.station n).enabled = false then some .disabled
      else if identity ≠ (s.station n).identity then some .wrongCrane else none := rfl

theorem State.hello_refused {code : Code} (h : s.helloRefusal n identity = some code) :
    s.hello n identity = (s, code, .empty) := by simp only [State.hello, h]

theorem State.hello_accepted (h : s.helloRefusal n identity = none) :
    s.hello n identity = (s.join n, .ok, .joined n s.plan.revision (s.ctx.get n).link) := by
  simp only [State.hello, h]

/-- The state before the speed of a joining station is set. -/
def State.joinTold (s : State) (n : Station) : State :=
  (s.setCtx n ((s.ctx.get n).joining (s.station n).offlineDwell)).staleEnds n (s.ctx.get n).link

theorem State.joinTold_frame (s : State) (n : Station) : s.joinTold n =
    { s with
      ctx := s.ctx.set n ((s.ctx.get n).joining (s.station n).offlineDwell)
      alarms := (s.joinTold n).alarms, attn := (s.joinTold n).attn, held := (s.joinTold n).held
      tx := (s.joinTold n).tx } := AlarmFrame.staleEnds _ _ _

theorem State.join_own (s : State) (n : Station) : OwnFrame n (s.joinTold n) (s.join n) :=
  (OwnFrame.setVWind (s.joinTold n) n 0).trans (.of_permit (.reevalPermit _ n))

theorem State.join_ctx (s : State) (n : Station) : (s.join n).ctx.get n =
    { (s.ctx.get n).joining (s.station n).offlineDwell with mp := false } := by
  have told : (s.joinTold n).ctx.get n = (s.ctx.get n).joining (s.station n).offlineDwell := by
    rw [State.joinTold_frame]
    exact PerStation.get_set_same _ _ _
  have own := (s.join_own n).own
  rw [told] at own
  have off : (s.join n).permit n = false := State.permit_of_not_online (by rw [own]; nofun)
  have permit : ((s.join n).ctx.get n).mp = (s.join n).permit n := State.reevalPermit_mp _ n
  rw [own, permit, off]

theorem State.join_vWind (s : State) (n : Station) : ((s.join n).lim.get n).vWind = 0 :=
  (PermitFrame.reevalPermit _ n).speed.trans (State.setVWind_vWind _ n 0)

theorem State.join_others (s : State) {n m : Station} (ne : m ≠ n) :
    (s.join n).ctx.get m = s.ctx.get m ∧ (s.join n).lim.get m = s.lim.get m ∧
      (s.join n).vane.get m = s.vane.get m := by
  obtain ⟨ctx, lim, vane⟩ := (s.join_own n).others m ne
  refine ⟨ctx.trans ?_, lim.trans ?_, vane.trans ?_⟩ <;> rw [State.joinTold_frame]
  exact PerStation.get_set_ne ne

theorem Talks.join (s : State) (n : Station) : Talks s (s.join n) := by
  unfold State.join
  extract_lets c t
  refine Talks.trans (t := t) .of_eq ?_
  have ended : Talks t (t.staleEnds n c.link) := by
    unfold State.staleEnds
    split
    · exact .of_eq
    · exact .refl t
  exact ended.trans (((Work.refl (x := ∅) _).setVWind n (.inl rfl)).reevalPermit n).talks

end

/-- Settles O31: the refusals in their order, and the join written field by field. -/
theorem helloJoinsTheStation : Obligations.HelloJoinsTheStation := by
  unfold Obligations.HelloJoinsTheStation
  intro s n identity refused
  have refuses {code : Code} (h : s.helloRefusal n identity = some code) :
      exec (.hello n identity) s = .next (refused code) :=
    congrArg Host.Outcome.next (craneRequest_of_unchanged
      (State.hello_refused (s := s.taken (.crane n)) h))
  refine ⟨fun invalid => refuses ?_, fun valid off => refuses ?_, fun valid on other => refuses ?_,
    fun valid on own => ?_⟩
  · rw [State.helloRefusal_cases, if_pos invalid]
  · rw [State.helloRefusal_cases, if_neg (by simp [valid]), if_pos off]
  · rw [State.helloRefusal_cases, if_neg (by simp [valid]), if_neg (by simp [on]), if_pos other]
  · set s' := s.taken (.crane n) with taken
    have accepted : s.helloRefusal n identity = none := by
      rw [State.helloRefusal_cases, if_neg (by simp [valid]), if_neg (by simp [on]),
        if_neg (not_not.mpr own)]
    refine ⟨_, congrArg Host.Outcome.next (craneRequest_of_work (State.hello_accepted (s := s') accepted)),
      s'.join_ctx n, s'.join_vWind n, ?_, answered_of_talks (Talks.join s' n) _,
      fun m ne => s'.join_others ne, ?_⟩
    · refine ((s'.join_own n).alarms (.linkStale n) nofun).trans ?_
      rw [State.joinTold, State.staleEnds_get]
      simp
      rfl
    · have own := (s'.join_own n).frame
      rw [State.replies, own, State.joinTold_frame]
      rfl

end Sys2Proof.Machine
end

section
/-! The silence of a crane: STALE and then OFFLINE (R30, R32, R70). -/

namespace Sys2Proof.Machine

open Sys2Proof.Safety

/-! ### Last ended bookings -/

/-- The last ended booking of every station is kept. -/
def EndedKept (s t : State) : Prop := ∀ m, (t.ctx.get m).lastEnded = (s.ctx.get m).lastEnded

theorem EndedKept.refl (s : State) : EndedKept s s := fun _ => rfl

theorem EndedKept.trans {s t u : State} (h : EndedKept s t) (k : EndedKept t u) : EndedKept s u :=
  fun m => (k m).trans (h m)

theorem EndedKept.of_holderWork {s t : State} (h : holderWork s t) : EndedKept s t :=
  fun m => by rw [(h.2 m).1]

theorem EndedKept.of_ctx {s t : State} (h : t.ctx = s.ctx) : EndedKept s t := fun m => by rw [h]

theorem EndedKept.modZone (s : State) (z : Zone) (f : ZoneDyn → ZoneDyn) :
    EndedKept s (s.modZone z f) := .of_ctx (by rw [s.modZone_frame z f])

theorem State.bookingPassed_ctx (s : State) (num : Nat) (z : Zone) :
    (s.bookingPassed num z).ctx = s.ctx := by
  unfold State.bookingPassed
  split <;> rfl

theorem EndedKept.grantOrdinary (s : State) (z : Zone) (n : Station) :
    EndedKept s (s.grantOrdinary z n) :=
  (EndedKept.modZone s z _).trans (.of_holderWork (holderWork_granted _ z n _))

theorem EndedKept.grantBooked (s : State) (z : Zone) (n : Station) : EndedKept s (s.grantBooked z n) :=
  (EndedKept.modZone s z _).trans (.of_holderWork (holderWork_granted _ z n _))

theorem EndedKept.serve (s : State) (z : Zone) : EndedKept s (s.serve z) := by
  cases s.served z with
  | kept same => rw [same]; exact .refl s
  | ordinary _ n _ _ _ _ _ _ same => rw [same]; exact .grantOrdinary s z n
  | booked _ num b _ _ _ _ _ _ same =>
    rw [same]
    exact (EndedKept.grantBooked s z b.station).trans (.of_ctx (State.bookingPassed_ctx _ num z))

theorem EndedKept.foldl {β : Type} {f : State → β → State} (h : ∀ s b, EndedKept s (f s b)) (s : State)
    (bs : List β) : EndedKept s (bs.foldl f s) := foldl_related .refl .trans h s bs

/-- Work on the zones that ends no booking leaves each station context but for its motion permit. -/
theorem ctx_of_zoneWork {s t : State} (h : zoneWork s t) (ended : EndedKept s t) (m : Station) :
    t.ctx.get m = { s.ctx.get m with mp := (t.ctx.get m).mp } := by
  have own := (h.2 m).1
  rw [ended m] at own
  exact own

/-! ### The wait lists at station loss (R70) -/

section
variable {s : State} {n : Station}

/-- The zones in whose wait list a station stands. -/
def State.waitsIn (s : State) (n : Station) : List Zone :=
  Zone.all.filter fun z =>
    match s.zones.get z with
    | some d => d.waiting.contains n
    | none => false

theorem State.loseWaits_eq (s : State) (n : Station) : s.loseWaits n =
    ((s.waitsIn n).foldl State.serve ((s.waitsIn n).foldl (State.unqueue · n) s)).serveMemberZones n :=
  rfl

theorem State.not_mem_waiting_of_not_waitsIn {z : Zone} (h : z ∉ s.waitsIn n) :
    s.At z fun d => n ∉ d.waiting := by
  intro d record waits
  refine h (List.mem_filter.mpr ⟨Zone.mem_all z, ?_⟩)
  simp only [record]
  exact List.contains_iff_mem.mpr waits

/-- A lost station stands in no wait list (R70). -/
theorem State.loseWaits_unqueued (kept : ∀ z, waitListKept s z = true) (z : Zone) :
    (s.loseWaits n).At z fun d => n ∉ d.waiting := by
  have left : ((s.waitsIn n).foldl (State.unqueue · n) s).At z fun d => n ∉ d.waiting := by
    by_cases mem : z ∈ s.waitsIn n
    · refine State.At.of_foldl (I := fun d => d.waiting.Nodup) (fun t nodup => ?_) (fun t y nodup => ?_)
        (fun t y out => ?_) (fun d record => (waitListKept_iff.mp (kept z) d record).1) mem
      · exact .of_modZone fun d record => (nodup d record).not_mem_erase
      · exact nodup.modZone fun _ d nodup => nodup.erase n
      · exact out.modZone fun _ d out waits => out (List.mem_of_mem_erase waits)
    · exact State.At.foldl (fun t y out => out.modZone fun _ d out waits =>
        out (List.mem_of_mem_erase waits)) (State.not_mem_waiting_of_not_waitsIn mem) _
  have serves {t : State} (h : t.At z fun d => n ∉ d.waiting) (zs : List Zone) :
      (zs.foldl State.serve t).At z fun d => n ∉ d.waiting :=
    h.serves (fun d m rest _ out waits => out (List.mem_of_mem_erase waits))
      (fun d m num _ out waits => out (List.mem_of_mem_erase waits)) zs
  rw [State.loseWaits_eq]
  exact serves (serves left _) _

theorem State.holding_eq_some_iff {z : Zone} {h : Holding} : s.holding z = some h ↔
    ∃ d, s.zones.get z = some d ∧ d.hold = some h := by
  simp [State.holding, Option.bind_eq_some_iff]

/-- A lost station keeps its zones, as every other does (R32). -/
theorem State.loseWaits_holding {z : Zone} {h : Holding} (held : s.holding z = some h) :
    (s.loseWaits n).holding z = some h := by
  have left : ∀ zs : List Zone, (zs.foldl (State.unqueue · n) s).holding z = s.holding z := by
    refine foldl_related (R := fun s t : State => t.holding z = s.holding z) (fun _ => rfl)
      (fun h k => k.trans h) (fun t y => ?_) s
    rw [State.unqueue, State.holding, State.holding, State.modZone_get]
    split
    · next same => subst same; cases t.zones.get z <;> rfl
    · rfl
  obtain ⟨d, record, hold⟩ := State.holding_eq_some_iff.mp ((left (s.waitsIn n)).trans held)
  have served := State.foldl_serve_get_of_held record hold (s.waitsIn n)
  rw [State.holding_eq_some_iff, State.loseWaits_eq]
  exact ⟨d, State.foldl_serve_get_of_held served hold _, hold⟩

theorem EndedKept.loseWaits (s : State) (n : Station) : EndedKept s (s.loseWaits n) :=
  ((EndedKept.foldl (fun t z => .modZone t z _) s _).trans (.foldl .serve _ _)).trans (.foldl .serve _ _)

end

/-! ### The report timer's expiry (R30) -/

/-- Without a request being handled nothing is held back. -/
theorem Talks.held_of_idle {s t : State} (h : Talks s t) (idle : s.handling = none) : t.held = s.held := by
  obtain ⟨more, held, none⟩ := h.held
  rw [held, none idle, List.append_nil]

section
variable {s : State} {n : Station}

/-- The context of a station whose report timer has expired (R30). -/
def StationCtx.silent (c : StationCtx) (offlineDwell : Nat) : StationCtx :=
  { c with link := .stale, reportTimer := .stopped, linkDwell := .running offlineDwell }

theorem State.expireReport_of_due (due : (s.ctx.get n).reportTimer = .due) :
    s.expireReport n = ((s.setCtx n ((s.ctx.get n).silent (s.station n).offlineDwell)).alarmBegins
      (.linkStale n)).reevalPermit n := if_pos due

/-- The context of a lost station (R32). -/
def StationCtx.lost (c : StationCtx) : StationCtx :=
  { c with link := .offline, reportTimer := .stopped, linkDwell := .stopped }

/-- The state in which the loss of a station has been judged by the Station Unit alone. -/
def State.linkLost (s : State) (n : Station) : State :=
  ((s.setCtx n (s.ctx.get n).lost).staleEnds n (s.ctx.get n).link).reevalPermit n

theorem State.expireLink_of_due (due : (s.ctx.get n).linkDwell = .due) :
    s.expireLink n = ((s.linkLost n).loseWaits n).setVWind n 0 := if_pos due

theorem State.linkLost_ctx (s : State) (n : Station) : (s.linkLost n).ctx.get n =
    { (s.ctx.get n).lost with mp := false } := by
  set u := (s.setCtx n (s.ctx.get n).lost).staleEnds n (s.ctx.get n).link with told
  have here : u.ctx.get n = (s.ctx.get n).lost := by
    rw [told, (AlarmFrame.staleEnds _ _ _).ctx]
    exact PerStation.get_set_same _ _ _
  have own := (PermitFrame.reevalPermit u n).own
  rw [here] at own
  have off : (u.reevalPermit n).permit n = false := State.permit_of_not_online (by rw [own]; nofun)
  change (u.reevalPermit n).ctx.get n = _
  rw [own, State.reevalPermit_mp, off]

end

/-! ### Frames (R65) -/

/-- Work of the Zone Arbiter, the Booking Engine and the blocks they tell writes these fields alone. -/
def ZoneFrame (s t : State) : Prop :=
  t = { s with ctx := t.ctx, arb := t.arb, zones := t.zones, lim := t.lim, vane := t.vane,
               bookings := t.bookings, alarms := t.alarms, attn := t.attn, handling := t.handling,
               held := t.held, tx := t.tx, rx := t.rx }

theorem ZoneFrame.trans {s t u : State} (h : ZoneFrame s t) (k : ZoneFrame t u) : ZoneFrame s u := by
  calc u = { t with ctx := u.ctx, arb := u.arb, zones := u.zones, lim := u.lim, vane := u.vane,
                    bookings := u.bookings, alarms := u.alarms, attn := u.attn,
                    handling := u.handling, held := u.held, tx := u.tx, rx := u.rx } := k
    _ = { s with ctx := u.ctx, arb := u.arb, zones := u.zones, lim := u.lim, vane := u.vane,
                 bookings := u.bookings, alarms := u.alarms, attn := u.attn,
                 handling := u.handling, held := u.held, tx := u.tx, rx := u.rx } := by rw [h]

theorem ZoneFrame.of_zoneWork {s t : State} (h : zoneWork s t) : ZoneFrame s t := h.1

theorem ZoneFrame.of_alarms {s t : State} (h : AlarmFrame s t) : ZoneFrame s t := by
  unfold ZoneFrame
  rw [h]

theorem ZoneFrame.of_own {s t : State} {n : Station} (h : OwnFrame n s t) : ZoneFrame s t := by
  unfold ZoneFrame
  rw [h.frame]

theorem ZoneFrame.setCtx (s : State) (n : Station) (c : StationCtx) : ZoneFrame s (s.setCtx n c) := rfl

theorem Talks.staleEnds (s : State) (n : Station) (was : LinkState) : Talks s (s.staleEnds n was) := by
  unfold State.staleEnds
  split
  · exact .of_eq
  · exact .refl s

theorem Talks.linkLost (s : State) (n : Station) : Talks s (s.linkLost n) :=
  (Talks.trans (t := s.setCtx n _) .of_eq (.staleEnds _ n _)).trans (.reevalPermit _ n)

theorem ZoneFrame.linkLost (s : State) (n : Station) : ZoneFrame s (s.linkLost n) :=
  ((ZoneFrame.setCtx s n _).trans (.of_alarms (.staleEnds _ n _))).trans
    (.of_own (.of_permit (.reevalPermit _ n)))

theorem zoneWork_expireLink_tail (t : State) (n : Station) : ZoneFrame t ((t.loseWaits n).setVWind n 0) :=
  (ZoneFrame.of_zoneWork (zoneWork_loseWaits t n)).trans (.of_own (.setVWind _ n 0))

section
variable {s : State} {n : Station}

/-- The loss of a station leaves the others but for their motion permits (R32). -/
theorem State.linkLost_others {m : Station} (ne : m ≠ n) :
    (s.linkLost n).ctx.get m = s.ctx.get m ∧ (s.linkLost n).lim.get m = s.lim.get m := by
  have told := AlarmFrame.staleEnds (s.setCtx n (s.ctx.get n).lost) n (s.ctx.get n).link
  obtain ⟨ctx, lim⟩ := (PermitFrame.reevalPermit ((s.setCtx n (s.ctx.get n).lost).staleEnds n
    (s.ctx.get n).link) n).others m ne
  refine ⟨ctx.trans ?_, lim.trans ?_⟩
  · rw [told.ctx]
    exact PerStation.get_set_ne ne
  · rw [told]; rfl

end

/-- Settles O35: the two expiries written field by field, and the wait lists of a lost station. -/
theorem silentCraneGoesStaleAndIsLost : Obligations.SilentCraneGoesStaleAndIsLost := by
  unfold Obligations.SilentCraneGoesStaleAndIsLost
  refine fun s n idle => ⟨fun due => ?_, fun due kept => ?_⟩
  · set v := s.setCtx n ((s.ctx.get n).silent (s.station n).offlineDwell) with silent
    have step := State.expireReport_of_due due
    rw [← silent] at step
    have alarm : AlarmFrame v (v.alarmBegins (.linkStale n)) := .alarmBegins v _
    have permit := PermitFrame.reevalPermit (v.alarmBegins (.linkStale n)) n
    have held : ((v.alarmBegins (.linkStale n)).reevalPermit n).held = s.held :=
      Talks.held_of_idle ((Talks.trans (t := v) .of_eq (.alarmBegins v _)).trans (.reevalPermit _ n)) idle
    refine ⟨_, congrArg Host.Outcome.next step, ?_, ?_, fun m ne => ?_, ?_⟩
    · have here : (v.alarmBegins (.linkStale n)).ctx.get n =
          (s.ctx.get n).silent (s.station n).offlineDwell := by
        rw [alarm.ctx]
        exact PerStation.get_set_same _ _ _
      have own := permit.own
      rw [here] at own
      rw [own, State.reevalPermit_mp, State.permit_of_not_online (by rw [own]; nofun)]
      rfl
    · rw [permit.frame]
      exact (State.alarmBegins_get v _ _).trans (if_pos rfl)
    · obtain ⟨ctx, lim⟩ := permit.others m ne
      refine ⟨ctx.trans ?_, lim.trans ?_⟩
      · rw [alarm.ctx]
        exact PerStation.get_set_ne ne
      · rw [alarm]; rfl
    · rw [← held]
      rw [permit.frame, alarm]
      rfl
  · set u := s.linkLost n with lost
    have step := State.expireLink_of_due due
    rw [← lost] at step
    have waits := zoneWork_loseWaits u n
    have own := OwnFrame.setVWind (u.loseWaits n) n 0
    set t := (u.loseWaits n).setVWind n 0 with result
    have talks : Talks s t := ((Talks.linkLost s n).trans
      ((Work.refl (x := ∅) u).loseWaits n).talks).trans
        ((Work.refl (x := ∅) _).setVWind n (.inl rfl)).talks
    have frame : ZoneFrame s t := (ZoneFrame.linkLost s n).trans (zoneWork_expireLink_tail u n)
    have zones : t.zones = (u.loseWaits n).zones := by rw [own.frame]
    have before : u.zones = s.zones := by
      have told := AlarmFrame.staleEnds (s.setCtx n (s.ctx.get n).lost) n (s.ctx.get n).link
      have permit := PermitFrame.reevalPermit ((s.setCtx n (s.ctx.get n).lost).staleEnds n
        (s.ctx.get n).link) n
      rw [lost, State.linkLost, permit.frame, told]
      rfl
    refine ⟨t, congrArg Host.Outcome.next step, ?_, State.setVWind_vWind _ n 0, fun z d record => ?_,
      fun z h held => ?_, fun m ne => ⟨?_, ?_⟩, ?_⟩
    · have follows : permitFollows t n = true := permitFollows_setVWind (permitFollows_loseWaits
        (permitFollows_reevalPermit_self _ n) n) n 0
      have ctx : t.ctx.get n = { (s.ctx.get n).lost with mp := (t.ctx.get n).mp } := by
        refine own.own.trans ?_
        rw [ctx_of_zoneWork waits (.loseWaits u n), lost, State.linkLost_ctx]
      rw [ctx, permitFollows_iff.mp follows, State.permit_of_not_online (by rw [ctx]; nofun)]
      rfl
    · refine State.loseWaits_unqueued (s := u) (n := n) (fun y => ?_) z d (zones ▸ record)
      rw [waitListKept_iff, before]
      exact waitListKept_iff.mp (kept y)
    · have here : (u.loseWaits n).holding z = some h :=
        State.loseWaits_holding (by rw [State.holding, before]; exact held)
      rw [State.holding, zones]
      exact here
    · rw [(own.others m ne).2.1, (waits.2 m).2, lost, (State.linkLost_others ne).2]
    · rw [(own.others m ne).1, ctx_of_zoneWork waits (.loseWaits u n), lost,
        (State.linkLost_others ne).1]
    · refine Eq.trans frame ?_
      rw [talks.rx, talks.handling, talks.held_of_idle idle]

end Sys2Proof.Machine
end

section
/-! The latches of the Zone Arbiter through work on the zones (R59, R60, R68). -/

namespace Sys2Proof.Machine

open Sys2Proof.Safety

/-! ### What writes the arbiter contexts -/

section
variable (s : State) (n : Station)

theorem State.recompute_arb : (s.recompute n).arb = s.arb := by
  rw [(PermitFrame.recompute s n).frame]

theorem State.reevalPermit_arb : (s.reevalPermit n).arb = s.arb := by
  rw [(PermitFrame.reevalPermit s n).frame]

theorem AlarmFrame.arb {s t : State} (h : AlarmFrame s t) : t.arb = s.arb := by rw [h]

theorem State.judgeClear_arb : (s.judgeClear n).arb = s.arb := by
  rw [(OwnFrame.judgeClear s n).frame]

theorem State.judgeSwingLine_arb (z : Zone) : (s.judgeSwingLine n z).arb = s.arb := by
  unfold State.judgeSwingLine
  extract_lets c
  split <;> rfl

theorem State.holderTold_arb (z : Zone) : (s.holderTold z).arb = s.arb :=
  foldl_related (R := fun s t : State => t.arb = s.arb) (fun _ => rfl) (fun h k => k.trans h)
    (fun s m => (State.judgeSwingLine_arb _ m z).trans (s.judgeClear_arb m)) s (s.members z)

/-- Conflict is written for the station judged alone (R60). -/
theorem State.reevalConflict_arb (m : Station) : (s.reevalConflict n).arb.get m =
    if m = n then { s.arb.get n with conflict := s.conflictNow n } else s.arb.get m := by
  unfold State.reevalConflict
  extract_lets c now
  split
  · next same =>
    split
    · next eq => rw [eq, show s.conflictNow n = c.conflict from same]
    · rfl
  · rw [State.reevalPermit_arb, (AlarmFrame.alarmIs _ _ _).arb, State.setArb_arb, PerStation.get_set]

/-- The recovery test clears both latches of the station tested, when it passes (R68). -/
theorem State.recoveryTest_arb (m : Station) : (s.recoveryTest n).arb.get m =
    if m = n ∧ (s.arb.get n).recovery = true ∧ s.standsUnheld n = [] then
      { s.arb.get n with intrusion := false, recovery := false } else s.arb.get m := by
  unfold State.recoveryTest
  extract_lets c
  split
  · next passes =>
    rw [State.reevalPermit_arb, (AlarmFrame.alarmEnds _ _).arb, State.setArb_arb, PerStation.get_set]
    by_cases same : m = n
    · rw [if_pos same, if_pos ⟨same, passes⟩]
    · rw [if_neg same, if_neg fun h => same h.1]
  · next fails => rw [if_neg fun h => fails h.2]

/-- Intrusion latched is set for the station alone (R59). -/
theorem State.latchIntrusion_arb (m : Station) : (s.latchIntrusion n).arb.get m =
    if m = n then { s.arb.get n with intrusion := true } else s.arb.get m := by
  unfold State.latchIntrusion
  extract_lets c
  split
  · next latched =>
    split
    · next eq => rw [eq]; exact congrArg (fun b => { c with intrusion := b }) latched
    · rfl
  · rw [State.reevalPermit_arb, (AlarmFrame.alarmBegins _ _).arb, State.setArb_arb, PerStation.get_set]

end

/-! ### What writes an INTRUSION entry -/

section
variable (s : State) (n m : Station)

theorem State.reevalPermit_alarms : (s.reevalPermit n).alarms = s.alarms := by
  rw [(PermitFrame.reevalPermit s n).frame]

theorem State.reevalConflict_intrusion :
    (s.reevalConflict n).alarms.get (.intrusion m) = s.alarms.get (.intrusion m) := by
  unfold State.reevalConflict
  extract_lets c now
  split
  · rfl
  · rw [State.reevalPermit_alarms, State.alarmIs_get, if_neg nofun]; rfl

theorem State.recoveryTest_intrusion : (s.recoveryTest n).alarms.get (.intrusion m) =
    if m = n ∧ (s.arb.get n).recovery = true ∧ s.standsUnheld n = [] then
      (s.alarms.get (.intrusion n)).ends .held else s.alarms.get (.intrusion m) := by
  unfold State.recoveryTest
  extract_lets c
  split
  · next passes =>
    rw [State.reevalPermit_alarms, State.alarmEnds_get]
    by_cases same : m = n
    · subst same
      rw [if_pos rfl, if_pos ⟨rfl, passes⟩]
      rfl
    · rw [if_neg fun h => same (AlarmId.intrusion.inj h), if_neg fun h => same h.1]
      rfl
  · next fails => rw [if_neg fun h => fails h.2]

end

end Sys2Proof.Machine
end

section
/-! RECOVER (R67, R68). -/

namespace Sys2Proof.Machine

open Sys2Proof.Safety

/-! ### Where a station stands -/

section
variable {s t u : State} {n : Station}

theorem State.inside_of_kept (live : t.plan.live = s.plan.live)
    (position : (t.ctx.get n).position = (s.ctx.get n).position) (z : Zone) :
    t.inside z n = s.inside z n := by
  simp only [State.inside, State.member, State.zone, live, position]

/-- With no fewer holdings a station stands in no more zones without holding them. -/
theorem State.mem_standsUnheld_of_holds (live : t.plan.live = s.plan.live)
    (position : (t.ctx.get n).position = (s.ctx.get n).position)
    (holds : ∀ z, s.holds n z = true → t.holds n z = true) {z : Zone} (h : z ∈ t.standsUnheld n) :
    z ∈ s.standsUnheld n := by
  rw [State.standsUnheld, List.mem_filter, State.memberZones_of_live live,
    State.inside_of_kept live position] at h
  obtain ⟨member, stands⟩ := h
  refine List.mem_filter.mpr ⟨member, ?_⟩
  rw [Bool.and_eq_true, Bool.not_eq_true'] at stands ⊢
  refine ⟨stands.1, ?_⟩
  cases own : s.holds n z with
  | false => rfl
  | true => rw [holds z own] at stands; exact absurd stands.2 nofun

/-- A station stands as before in the zones it does not hold. -/
theorem State.standsUnheld_of_kept (live : t.plan.live = s.plan.live)
    (position : (t.ctx.get n).position = (s.ctx.get n).position) (zones : t.zones = s.zones) :
    t.standsUnheld n = s.standsUnheld n := by
  rw [State.standsUnheld, State.standsUnheld, State.memberZones_of_live live]
  refine List.filter_congr fun z _ => ?_
  rw [State.inside_of_kept live position, State.holds, State.holder, State.holding, zones]
  rfl

theorem State.standsUnheld_of_holderWork (h : holderWork s t) :
    t.standsUnheld n = s.standsUnheld n :=
  State.standsUnheld_of_kept (by rw [h.1]) (by rw [(h.2 n).1]) (zones_of_holderWork h)

/-! ### What recovery zone by zone keeps -/

/-- What the judgement of the further zones of a RECOVER reads is kept, and the latches of the station stand
or are cleared with nothing left to recover. -/
structure RecoverKept (n : Station) (s t : State) : Prop where
  plan : t.plan = s.plan
  closes : ClosesKept s t
  stations : ∀ k, (t.booking? k).map (·.station) = (s.booking? k).map (·.station)
  position : (t.ctx.get n).position = (s.ctx.get n).position
  holds : ∀ z, s.holds n z = true → t.holds n z = true
  latch : (s.arb.get n).intrusion = true ∨ s.standsUnheld n = [] →
    (t.arb.get n).intrusion = true ∨ t.standsUnheld n = []
  entry : (s.alarms.get (.intrusion n)).state ≠ .latched →
    (t.alarms.get (.intrusion n)).state ≠ .latched

theorem RecoverKept.refl (n : Station) (s : State) : RecoverKept n s s :=
  ⟨rfl, .refl s, fun _ => rfl, rfl, fun _ => id, id, id⟩

theorem RecoverKept.trans (h : RecoverKept n s t) (k : RecoverKept n t u) : RecoverKept n s u :=
  ⟨k.plan.trans h.plan, h.closes.trans k.closes, fun j => (k.stations j).trans (h.stations j),
    k.position.trans h.position, fun z own => k.holds z (h.holds z own), fun l => k.latch (h.latch l),
    fun e => k.entry (h.entry e)⟩

/-- Work that keeps the latches of the station and its INTRUSION entry. -/
theorem RecoverKept.of_kept (plan : t.plan = s.plan) (closes : ClosesKept s t)
    (stations : ∀ k, (t.booking? k).map (·.station) = (s.booking? k).map (·.station))
    (position : (t.ctx.get n).position = (s.ctx.get n).position)
    (holds : ∀ z, s.holds n z = true → t.holds n z = true)
    (latch : (t.arb.get n).intrusion = (s.arb.get n).intrusion)
    (entry : t.alarms.get (.intrusion n) = s.alarms.get (.intrusion n)) : RecoverKept n s t where
  plan := plan
  closes := closes
  stations := stations
  position := position
  holds := holds
  latch := fun h => h.imp (fun l => latch.trans l) fun none => by
    refine List.eq_nil_iff_forall_not_mem.mpr fun z mem => ?_
    have := State.mem_standsUnheld_of_holds (by rw [plan]) position holds mem
    rw [none] at this
    cases this
  entry := fun h => by rwa [entry]

theorem RecoverKept.of_holderWork (h : holderWork s t) (closes : ClosesKept s t)
    (latch : (t.arb.get n).intrusion = (s.arb.get n).intrusion)
    (entry : t.alarms.get (.intrusion n) = s.alarms.get (.intrusion n)) : RecoverKept n s t :=
  .of_kept (by rw [h.1]) closes
    (fun k => congrArg _ (State.booking?_of_bookings (bookings_of_holderWork h) k)) (by rw [(h.2 n).1])
    (fun z own => (State.holds_of_zones_get (by rw [zones_of_holderWork h]) n).trans own) latch entry

/-- A write of a zone's record that does not take the zone from the station. -/
theorem RecoverKept.modZone (s : State) (z : Zone) {f : ZoneDyn → ZoneDyn}
    (keeps : ∀ d h, d.hold = some h → h.station = n → ∃ k, (f d).hold = some k ∧ k.station = n) :
    RecoverKept n s (s.modZone z f) := by
  have frame := s.modZone_frame z f
  refine .of_kept (s.modZone_plan z f) (.of_vane (s.modZone_vane z f))
    (fun k => congrArg _ (State.booking?_of_bookings (s.modZone_bookings z f) k)) (by rw [frame])
    (fun y own => ?_) (by rw [frame]) (by rw [frame])
  obtain ⟨d, h, record, hold, station⟩ := State.holds_iff.mp own
  rw [State.holds_iff]
  by_cases same : y = z
  · subst same
    obtain ⟨k, hold, station⟩ := keeps d h hold station
    exact ⟨f d, k, State.modZone_get_same record f, hold, station⟩
  · exact ⟨d, h, (State.modZone_get_ne same f).trans record, hold, station⟩

theorem RecoverKept.bookingPassed (s : State) (num : Nat) (z : Zone) :
    RecoverKept n s (s.bookingPassed num z) := by
  have frame := (zoneWork_bookingPassed s num z).1
  refine .of_kept (plan_of_zoneWork (zoneWork_bookingPassed s num z))
    (.of_vane (s.bookingPassed_vane num z)) (fun k => ?_) (by rw [State.bookingPassed_ctx])
    (fun y own => (State.holds_of_zones_get (by rw [State.bookingPassed_zones]) n).trans own) ?_ ?_
  · unfold State.bookingPassed
    split
    case h_1 b found =>
      rw [State.putBooking_booking?]
      split
      · next same =>
        rw [same, Booking.pass_number, State.number_of_booking? found, found]
        change some (b.pass z).station = some b.station
        rw [(b.passed_pass z).fields]
      · rfl
    case h_2 => rfl
  · unfold State.bookingPassed; split <;> rfl
  · unfold State.bookingPassed; split <;> rfl

theorem RecoverKept.holderChanged (s : State) (z : Zone) : RecoverKept n s (s.holderChanged z) := by
  have conflicts (t : State) (ms : List Station) :
      ((ms.foldl State.reevalConflict t).arb.get n).intrusion = (t.arb.get n).intrusion ∧
        (ms.foldl State.reevalConflict t).alarms.get (.intrusion n) = t.alarms.get (.intrusion n) := by
    refine foldl_related (R := fun s t : State => (t.arb.get n).intrusion = (s.arb.get n).intrusion ∧
      t.alarms.get (.intrusion n) = s.alarms.get (.intrusion n)) (fun _ => ⟨rfl, rfl⟩)
      (fun h k => ⟨k.1.trans h.1, k.2.trans h.2⟩) (fun t m => ⟨?_, t.reevalConflict_intrusion m n⟩) t ms
    rw [State.reevalConflict_arb]
    split
    · next same => rw [same]
    · rfl
  obtain ⟨latch, entry⟩ := conflicts (s.holderTold z) (s.members z)
  refine .of_holderWork (holderWork_holderChanged s z) (.holderChanged s z) (latch.trans ?_)
    (entry.trans (s.holderTold_get_ne z nofun))
  rw [State.holderTold_arb]

theorem RecoverKept.recoveryTest (s : State) : RecoverKept n s (s.recoveryTest n) := by
  have work := holderWork_recoveryTest s n
  by_cases passes : (s.arb.get n).recovery = true ∧ s.standsUnheld n = []
  · refine ⟨by rw [work.1], .of_vane (s.recoveryTest_vane n),
      fun k => congrArg _ (State.booking?_of_bookings (bookings_of_holderWork work) k),
      by rw [(work.2 n).1],
      fun z own => (State.holds_of_zones_get (by rw [zones_of_holderWork work]) n).trans own,
      fun _ => .inr ((State.standsUnheld_of_holderWork work).trans passes.2), fun unlatched => ?_⟩
    rw [State.recoveryTest_intrusion, if_pos ⟨rfl, passes⟩]
    unfold Entry.ends
    split
    · nofun
    · next clear => rw [clear]; nofun
    · next latched => exact absurd latched unlatched
  · exact .of_holderWork work (.of_vane (s.recoveryTest_vane n))
      (by rw [State.recoveryTest_arb, if_neg fun h => passes h.2])
      (by rw [State.recoveryTest_intrusion, if_neg fun h => passes h.2])

theorem RecoverKept.notify (s : State) (m : Station) (x : Notice) : RecoverKept n s (s.notify m x) :=
  .of_holderWork (holderWork_notify s m x) (.of_vane (s.notify_vane m x))
    (by rw [(AlarmFrame.notify s m x).arb]) (by unfold State.notify; split <;> simp)

theorem RecoverKept.granted (s : State) (z : Zone) (kind : GrantKind) :
    RecoverKept n s (s.granted z n kind) :=
  ((RecoverKept.notify s n _).trans (.holderChanged _ z)).trans (.recoveryTest _)

theorem RecoverKept.adoptZone (s : State) (z : Zone) : RecoverKept n s (s.adoptZone z n) := by
  have given (kind : GrantKind) : RecoverKept n s
      (s.modZone z fun d => d.give ⟨n, kind, true⟩ .stopped) :=
    .modZone s z fun d h _ _ => ⟨⟨n, kind, true⟩, rfl, rfl⟩
  unfold State.adoptZone
  split
  · split
    · exact ((given .booked).trans (.bookingPassed _ _ z)).trans (.granted _ z .booked)
    · exact (given .ordinary).trans (.granted _ z .ordinary)
  · exact (given .ordinary).trans (.granted _ z .ordinary)

theorem RecoverKept.recoverZone (s : State) (z : Zone) : RecoverKept n s (State.recoverZone n s z) := by
  unfold State.recoverZone
  split
  · exact .adoptZone s z
  · exact .modZone s z fun d h hold own => ⟨h, hold, own⟩

/-! ### One zone -/

theorem State.reservedFor_of_stations {z : Zone} (zones : t.zones.get z = s.zones.get z)
    (stations : ∀ k, (t.booking? k).map (·.station) = (s.booking? k).map (·.station)) :
    t.reservedFor z n = s.reservedFor z n := by
  have reserving : (t.reserving z).map (·.station) = (s.reserving z).map (·.station) := by
    rw [State.reserving, State.reserving, zones]
    cases (s.zones.get z).bind (·.reservation) with
    | none => rfl
    | some k => exact stations k
  have judged (u : State) : u.reservedFor z n = ((u.reserving z).map (·.station)).any (· == n) := by
    unfold State.reservedFor
    cases u.reserving z <;> rfl
  rw [judged, judged, reserving]

theorem State.openTo_of_kept {z : Zone} (kept : RecoverKept n s t)
    (zones : t.zones.get z = s.zones.get z) : t.openTo z n = s.openTo z n := by
  rw [State.openTo, State.openTo, zones,
    State.closedTo_of_kept (by rw [kept.plan]) kept.closes zones,
    State.reservedFor_of_stations zones kept.stations]

/-- A zone adopted is held by the station, seen inside (R61, R67). -/
theorem State.adoptZone_get_same {z : Zone} {d : ZoneDyn} (record : s.zones.get z = some d) :
    ∃ kind, (s.adoptZone z n).zones.get z = some (d.give ⟨n, kind, true⟩ .stopped) := by
  unfold State.adoptZone
  split
  · split
    · refine ⟨.booked, ?_⟩
      rw [State.granted_zones, State.bookingPassed_zones, State.modZone_get_same record]
    · refine ⟨.ordinary, ?_⟩
      rw [State.granted_zones, State.modZone_get_same record]
  · refine ⟨.ordinary, ?_⟩
    rw [State.granted_zones, State.modZone_get_same record]

/-! ### RECOVER (R67) -/

/-- The zones recovered, with recovery requested. -/
def State.recovered (s : State) (n : Station) : State :=
  let t := (s.standsUnheld n).foldl (State.recoverZone n) s
  t.setArb n { t.arb.get n with recovery := true }

section
variable {number : Nat} (station : Station.ofNumber? number = some n)
  (latched : (s.arb.get n).intrusion = true)
include station latched

theorem State.recoverStation_done (h : ((s.recovered n).recoveryTest n).standsUnheld n = []) :
    s.recoverStation number = ((s.recovered n).recoveryTest n, .ok, .empty) := by
  rw [State.recovered] at h ⊢
  simp only [State.recoverStation, station, latched, Bool.true_eq_false, if_false, h]

theorem State.recoverStation_partial (h : ((s.recovered n).recoveryTest n).standsUnheld n ≠ []) :
    s.recoverStation number = ((s.recovered n).recoveryTest n, .partialRecovery,
      .zoneSet (((s.recovered n).recoveryTest n).standsUnheld n)) := by
  rw [State.recovered] at h ⊢
  obtain ⟨z, zs, some⟩ := List.exists_cons_of_ne_nil h
  simp only [State.recoverStation, station, latched, Bool.true_eq_false, if_false, some]

end

theorem State.recovered_kept (s : State) (n : Station) :
    RecoverKept n s ((s.standsUnheld n).foldl (State.recoverZone n) s) :=
  foldl_related (.refl n) .trans .recoverZone s (s.standsUnheld n)

theorem State.recovered_arb (s : State) (n : Station) : (s.recovered n).arb.get n =
    { ((s.standsUnheld n).foldl (State.recoverZone n) s).arb.get n with recovery := true } := by
  rw [State.recovered, State.setArb_arb, PerStation.get_set_same]

theorem zoneWork_recovered (s : State) (n : Station) : zoneWork s (s.recovered n) := by
  refine zoneWork_trans (zoneWork_foldl (fun t z => ?_) s (s.standsUnheld n)) ⟨rfl, fun _ => ⟨rfl, rfl⟩⟩
  unfold State.recoverZone
  split
  · exact zoneWork_adoptZone t z n
  · exact zoneWork_modZone t z _

/-- With the latch standing and its entry not LATCHED, a RECOVER either clears both with nothing left to
recover, or leaves the latch with recovery requested (R67, R68). -/
theorem State.recovered_latches (latched : (s.arb.get n).intrusion = true)
    (entry : (s.alarms.get (.intrusion n)).state ≠ .latched) :
    let t := (s.recovered n).recoveryTest n
    (t.standsUnheld n = [] → (t.arb.get n).intrusion = false ∧ (t.arb.get n).recovery = false ∧
      (t.alarms.get (.intrusion n)).state = .clear) ∧
    (t.standsUnheld n ≠ [] → (t.arb.get n).intrusion = true ∧ (t.arb.get n).recovery = true) := by
  have kept := s.recovered_kept n
  have stands : ((s.recovered n).recoveryTest n).standsUnheld n = (s.recovered n).standsUnheld n :=
    State.standsUnheld_of_holderWork (holderWork_recoveryTest _ n)
  have requested : ((s.recovered n).arb.get n).recovery = true := by rw [State.recovered_arb]
  intro t
  refine ⟨fun none => ?_, fun some => ?_⟩
  · have passes := And.intro requested (stands ▸ none)
    refine ⟨?_, ?_, ?_⟩
    · rw [State.recoveryTest_arb, if_pos ⟨rfl, passes⟩]
    · rw [State.recoveryTest_arb, if_pos ⟨rfl, passes⟩]
    · rw [State.recoveryTest_intrusion, if_pos ⟨rfl, passes⟩]
      have unlatched : ((s.recovered n).alarms.get (.intrusion n)).state ≠ .latched := kept.entry entry
      unfold Entry.ends
      split
      · rfl
      · next clear => exact clear
      · next latched => exact absurd latched unlatched
  · have fails : (s.recovered n).standsUnheld n ≠ [] := stands ▸ some
    have still : ((s.recovered n).arb.get n).intrusion = true := by
      rw [State.recovered_arb]
      exact (kept.latch (.inl latched)).resolve_right fails
    rw [State.recoveryTest_arb, if_neg fun h => fails h.2.2]
    exact ⟨still, requested⟩

/-- Each zone recovered is adopted when it is open to the station, and otherwise places it first (R67). -/
theorem State.recovered_get {z : Zone} (mem : z ∈ s.standsUnheld n) :
    ∃ u, RecoverKept n s u ∧ u.zones.get z = s.zones.get z ∧
      ((s.recovered n).recoveryTest n).zones.get z = (State.recoverZone n u z).zones.get z := by
  obtain ⟨u, kept, here, result⟩ := (State.foldl_zones_get (RecoverKept.refl n) RecoverKept.trans
    RecoverKept.recoverZone (fun t z y ne => State.recoverZone_zones_ne t n ne)
    (s.nodup_standsUnheld n) s).2 z mem
  refine ⟨u, kept, here, Eq.trans ?_ result⟩
  rw [zones_of_holderWork (holderWork_recoveryTest _ n)]
  rfl

end

/-- Settles O40: recovery zone by zone, the test that ends it, and the refusals. -/
theorem recoverGivesBackOrPlacesFirst : Obligations.RecoverGivesBackOrPlacesFirst := by
  unfold Obligations.RecoverGivesBackOrPlacesFirst
  refine ⟨?_, fun s tag k n station latched active => ?_⟩
  · intro s tag k refused
    refine ⟨fun none => ?_, fun n station free => ?_⟩ <;>
      refine congrArg Host.Outcome.next (command_of_unchanged (work := fun s => s.recoverStation k) ?_)
    · simp only [State.recoverStation, none]
    · have unlatched : ((s.taken .supervisor).arb.get n).intrusion = false := free
      simp only [State.recoverStation, station, unlatched, if_true]
  · set s' := s.taken .supervisor with taken
    set u := (s'.recovered n).recoveryTest n with result
    obtain ⟨done, left⟩ := State.recovered_latches (s := s') (n := n) latched
      (by rw [show s'.alarms = s.alarms from rfl, active]; nofun)
    have talks : Talks s' u := by
      have work := (Work.refl (x := ∅) s').recoverStation k
      have same : (s'.recoverStation k).1 = u := by
        by_cases none : u.standsUnheld n = []
        · rw [State.recoverStation_done (s := s') station latched none]
        · rw [State.recoverStation_partial (s := s') station latched none]
      exact (same ▸ work).talks
    have outcome : ∃ code data, s'.recoverStation k = (u, code, data) ∧
        (u.standsUnheld n = [] → (code, data) = (.ok, .empty)) ∧
        (u.standsUnheld n ≠ [] →
          (code, data) = (.partialRecovery, .zoneSet (u.standsUnheld n))) := by
      by_cases none : u.standsUnheld n = []
      · exact ⟨_, _, State.recoverStation_done (s := s') station latched none, fun _ => rfl,
          fun some => absurd none some⟩
      · exact ⟨_, _, State.recoverStation_partial (s := s') station latched none, fun h => absurd h none,
          fun _ => rfl⟩
    obtain ⟨code, data, work, ok, partly⟩ := outcome
    set t := u.replies .supervisor (.answerSL tag 0x11 code data) with replied
    have stands : t.standsUnheld n = u.standsUnheld n :=
      State.standsUnheld_of_holderWork (holderWork_replies u _ _)
    refine ⟨t, congrArg Host.Outcome.next (command_of_work (work := fun s => s.recoverStation k) work),
      fun none => ?_, fun some => ?_, fun z mem opened => ?_, fun z mem closed d record => ?_, ?_⟩
    · rw [stands] at none
      obtain ⟨intrusion, recovery, clear⟩ := done none
      obtain ⟨rfl, rfl⟩ := Prod.mk.inj (ok none)
      exact ⟨intrusion, recovery, clear, answered_of_talks talks _⟩
    · rw [stands] at some ⊢
      obtain ⟨intrusion, recovery⟩ := left some
      obtain ⟨rfl, rfl⟩ := Prod.mk.inj (partly some)
      exact ⟨intrusion, recovery, answered_of_talks talks _⟩
    · obtain ⟨v, kept, here, result⟩ := State.recovered_get (s := s') mem
      have open_ : v.openTo z n = true := (State.openTo_of_kept kept here).trans opened
      obtain ⟨d, record⟩ : ∃ d, v.zones.get z = some d := by
        obtain ⟨d, record, -⟩ := State.openTo_iff.mp open_
        exact ⟨d, record⟩
      rw [State.recoverZone, if_pos open_] at result
      obtain ⟨kind, given⟩ := State.adoptZone_get_same (n := n) record
      refine ⟨⟨n, kind, true⟩, ?_, rfl, rfl⟩
      rw [State.holding, replied, State.replies_zones, result, given]
      rfl
    · obtain ⟨v, kept, here, result⟩ := State.recovered_get (s := s') mem
      have shut : ¬ v.openTo z n = true := by
        rw [State.openTo_of_kept kept here]
        exact Bool.eq_false_iff.mp closed
      rw [State.recoverZone, if_neg shut, State.placeAtHead, State.modZone_get_same (here.trans record)]
        at result
      exact ⟨result, fun nodup => headPlace_eq_placedFirst nodup n⟩
    · exact zoneWork_replies (zoneWork_trans (zoneWork_recovered s' n)
        (zoneWork_of_holderWork (holderWork_recoveryTest _ n))) _

end Sys2Proof.Machine
end

section
/-! Work on claims: what the Zone Arbiter and the Booking Engine do when they pass zones on and remove no
holder (R52, R61, R63, R64), with the blocks they tell. -/

namespace Sys2Proof.Machine

open Sys2Proof.Safety

/-! ### The elementary writes -/

/-- An edit of a zone's record that leaves the zone to its holder, and its swept set. -/
structure ZoneDyn.Claimed (d e : ZoneDyn) : Prop where
  holder : d.hold = none ∨ e.hold.map (·.station) = d.hold.map (·.station)
  swept : e.swept = d.swept

/-- The frame is a WIND notice (R124). -/
def Frame.isWind : Frame → Bool
  | .notice (.wind _ _) => true
  | _ => false

/-- One elementary write of work on claims; it tells of no stage. -/
inductive Claim : State → State → Prop
  | raise (s : State) (l : Link) (f : Frame) (other : f.isWind = false) : Claim s (s.raise l f)
  | permit (s : State) (n : Station) : Claim s (s.reevalPermit n)
  | arb (s : State) (n : Station) (c : ArbiterCtx) : Claim s (s.setArb n c)
  /-- The entries of the latches of the Zone Arbiter (R59, R60). -/
  | entry (s : State) (i : AlarmId) (e : Entry)
      (latch : (∃ n, i = .conflict n) ∨ ∃ n, i = .intrusion n) : Claim s (s.setEntry i e)
  | zone (s : State) (z : Zone) {d e : ZoneDyn} (record : s.zones.get z = some d)
      (claimed : d.Claimed e) : Claim s (s.setZone z (some e))
  | clear (s : State) (n : Station) : Claim s (s.judgeClear n)
  | line (s : State) (n : Station) (z : Zone) : Claim s (s.judgeSwingLine n z)
  /-- A booking may go; none comes (R157). -/
  | bookings (s : State) (bs : List Booking)
      (shrinks : (bs.map (·.number)).Sublist (s.bookings.map (·.number))) : Claim s (s.setBookings bs)
  | ended (s : State) (n : Station) (e : LastEnded) :
      Claim s (s.setCtx n { s.ctx.get n with lastEnded := some e })

/-- Any number of elementary writes of work on claims. -/
def Claims : State → State → Prop := Relation.ReflTransGen Claim

theorem Claims.refl (s : State) : Claims s s := Relation.ReflTransGen.refl

theorem Claims.claim {s t u : State} (h : Claims s t) (k : Claim t u) : Claims s u :=
  Relation.ReflTransGen.tail h k

theorem Claims.trans {s t u : State} (h : Claims s t) (k : Claims t u) : Claims s u :=
  Relation.ReflTransGen.trans h k

/-- What every elementary write keeps, work on claims keeps. -/
theorem Claims.keeps {P : State → Prop} (step : ∀ {s t : State}, Claim s t → P s → P t) {s t : State}
    (h : Claims s t) (hs : P s) : P t := by
  induction h with
  | refl => exact hs
  | tail _ claim ih => exact step claim ih

theorem ZoneDyn.Claimed.same {d e : ZoneDyn} (hold : e.hold = d.hold := by rfl)
    (swept : e.swept = d.swept := by rfl) : d.Claimed e := ⟨.inr (by rw [hold]), swept⟩

section Operations

variable {s₀ s : State} (h : Claims s₀ s)
include h

theorem Claims.ite {c : Prop} [Decidable c] {t : State} (ht : Claims s₀ t) :
    Claims s₀ (if c then s else t) := by
  split
  · exact h
  · exact ht

theorem Claims.foldl {β : Type} {f : State → β → State}
    (keeps : ∀ {s : State} (b : β), Claims s₀ s → Claims s₀ (f s b)) (bs : List β) :
    Claims s₀ (bs.foldl f s) := by
  induction bs generalizing s with
  | nil => exact h
  | cons b bs ih => exact ih (keeps b h)

theorem Claims.modZone (z : Zone) {f : ZoneDyn → ZoneDyn}
    (claimed : ∀ d, s.zones.get z = some d → d.Claimed (f d)) : Claims s₀ (s.modZone z f) := by
  cases record : s.zones.get z with
  | none => rwa [State.modZone_of_none record]
  | some d =>
    rw [State.modZone_of_record record]
    exact h.claim (.zone s z record (claimed d record))

theorem Claims.putBooking (b : Booking) : Claims s₀ (s.putBooking b) :=
  h.claim (.bookings s _ (s.putBooking_numbers b ▸ List.Sublist.refl _))

theorem Claims.dropBooking (num : Nat) : Claims s₀ (s.dropBooking num) :=
  h.claim (.bookings s _ (s.dropBooking_numbers num))

/-! ### The latches of the Zone Arbiter and a change of holders (R59, R60, R65, R68) -/

theorem Claims.notify (n : Station) (y : Notice) (other : (Frame.notice y).isWind = false := by rfl) :
    Claims s₀ (s.notify n y) := .ite h (h.claim (.raise s _ _ other))

theorem Claims.alarmBegins {i : AlarmId} (latch : (∃ n, i = .conflict n) ∨ ∃ n, i = .intrusion n) :
    Claims s₀ (s.alarmBegins i) := by
  have entered : Claims s₀ (s.setEntry i (s.alarms.get i).begins) := h.claim (.entry s i _ latch)
  simp only [State.alarmBegins]
  split
  · exact entered.claim (.raise _ _ _ rfl)
  · exact entered

theorem Claims.alarmIs {i : AlarmId} (latch : (∃ n, i = .conflict n) ∨ ∃ n, i = .intrusion n)
    (b : Bool) : Claims s₀ (s.alarmIs i b) :=
  .ite (h.alarmBegins latch) (h.claim (.entry s i _ latch))

theorem Claims.latchIntrusion (n : Station) : Claims s₀ (s.latchIntrusion n) :=
  .ite h (((h.claim (.arb s n _)).alarmBegins (.inr ⟨n, rfl⟩)).claim (.permit _ n))

theorem Claims.reevalConflict (n : Station) : Claims s₀ (s.reevalConflict n) :=
  .ite h (((h.claim (.arb s n _)).alarmIs (.inl ⟨n, rfl⟩) _).claim (.permit _ n))

theorem Claims.recoveryTest (n : Station) : Claims s₀ (s.recoveryTest n) :=
  .ite (((h.claim (.arb s n _)).claim (.entry _ (.intrusion n) _ (.inr ⟨n, rfl⟩))).claim (.permit _ n)) h

theorem Claims.holderTold (z : Zone) : Claims s₀ (s.holderTold z) :=
  h.foldl (fun n h => (h.claim (.clear _ n)).claim (.line _ n z)) _

theorem Claims.holderChanged (z : Zone) : Claims s₀ (s.holderChanged z) :=
  (h.holderTold z).foldl (fun n h => h.reevalConflict n) _

/-! ### Zones passed on (R52, R61) -/

theorem Claims.bookingPassed (num : Nat) (z : Zone) : Claims s₀ (s.bookingPassed num z) := by
  unfold State.bookingPassed
  split
  · exact h.putBooking _
  · exact h

theorem Claims.granted (z : Zone) (n : Station) (kind : GrantKind) : Claims s₀ (s.granted z n kind) :=
  ((h.notify n _).holderChanged z).recoveryTest n

/-- A zone without a holder is given to a station. -/
theorem Claims.give (z : Zone) (k : Holding) (entry : Timer)
    (free : ∀ d, s.zones.get z = some d → d.hold = none) :
    Claims s₀ (s.modZone z fun d => d.give k entry) :=
  h.modZone z fun d record => ⟨.inl (free d record), rfl⟩

theorem Claims.grantOrdinary (z : Zone) (n : Station)
    (free : ∀ d, s.zones.get z = some d → d.hold = none) : Claims s₀ (s.grantOrdinary z n) :=
  (h.give z _ _ free).granted z n _

theorem Claims.grantBooked (z : Zone) (n : Station)
    (free : ∀ d, s.zones.get z = some d → d.hold = none) : Claims s₀ (s.grantBooked z n) :=
  (h.give z _ _ free).granted z n _

theorem Claims.serve (z : Zone) : Claims s₀ (s.serve z) := by
  have only {d e : ZoneDyn} (record : s.zones.get z = some d) (free : d.hold = none)
      (same : s.zones.get z = some e) : e.hold = none := by
    rwa [← Option.some.inj (record.symm.trans same)]
  cases s.served z with
  | kept same => rwa [same]
  | ordinary d n _ record free _ _ _ same =>
    rw [same]; exact h.grantOrdinary z n fun _ => only record free
  | booked d num b record free _ _ _ _ same =>
    rw [same]; exact (h.grantBooked z b.station fun _ => only record free).bookingPassed num z

theorem Claims.serveMemberZones (n : Station) : Claims s₀ (s.serveMemberZones n) :=
  h.foldl (fun z h => h.serve z) _

theorem Claims.adoptZone {z : Zone} {n : Station} (opened : s.openTo z n = true) :
    Claims s₀ (s.adoptZone z n) := by
  obtain ⟨d, record, free, -, -⟩ := State.openTo_iff.mp opened
  have given (kind : GrantKind) : Claims s₀ (s.modZone z fun d => d.give ⟨n, kind, true⟩ .stopped) :=
    h.give z _ _ fun e same => by rwa [← Option.some.inj (record.symm.trans same)]
  unfold State.adoptZone
  split
  · split
    · exact ((given .booked).bookingPassed _ z).granted z n _
    · exact (given .ordinary).granted z n _
  · exact (given .ordinary).granted z n _

theorem Claims.adoptOne (n : Station) (z : Zone) : Claims s₀ (State.adoptOne n s z) := by
  unfold State.adoptOne
  split
  · exact h
  · split
    case isTrue opened => exact h.adoptZone opened
    case isFalse => exact h.latchIntrusion n

theorem Claims.adopt (n : Station) : Claims s₀ (s.adopt n) := h.foldl (fun z h => h.adoptOne n z) _

/-! ### Judging a report (R58) -/

theorem Claims.judgeEntry (n : Station) : Claims s₀ (s.judgeEntry n) := by
  refine h.foldl (fun z h => .ite (h.modZone z fun d _ => ?_) h) _
  cases hold : d.hold with
  | none => simpa [hold] using .same
  | some k =>
    dsimp only
    split
    · exact ⟨.inr (by simp [hold]), rfl⟩
    · exact .same

theorem Claims.judgeIntrusion (n : Station) : Claims s₀ (s.judgeIntrusion n) :=
  .ite h (h.latchIntrusion n)

theorem Claims.judgeDwells (n : Station) : Claims s₀ (s.judgeDwells n) := by
  refine h.foldl (fun z h => h.modZone z fun d _ => ?_) _
  split
  · split <;> exact .same
  · exact .same

theorem Claims.judgeConflicts (n : Station) : Claims s₀ (s.judgeConflicts n) :=
  h.foldl (fun n h => h.reevalConflict n) _

theorem Claims.judgeReport (n : Station) (joined : Bool) : Claims s₀ (s.judgeReport n joined) := by
  unfold State.judgeReport
  extract_lets adopted entered judged dwelt
  have adoptedClaims : Claims s₀ adopted := .ite (h.adopt n) h
  have enteredClaims : Claims s₀ entered := adoptedClaims.judgeEntry n
  have judgedClaims : Claims s₀ judged := .ite enteredClaims (enteredClaims.judgeIntrusion n)
  exact ((judgedClaims.judgeDwells n).judgeConflicts n).recoveryTest n

/-! ### Bookings (R158 .. R172) -/

theorem Claims.reserve (num : Nat) (zs : List Zone) : Claims s₀ (s.reserve num zs) :=
  h.foldl (f := fun s z => s.modZone z fun d => { d with reservation := some num })
    (fun z h => h.modZone z fun _ _ => .same) zs

theorem Claims.liftReservations (zs : List Zone) : Claims s₀ (s.liftReservations zs) :=
  (h.foldl (f := fun s z => s.modZone z fun d => { d with reservation := none })
    (fun z h => h.modZone z fun _ _ => .same) zs).foldl (fun z h => h.serve z) zs

theorem Claims.openZone (n : Station) (z : Zone) : Claims s₀ (State.openZone n s z) := by
  unfold State.openZone
  split
  case h_1 k holding =>
    split
    · refine h.modZone z fun d record => ⟨.inr ?_, rfl⟩
      rw [State.holding, record] at holding
      rw [show d.hold = some k from holding]
      rfl
    · exact h.modZone z fun _ _ => .same
  case h_2 holding =>
    split
    · exact h.modZone z fun _ _ => .same
    · refine h.grantBooked z n fun d record => ?_
      rw [State.holding, record] at holding
      exact holding

theorem Claims.openBooking (b : Booking) (remaining ends : Nat) :
    Claims s₀ (s.openBooking b remaining ends) :=
  ((h.putBooking _).foldl (fun z h => h.openZone b.station z) _).putBooking _

theorem Claims.endZone (b : Booking) (z : Zone) : Claims s₀ (State.endZone b s z) := by
  refine h.modZone z fun d _ => ?_
  dsimp only
  cases hold : d.hold with
  | none => exact ⟨.inl hold, rfl⟩
  | some k =>
    dsimp only
    split
    · exact ⟨.inr (by simp [hold]), rfl⟩
    · exact ⟨.inr (by simp [hold]), rfl⟩

theorem Claims.endBooking (b : Booking) (e : Ending) : Claims s₀ (s.endBooking b e) := by
  unfold State.endBooking
  extract_lets ended lifted r c written told reported
  have endedClaims : Claims s₀ ended := h.foldl (fun z h => h.endZone b z) _
  have liftedClaims : Claims s₀ lifted :=
    .ite endedClaims ((endedClaims.liftReservations _).serveMemberZones _)
  have reportedClaims : Claims s₀ reported :=
    ((liftedClaims.claim (.ended _ _ _)).notify _ _).claim (.raise _ _ _ rfl)
  split
  · exact reportedClaims.putBooking _
  · exact reportedClaims.dropBooking _

theorem Claims.leadBooking (b : Booking) : Claims s₀ (s.leadBooking b) := (h.putBooking _).reserve _ _

theorem Claims.startBooking (b : Booking) : Claims s₀ (s.startBooking b) := by
  unfold State.startBooking
  split
  · exact h.putBooking _
  · split
    · exact h.putBooking _
    · exact h.putBooking _
    · exact h.openBooking b _ _
    · exact h.openBooking b _ _

/-- A step of the booking timeline is work on claims when it is at each booking. -/
theorem Claims.overBookings {f : State → Booking → State}
    (keeps : ∀ {t : State} (b : Booking), Claims s₀ t → Claims s₀ (f t b)) (sel : Nat → Bool) :
    Claims s₀ (s.overBookings sel f) := by
  refine h.foldl (fun {t} num ht => ?_) _
  split
  · exact keeps _ ht
  · exact ht

theorem Claims.stepRemaining (b : Booking) : Claims s₀ (s.stepRemaining b) := by
  unfold State.stepRemaining
  split
  · split
    · exact h.endBooking b _
    · exact h
  · exact h

theorem Claims.stepExpiry (b : Booking) : Claims s₀ (s.stepExpiry b) := by
  unfold State.stepExpiry
  split
  · exact h
  · split
    · exact h.endBooking b _
    · exact h

theorem Claims.settleBookings : Claims s₀ s.settleBookings := by
  have ends := (h.overBookings (fun b h => h.stepRemaining b) fun _ => true).overBookings
    (fun b h => h.stepExpiry b) fun _ => true
  exact (ends.overBookings (f := State.stepLead) (fun b h => .ite (h.leadBooking b) h)
    fun _ => true).overBookings (f := State.stepStart) (fun b h => .ite (h.startBooking b) h) fun _ => true

theorem Claims.loadRise (n : Station) : Claims s₀ (s.loadRise n) := by
  unfold State.loadRise
  split
  · split
    · exact h.openBooking _ _ _
    · exact h.openBooking _ _ _
    · exact h
    · exact h
  · exact h

theorem Claims.bookingStageTold (stage : Stage) (b : Booking) :
    Claims s₀ (State.bookingStageTold stage s b) := by
  have lapses (e : Nat) : Claims s₀
      (if e ≤ s.clock.time then s.endBooking b .lapsedDeferred
        else s.openBooking b (e - s.clock.time) e) :=
    .ite (h.endBooking b _) (h.openBooking b _ _)
  unfold State.bookingStageTold
  split
  · exact h.endBooking b _
  · exact h.endBooking b _
  · exact lapses _
  · exact lapses _
  · exact h

theorem Claims.stageToldBookings (n : Station) (stage : Stage) :
    Claims s₀ (s.stageToldBookings n stage) :=
  h.overBookings (fun b h => h.bookingStageTold stage b) _

theorem Claims.abortForClearance (k : Station) (z : Zone) : Claims s₀ (s.abortForClearance k z) := by
  unfold State.abortForClearance
  split
  · exact h.endBooking _ _
  · exact h

theorem Claims.requestClearance (v : Station) (zh : Zone × Station) :
    Claims s₀ (State.requestClearance v s zh) :=
  (h.abortForClearance _ _).notify _ _

end Operations

end Sys2Proof.Machine
end

section
/-! What work on claims keeps: the holders, the swept sets, the vane contexts but for the clear condition met,
and the alarm entries of the other blocks. -/

namespace Sys2Proof.Machine

open Sys2Proof.Safety

/-! ### Vane contexts that are told of holders -/

/-- What a station's vane context may become when it is told of changes of holders: a line of a swing is
withdrawn, and a CLEARING station whose clear condition was met becomes CLEAR (R134, R136). -/
inductive VaneCtx.Told (met : Bool) (c : VaneCtx) : VaneCtx → Prop
  | kept : c.Told met c
  | line (vaning : c.vane = .vaning) : c.Told met { c with vc := false }
  | cleared (clearing : c.vane = .clearing) (condition : met = true) :
      c.Told met { c with vane := .clear, timer := .stopped, vc := true, overdue := false }

theorem VaneCtx.Told.trans {met met' : Bool} {c d e : VaneCtx} (h : c.Told met d) (k : d.Told met' e)
    (mono : met' = true → met = true) : c.Told met e := by
  cases h with
  | kept => cases k with
    | kept => exact .kept
    | line vaning => exact .line vaning
    | cleared clearing condition => exact .cleared clearing (mono condition)
  | line vaning => cases k with
    | kept => exact .line vaning
    | line => exact .line vaning
    | cleared clearing => exact absurd (vaning.symm.trans clearing) nofun
  | cleared clearing condition => cases k with
    | kept => exact .cleared clearing condition
    | line vaning => cases vaning
    | cleared clearing => cases clearing

section
variable {met : Bool} {c d : VaneCtx} (h : c.Told met d)
include h

theorem VaneCtx.Told.unsafeLatched : d.unsafeLatched = c.unsafeLatched := by cases h <;> rfl

theorem VaneCtx.Told.lastReleased : d.lastReleased = c.lastReleased := by cases h <;> rfl

theorem VaneCtx.Told.of_vaning (vaning : c.vane = .vaning) : d = { c with vc := d.vc } := by
  cases h with
  | kept => rfl
  | line => rfl
  | cleared clearing => exact absurd (vaning.symm.trans clearing) nofun

theorem VaneCtx.Told.line_off (vaning : c.vane = .vaning) (off : c.vc = false) : d.vc = false := by
  cases h with
  | kept => exact off
  | line => rfl
  | cleared clearing => exact absurd (vaning.symm.trans clearing) nofun

theorem VaneCtx.Told.vane_eq_vaning_iff : d.vane = .vaning ↔ c.vane = .vaning := by
  cases h with
  | kept => exact .rfl
  | line => exact .rfl
  | cleared clearing => exact ⟨fun e => absurd e nofun, fun e => absurd (e.symm.trans clearing) nofun⟩

/-- The context of a station that does not swing stays while the clear condition does not hold. -/
theorem VaneCtx.Told.of_unmet (still : c.vane ≠ .vaning) (unmet : met = false) : d = c := by
  cases h with
  | kept => rfl
  | line vaning => exact absurd vaning still
  | cleared _ condition => exact absurd (unmet.symm.trans condition) nofun

theorem VaneCtx.Told.of_braked (braked : c.vane = .braked) : d = c := by
  cases h with
  | kept => rfl
  | line vaning => exact absurd (braked.symm.trans vaning) nofun
  | cleared clearing => exact absurd (braked.symm.trans clearing) nofun

theorem VaneCtx.Told.of_clear (clear : c.vane = .clear) : d = c := by
  cases h with
  | kept => rfl
  | line vaning => exact absurd (clear.symm.trans vaning) nofun
  | cleared clearing => exact absurd (clear.symm.trans clearing) nofun

end

/-! ### The relation -/

/-- The alarm entries that work on claims and a report's judgement write. -/
def AlarmId.judged : AlarmId → Bool
  | .conflict _ | .intrusion _ | .clearanceOverdue _ | .linkStale _ => true
  | _ => false

/-- No holder is removed, and v_wind and the entries of the other alarms are kept. -/
structure HoldersKept (s t : State) : Prop where
  live : t.plan.live = s.plan.live
  speed : ∀ n, (t.lim.get n).vWind = (s.lim.get n).vWind
  holder : ∀ z h, s.holder z = some h → t.holder z = some h
  alarms : ∀ i, i.judged = false → t.alarms.get i = s.alarms.get i

/-- What work on claims keeps. -/
structure ClaimsKept (s t : State) : Prop extends HoldersKept s t where
  swept : ∀ z, (t.zones.get z).map (·.swept) = (s.zones.get z).map (·.swept)
  vane : ∀ n, (s.vane.get n).Told (s.clearCondition n) (t.vane.get n)

theorem State.clearCondition_iff {s : State} {n : Station} : s.clearCondition n = true ↔
    (s.lim.get n).vWind = 0 ∧ ∀ z ∈ s.memberZones n, ∀ h, s.holder z = some h → h = n := by
  rw [State.clearCondition, Bool.and_eq_true, decide_eq_true_eq, State.zonesClearFor_iff]

section
variable {s t u : State}

theorem HoldersKept.refl (s : State) : HoldersKept s s :=
  ⟨rfl, fun _ => rfl, fun _ _ => id, fun _ _ => rfl⟩

theorem HoldersKept.trans (h : HoldersKept s t) (k : HoldersKept t u) : HoldersKept s u :=
  ⟨k.live.trans h.live, fun n => (k.speed n).trans (h.speed n),
    fun z j held => k.holder z j (h.holder z j held),
    fun i other => (k.alarms i other).trans (h.alarms i other)⟩

/-- A write of none of these fields. -/
theorem HoldersKept.of_eq (live : t.plan.live = s.plan.live := by rfl) (lim : t.lim = s.lim := by rfl)
    (zones : t.zones = s.zones := by rfl)
    (alarms : ∀ i, i.judged = false → t.alarms.get i = s.alarms.get i := by exact fun _ _ => rfl) :
    HoldersKept s t where
  live := live
  speed := fun n => by rw [lim]
  holder := fun z h held => by rwa [State.holder, State.holding, zones]
  alarms := alarms

/-- A clear condition that holds has held, for no holder has been removed. -/
theorem HoldersKept.clearCondition (h : HoldersKept s t) {n : Station}
    (met : t.clearCondition n = true) : s.clearCondition n = true := by
  obtain ⟨still, clear⟩ := State.clearCondition_iff.mp met
  refine State.clearCondition_iff.mpr ⟨(h.speed n).symm.trans still, fun z mem k held => ?_⟩
  exact clear z (by rwa [State.memberZones_of_live h.live]) k (h.holder z k held)

theorem HoldersKept.unmet (h : HoldersKept s t) {n : Station} (unmet : s.clearCondition n = false) :
    t.clearCondition n = false :=
  Bool.eq_false_iff.mpr fun met => absurd (unmet.symm.trans (h.clearCondition met)) nofun

theorem ClaimsKept.refl (s : State) : ClaimsKept s s := ⟨.refl s, fun _ => rfl, fun _ => .kept⟩

theorem ClaimsKept.trans (h : ClaimsKept s t) (k : ClaimsKept t u) : ClaimsKept s u :=
  ⟨h.toHoldersKept.trans k.toHoldersKept, fun z => (k.swept z).trans (h.swept z),
    fun n => (h.vane n).trans (k.vane n) h.clearCondition⟩

/-- A write of none of these fields. -/
theorem ClaimsKept.of_eq (live : t.plan.live = s.plan.live := by rfl)
    (speed : ∀ n, (t.lim.get n).vWind = (s.lim.get n).vWind := by exact fun _ => rfl)
    (zones : t.zones = s.zones := by rfl) (vane : t.vane = s.vane := by rfl)
    (alarms : ∀ i, i.judged = false → t.alarms.get i = s.alarms.get i := by exact fun _ _ => rfl) :
    ClaimsKept s t where
  live := live
  speed := speed
  holder := fun z h held => by rwa [State.holder, State.holding, zones]
  swept := fun z => by rw [zones]
  vane := fun n => by rw [vane]; exact .kept
  alarms := alarms

theorem ClaimsKept.raise (s : State) (l : Link) (f : Frame) : ClaimsKept s (s.raise l f) := by
  have frame := AlarmFrame.raise s l f
  exact .of_eq (by rw [frame]) (fun _ => by rw [frame]) (by rw [frame]) frame.vane
    fun _ _ => by rw [State.raise_alarms]

theorem ClaimsKept.setCtx (s : State) (n : Station) (c : StationCtx) : ClaimsKept s (s.setCtx n c) :=
  .of_eq

theorem ClaimsKept.of_permit {n : Station} (h : PermitFrame n s t)
    (speed : ∀ m, (t.lim.get m).vWind = (s.lim.get m).vWind) : ClaimsKept s t :=
  .of_eq (by rw [h.frame]) speed (by rw [h.frame]) (by rw [h.frame]) fun _ _ => by rw [h.frame]

theorem ClaimsKept.reevalPermit (s : State) (n : Station) : ClaimsKept s (s.reevalPermit n) :=
  .of_permit (.reevalPermit s n) fun m => ((holderWork_reevalPermit s n).2 m).2

theorem ClaimsKept.recompute (s : State) (n : Station) : ClaimsKept s (s.recompute n) :=
  .of_permit (.recompute s n) fun m => ((holderWork_recompute s n).2 m).2

theorem ClaimsKept.setEntry (s : State) {i : AlarmId} (e : Entry) (judged : i.judged = true) :
    ClaimsKept s (s.setEntry i e) := by
  refine .of_eq (alarms := fun j other => AlarmTable.get_set_ne ?_)
  rintro rfl
  exact absurd (judged.symm.trans other) nofun

theorem ClaimsKept.setZone {z : Zone} {d e : ZoneDyn} (record : s.zones.get z = some d)
    (claimed : d.Claimed e) : ClaimsKept s (s.setZone z (some e)) where
  live := rfl
  speed := fun _ => rfl
  holder := fun y h held => by
    by_cases same : y = z
    · subst same
      rw [State.setZone_holder, if_pos rfl]
      rw [State.holder, State.holding, record] at held
      change d.hold.map (·.station) = some h at held
      rcases claimed.holder with free | kept
      · rw [free] at held; cases held
      · exact kept.trans held
    · rwa [State.setZone_holder, if_neg same]
  swept := fun y => by
    by_cases same : y = z
    · subst same
      simp [State.setZone, record, claimed.swept]
    · simp [State.setZone, same]
  vane := fun _ => .kept
  alarms := fun _ _ => rfl

theorem ClaimsKept.judgeClear (s : State) (n : Station) : ClaimsKept s (s.judgeClear n) where
  live := by rw [(OwnFrame.judgeClear s n).frame]
  speed := fun m => ((holderWork_judgeClear s n).2 m).2
  holder := fun z h held => by
    rwa [State.holder, State.holding, zones_of_holderWork (holderWork_judgeClear s n)]
  swept := fun z => by rw [zones_of_holderWork (holderWork_judgeClear s n)]
  vane := fun m => by
    rw [State.judgeClear_vane]
    split
    · next judged =>
      obtain ⟨rfl, clearing, met⟩ := judged
      exact .cleared clearing met
    · exact .kept
  alarms := fun i other => State.judgeClear_get_ne s n (by rintro rfl; cases other)

theorem ClaimsKept.judgeSwingLine (s : State) (n : Station) (z : Zone) :
    ClaimsKept s (s.judgeSwingLine n z) where
  live := by rw [(holderWork_judgeSwingLine s n z).1]
  speed := fun m => ((holderWork_judgeSwingLine s n z).2 m).2
  holder := fun y h held => by
    rwa [State.holder, State.holding, zones_of_holderWork (holderWork_judgeSwingLine s n z)]
  swept := fun y => by rw [zones_of_holderWork (holderWork_judgeSwingLine s n z)]
  vane := fun m => by
    rw [State.judgeSwingLine_vane]
    split
    · next judged =>
      obtain ⟨rfl, vaning, -⟩ := judged
      exact .line vaning
    · exact .kept
  alarms := fun i _ => by rw [State.judgeSwingLine_alarms]

theorem Claim.kept (h : Claim s t) : ClaimsKept s t := by
  cases h with
  | raise l f _ => exact .raise s l f
  | permit n => exact .reevalPermit s n
  | arb n c => exact .of_eq
  | entry i e latch => rcases latch with ⟨n, rfl⟩ | ⟨n, rfl⟩ <;> exact .setEntry s e rfl
  | zone z record claimed => exact .setZone record claimed
  | clear n => exact .judgeClear s n
  | line n z => exact .judgeSwingLine s n z
  | bookings bs _ => exact .of_eq
  | ended n e => exact .setCtx s n _

theorem Claims.kept (h : Claims s t) : ClaimsKept s t :=
  h.keeps (P := ClaimsKept s) (fun claim ih => ih.trans claim.kept) (.refl s)

theorem ClaimsKept.staleEnds (s : State) (n : Station) (was : LinkState) :
    ClaimsKept s (s.staleEnds n was) := by
  unfold State.staleEnds
  split
  · exact .setEntry s _ rfl
  · exact .refl s

end

end Sys2Proof.Machine
end

section
/-! The brake state of a report (R137 .. R142), through the rest of the report's handling. -/

namespace Sys2Proof.Machine

open Sys2Proof.Safety

/-! ### Handling a report (R29) -/

section
variable {s : State} {n : Station} {angle : Angle} {radius profile : Nat} {loaded released : Bool}

/-- The state in which the report of a station has been taken by the Station Unit alone (R28). -/
def State.reportTaken (s : State) (n : Station) (angle : Angle) (radius profile : Nat)
    (loaded released : Bool) : State :=
  s.setCtx n ((s.ctx.get n).report (s.station n) angle radius profile loaded released)

/-- The state in which the brake state of a report has been taken (R142). -/
def State.reportBraked (s : State) (n : Station) (angle : Angle) (radius profile : Nat)
    (loaded released : Bool) : State :=
  (s.reportTaken n angle radius profile loaded released).takeBrake n released

/-- The state in which the load rise of a report has been passed on (R161). -/
def State.reportRisen (s : State) (n : Station) (angle : Angle) (radius profile : Nat)
    (loaded released : Bool) : State :=
  if s.loadRises n loaded then (s.reportBraked n angle radius profile loaded released).loadRise n
  else s.reportBraked n angle radius profile loaded released

theorem State.report_eq : s.report n angle radius profile loaded released =
    (((s.reportRisen n angle radius profile loaded released).reportJudged n).restartReport n).recompute
      n := rfl

theorem Claims.reportRisen : Claims (s.reportBraked n angle radius profile loaded released)
    (s.reportRisen n angle radius profile loaded released) :=
  .ite ((Claims.refl _).loadRise n) (.refl _)

theorem ClaimsKept.reportJudged (s : State) (n : Station) : ClaimsKept s (s.reportJudged n) :=
  ((ClaimsKept.setCtx s n _).trans (.staleEnds _ n _)).trans ((Claims.refl _).judgeReport n _).kept

theorem ClaimsKept.restartReport (s : State) (n : Station) : ClaimsKept s (s.restartReport n) :=
  (ClaimsKept.setCtx s n _).trans (.reevalPermit _ n)

/-- After the brake state has been taken, the handling of a report is work on claims and on the station's own
link. -/
theorem State.report_kept : ClaimsKept (s.reportBraked n angle radius profile loaded released)
    (s.report n angle radius profile loaded released) :=
  (Claims.reportRisen.kept.trans (.reportJudged _ n)).trans ((ClaimsKept.restartReport _ n).trans (.recompute _ n))

theorem State.settleBookings_link (s : State) (n : Station) :
    (s.settleBookings.ctx.get n).link = (s.ctx.get n).link := by
  rw [((zoneWork_settleBookings s).2 n).1]

theorem State.beforeReport_link (s : State) (n m : Station) (loaded : Bool) :
    ((s.beforeReport n loaded).ctx.get m).link = (s.ctx.get m).link := by
  unfold State.beforeReport
  split
  · exact s.settleBookings_link m
  · rfl

theorem Claims.beforeReport (s : State) (n : Station) (loaded : Bool) :
    Claims s (s.beforeReport n loaded) :=
  .ite (Claims.refl s).settleBookings (.refl s)

/-- The answer to a report of a station that is not OFFLINE, after the report's handling (R24, R33). -/
theorem exec_position (linked : (s.ctx.get n).link ≠ .offline) :
    let u := ((s.beforeReport n loaded).taken (.crane n)).report n angle radius profile loaded released
    exec (.position n angle radius profile loaded released) s =
      .next (u.replies (.crane n) (.answer 0x02 .ok (.position (u.positionAnswer n)))) := by
  intro u
  have on : (((s.beforeReport n loaded).taken (.crane n)).ctx.get n).link ≠ .offline := by
    change ((s.beforeReport n loaded).ctx.get n).link ≠ .offline
    rwa [State.beforeReport_link]
  exact congrArg Host.Outcome.next (craneRequest_of_work (if_neg on))

end

/-! ### The swing -/

/-- The station swings, and stands in the swept set of each of its zones. -/
structure State.Swept (s : State) (n : Station) : Prop where
  vaning : (s.vane.get n).vane = .vaning
  swept : ∀ z ∈ s.memberZones n, s.At z fun d => d.swept.get n = true

/-- The station swings after an unsafe release. -/
structure State.SweptUnsafely (s : State) (n : Station) : Prop extends s.Swept n where
  latched : (s.vane.get n).unsafeLatched = true
  line : (s.vane.get n).vc = false
  timer : (s.vane.get n).timer = .stopped
  entry : (s.alarms.get (.unsafeVane n)).state = .active

section
variable {s t : State} {n : Station}

theorem State.Swept.kept (h : s.Swept n) (k : ClaimsKept s t) : t.Swept n where
  vaning := (k.vane n).vane_eq_vaning_iff.mpr h.vaning
  swept := fun z mem d record => by
    rw [State.memberZones_of_live k.live] at mem
    have same := k.swept z
    rw [record] at same
    obtain ⟨e, before, eq⟩ := Option.map_eq_some_iff.mp same.symm
    exact (congrArg (PerStation.get · n) eq).symm.trans (h.swept z mem e before)

theorem State.SweptUnsafely.kept (h : s.SweptUnsafely n) (k : ClaimsKept s t) : t.SweptUnsafely n where
  toSwept := h.toSwept.kept k
  latched := (k.vane n).unsafeLatched.trans h.latched
  line := (k.vane n).line_off h.vaning h.line
  timer := by
    rw [(k.vane n).of_vaning h.vaning]
    exact h.timer
  entry := (congrArg Entry.state (k.alarms _ rfl)).trans h.entry

/-- The stations begin to sweep their zones as their vane contexts are written. -/
theorem State.Swept.of_sweepAdd {c : VaneCtx} (vaning : c.vane = .vaning) :
    ((s.sweepAdd n).setVane n c).Swept n where
  vaning := by simpa using vaning
  swept := fun z mem d record => by
    rw [State.memberZones_of_live (s := s) (by exact congrArg (·.live) (s.sweepAdd_plan n))] at mem
    change (s.sweepAdd n).zones.get z = some d at record
    rw [State.sweepAdd_get, if_pos mem] at record
    obtain ⟨e, -, rfl⟩ := Option.map_eq_some_iff.mp record
    exact PerStation.get_set_same _ _ _

theorem State.beginSwing_swept : (s.beginSwing n).Swept n :=
  State.Swept.kept (.of_sweepAdd rfl) ((Claims.refl _).serveMemberZones n).kept

/-- Clearance overdue is no part of a swing. -/
theorem State.SweptUnsafely.setOverdue (h : s.SweptUnsafely n) (b : Bool) :
    (s.setOverdue n b).SweptUnsafely n := by
  have own := OwnFrame.setOverdue s n b
  have vane : (s.setOverdue n b).vane.get n = { s.vane.get n with overdue := b } := by
    rw [State.setOverdue_vane, if_pos rfl]
  refine ⟨⟨by rw [vane]; exact h.vaning, fun z mem => ?_⟩, by rw [vane]; exact h.latched,
    by rw [vane]; exact h.line, by rw [vane]; exact h.timer, by rw [own.alarms (.unsafeVane n) nofun]; exact h.entry⟩
  rw [State.memberZones_of_live (by rw [own.frame])] at mem
  rw [State.At, own.frame]
  exact h.swept z mem

theorem State.unsafeRelease_swept : (s.unsafeRelease n).SweptUnsafely n := by
  unfold State.unsafeRelease
  extract_lets wasClearing c latched swept d vaning opened
  have alarm := AlarmFrame.alarmBegins latched (.unsafeVane n)
  have begun : vaning.SweptUnsafely n := by
    have context : swept.vane.get n = latched.vane.get n := by
      change ((latched.alarmBegins _).sweepAdd n).vane.get n = _
      rw [State.sweepAdd_vane, alarm.vane]
    refine ⟨State.Swept.of_sweepAdd (c := { d with vane := .vaning, timer := .stopped, vc := false }) rfl,
      ?_, ?_, ?_, ?_⟩
    · simp [vaning, d, context, latched]
    · simp [vaning]
    · simp [vaning]
    · have entry : vaning.alarms = (latched.alarmBegins (.unsafeVane n)).alarms := by
        change ((latched.alarmBegins _).sweepAdd n).alarms = _
        rw [State.sweepAdd_frame]
      rw [entry, State.alarmBegins_get, if_pos rfl, Entry.begins_state]
  have told : opened.SweptUnsafely n := by
    change (if wasClearing = true then (vaning.setOverdue n false).serveMemberZones n else vaning).SweptUnsafely n
    split
    · exact (begun.setOverdue false).kept ((Claims.refl _).serveMemberZones n).kept
    · exact begun
  exact told.kept (.reevalPermit _ n)

end

/-! ### The return from the swing (R138, R141) -/

section
variable {s t : State} {n : Station}

theorem HoldersKept.setVane (s : State) (n : Station) (c : VaneCtx) : HoldersKept s (s.setVane n c) := .of_eq

theorem HoldersKept.setOverdue (s : State) (n : Station) (b : Bool) : HoldersKept s (s.setOverdue n b) where
  live := by rw [(OwnFrame.setOverdue s n b).frame]
  speed := fun m => ((holderWork_setOverdue s n b).2 m).2
  holder := fun z h held => by
    rwa [State.holder, State.holding, zones_of_holderWork (holderWork_setOverdue s n b)]
  alarms := fun i other => State.setOverdue_get_ne s n b (by rintro rfl; cases other)

theorem State.sweepOff_frame (s : State) (v : Station) :
    s.sweepOff v = { s with zones := (s.sweepOff v).zones } := by
  refine foldl_related (R := fun s t : State => t = { s with zones := t.zones })
    (fun _ => rfl) (fun {s t u} h k => ?_) (fun s z => s.modZone_frame z _) s Zone.all
  calc u = { t with zones := u.zones } := k
    _ = { s with zones := u.zones } := by rw [h]

theorem State.sweepOff_holder (s : State) (v : Station) (z : Zone) :
    (s.sweepOff v).holder z = s.holder z := by
  refine foldl_related (R := fun s t : State => t.holder z = s.holder z) (fun _ => rfl)
    (fun h k => k.trans h) (fun t y => ?_) s Zone.all
  rw [State.holder, State.holder, State.holding, State.holding, State.modZone_get]
  split
  · next same => subst same; cases t.zones.get z <;> rfl
  · rfl

theorem HoldersKept.sweepOff (s : State) (v : Station) : HoldersKept s (s.sweepOff v) where
  live := by rw [s.sweepOff_frame v]
  speed := fun _ => by rw [s.sweepOff_frame v]
  holder := fun z h held => (s.sweepOff_holder v z).trans held
  alarms := fun _ _ => by rw [s.sweepOff_frame v]

theorem Claims.sweepRemove (s : State) (v : Station) : Claims (s.sweepOff v) (s.sweepRemove v) :=
  Claims.foldl (f := State.reevalConflict) ((Claims.refl (s.sweepOff v)).serveMemberZones v)
    (fun m h => h.reevalConflict m) _

theorem HoldersKept.sweepRemove (s : State) (v : Station) : HoldersKept s (s.sweepRemove v) :=
  (HoldersKept.sweepOff s v).trans (Claims.sweepRemove s v).kept.toHoldersKept

/-- A station that does not swing and does not meet the clear condition keeps its context while a swing's swept
entries go. -/
theorem State.sweepRemove_vane_unmet (still : (s.vane.get n).vane ≠ .vaning)
    (unmet : s.clearCondition n = false) (v : Station) :
    (s.sweepRemove v).vane.get n = s.vane.get n := by
  have off : (s.sweepOff v).vane = s.vane := by rw [s.sweepOff_frame v]
  have told := (Claims.sweepRemove s v).kept.vane n
  rw [off] at told
  exact told.of_unmet still ((HoldersKept.sweepOff s v).unmet unmet)

theorem State.sweepRemove_vane (settled : (s.vane.get n).vane = .clear ∨ (s.vane.get n).vane = .braked)
    (v : Station) : (s.sweepRemove v).vane.get n = s.vane.get n := by
  have off : (s.sweepOff v).vane = s.vane := by rw [s.sweepOff_frame v]
  have told := (Claims.sweepRemove s v).kept.vane n
  rw [off] at told
  exact settled.elim told.of_clear told.of_braked

/-- The neighbours of a CLEARING station have been asked (R133). -/
def State.neighboursAsked (s : State) (v : Station) : State :=
  (s.othersHolding v).foldl (State.requestClearance v) s

theorem Claims.neighboursAsked (s : State) (v : Station) : Claims s (s.neighboursAsked v) :=
  (Claims.refl s).foldl (fun zh h => h.requestClearance v zh) _

theorem HoldersKept.startClearanceTimer (s : State) (v : Station) :
    HoldersKept s (s.startClearanceTimer v) :=
  (HoldersKept.setVane s v _).trans (.setOverdue _ v false)

theorem HoldersKept.clearNeighbours (s : State) (v : Station) : HoldersKept s (s.clearNeighbours v) :=
  ((Claims.neighboursAsked s v).kept.toHoldersKept.trans (.startClearanceTimer _ v)).trans
    (ClaimsKept.judgeClear _ v).toHoldersKept

/-- The clearance timer of a CLEARING station has started, with clearance overdue absent (R132). -/
theorem State.clearNeighbours_vane_unmet (clearing : (s.vane.get n).vane = .clearing)
    (unmet : s.clearCondition n = false) : (s.clearNeighbours n).vane.get n =
      { s.vane.get n with timer := .running s.plan.live.site.clearanceTimeout, overdue := false } := by
  have asked := (Claims.neighboursAsked s n).kept
  have here : (s.neighboursAsked n).vane.get n = s.vane.get n :=
    (asked.vane n).of_unmet (by rw [clearing]; nofun) unmet
  have started : ((s.neighboursAsked n).startClearanceTimer n).vane.get n =
      { s.vane.get n with timer := .running s.plan.live.site.clearanceTimeout, overdue := false } := by
    rw [State.startClearanceTimer, State.setOverdue_vane, if_pos rfl, State.setVane_vane,
      PerStation.get_set_same, here, asked.live]
  have later := (ClaimsKept.judgeClear ((s.neighboursAsked n).startClearanceTimer n) n).vane n
  rw [started] at later
  exact later.of_unmet (by rw [clearing]; nofun)
    (((asked.toHoldersKept.trans (.startClearanceTimer _ n))).unmet unmet)

theorem HoldersKept.swingToClearance (s : State) (v : Station) : HoldersKept s (s.swingToClearance v) := by
  unfold State.swingToClearance
  refine HoldersKept.trans ?_ (.sweepRemove _ v)
  split
  · exact .setVane s v _
  · exact (HoldersKept.setVane s v _).trans (.clearNeighbours _ v)

theorem HoldersKept.returnToService (s : State) (v : Station) : HoldersKept s (s.returnToService v) :=
  ((HoldersKept.setVane s v _).trans ((Claims.refl _).adopt v).kept.toHoldersKept).trans (.sweepRemove _ v)

theorem State.swingToClearance_vane_met (met : s.clearCondition n = true) :
    (s.swingToClearance n).vane.get n = { s.vane.get n with vane := .clear, vc := true } := by
  rw [State.swingToClearance, if_pos met, State.sweepRemove_vane (.inl (by simp))]
  simp

theorem State.swingToClearance_vane_unmet (unmet : s.clearCondition n = false) :
    (s.swingToClearance n).vane.get n = { s.vane.get n with
      vane := .clearing, vc := false, timer := .running s.plan.live.site.clearanceTimeout,
      overdue := false } := by
  set t := s.setVane n { s.vane.get n with vane := .clearing, vc := false } with clearing
  have here : t.vane.get n = { s.vane.get n with vane := .clearing, vc := false } := by simp [clearing]
  have vane := State.clearNeighbours_vane_unmet (s := t) (n := n) (by rw [here])
    ((HoldersKept.setVane s n _).unmet unmet)
  rw [State.swingToClearance, if_neg (by rw [unmet]; nofun), ← clearing,
    State.sweepRemove_vane_unmet (by rw [vane, here]; nofun)
      (((HoldersKept.setVane s n _).trans (.clearNeighbours _ n)).unmet unmet), vane, here]
  rfl

theorem State.returnToService_vane :
    (s.returnToService n).vane.get n = { s.vane.get n with vane := .braked, vc := false } := by
  set t := s.setVane n { s.vane.get n with vane := .braked, vc := false } with braked
  have here : t.vane.get n = { s.vane.get n with vane := .braked, vc := false } := by simp [braked]
  have adopted : (t.adopt n).vane.get n = t.vane.get n :=
    (((Claims.refl t).adopt n).kept.vane n).of_braked (by rw [here])
  rw [State.returnToService, ← braked, State.sweepRemove_vane (.inr (by rw [adopted, here])), adopted, here]

/-- What the clearing of unsafe vane latched writes (R141). -/
theorem State.unsafeCleared_vane (s : State) (n : Station) :
    ∃ latched, (s.unsafeCleared n).vane.get n = { s.vane.get n with unsafeLatched := latched } := by
  unfold State.unsafeCleared
  split
  · exact ⟨false, by rw [State.reevalPermit_vane]; simp⟩
  · exact ⟨(s.vane.get n).unsafeLatched, rfl⟩

theorem State.unsafeCleared_alarms (s : State) (n : Station) : (s.unsafeCleared n).alarms = s.alarms := by
  unfold State.unsafeCleared
  split
  · rw [State.reevalPermit_alarms]; rfl
  · rfl

/-- The state in which a swing has ended, before the end of its alarm condition (R138). -/
def State.swingLeft (s : State) (v : Station) : State :=
  if s.inForce v then s.swingToClearance v else s.returnToService v

theorem State.endSwing_eq (s : State) (v : Station) :
    s.endSwing v = ((s.swingLeft v).alarmEnds (.unsafeVane v)).unsafeCleared v := rfl

theorem HoldersKept.swingLeft (s : State) (v : Station) : HoldersKept s (s.swingLeft v) := by
  unfold State.swingLeft
  split
  · exact .swingToClearance s v
  · exact .returnToService s v

theorem State.endSwing_vane (s : State) (n : Station) : ∃ latched,
    (s.endSwing n).vane.get n = { (s.swingLeft n).vane.get n with unsafeLatched := latched } :=
  State.unsafeCleared_vane _ n

theorem State.endSwing_entry (s : State) (n : Station) :
    (s.endSwing n).alarms.get (.unsafeVane n) = (s.alarms.get (.unsafeVane n)).ends .latching := by
  rw [State.endSwing_eq, State.unsafeCleared_alarms, State.alarmEnds_get, if_pos rfl,
    (HoldersKept.swingLeft s n).alarms _ rfl]
  rfl

theorem State.endSwing_latched (h : ((s.endSwing n).alarms.get (.unsafeVane n)).state = .clear) :
    ((s.endSwing n).vane.get n).unsafeLatched = false :=
  State.unsafeCleared_latched _ n (by rwa [State.endSwing_eq, State.unsafeCleared_alarms] at h)

end

end Sys2Proof.Machine
end

section
/-! Releases and the swing (R137 .. R142). -/

namespace Sys2Proof.Machine

open Sys2Proof.Safety

/-! ### The transitions of the brake (R142) -/

section
variable {s : State} {n : Station}

/-- The last brake state of a station, as its report gives it (R142). -/
def State.brakeTold (s : State) (n : Station) (released : Bool) : State :=
  s.setVane n { s.vane.get n with lastReleased := released }

theorem State.takeBrake_of_clear (clear : (s.vane.get n).vane = .clear) :
    s.takeBrake n true = (s.brakeTold n true).beginSwing n := by
  simp only [State.takeBrake, clear, State.brakeTold]

theorem State.takeBrake_of_held (held : (s.vane.get n).vane = .braked ∨ (s.vane.get n).vane = .clearing) :
    s.takeBrake n true = (s.brakeTold n true).unsafeRelease n := by
  rcases held with vane | vane <;> simp only [State.takeBrake, vane, State.brakeTold]

theorem State.takeBrake_of_vaning (vaning : (s.vane.get n).vane = .vaning) :
    s.takeBrake n false = (s.brakeTold n false).endSwing n := by
  simp only [State.takeBrake, vaning, State.brakeTold]

theorem State.permit_of_unsafe (latched : (s.vane.get n).unsafeLatched = true) : s.permit n = false := by
  unfold State.permit permitCondition
  rw [latched]
  simp

end

section
variable {s : State} {n : Station} {angle : Angle} {radius profile : Nat} {loaded released : Bool}

/-- The state on which the brake state of a report is judged, from the state before the report. -/
theorem State.reportTaken_kept : ClaimsKept s
    (((s.beforeReport n loaded).taken (.crane n)).reportTaken n angle radius profile loaded released) :=
  ((Claims.beforeReport s n loaded).kept.trans .of_eq).trans (.setCtx _ n _)

theorem State.report_live : (s.report n angle radius profile loaded released).plan.live = s.plan.live :=
  State.report_kept.live.trans (congrArg (·.live) (plan_of_zoneWork
    (zoneWork_takeBrake (s.reportTaken n angle radius profile loaded released) n released)))

/-- A report leaves the motion permit as its condition stands (R40). -/
theorem State.report_permit : permitFollows (s.report n angle radius profile loaded released) n = true :=
  permitFollows_recompute (permitFollows_reevalPermit_self _ n) n

end

/-- Settles O33: an unsafe release is kept through the rest of the report's handling. -/
theorem unsafeReleaseClosesTheAirspace : Obligations.UnsafeReleaseClosesTheAirspace := by
  unfold Obligations.UnsafeReleaseClosesTheAirspace
  intro s n angle radius profile loaded linked u held
  set w := (u.taken (.crane n)).reportTaken n angle radius profile loaded true with taken
  set t := (u.taken (.crane n)).report n angle radius profile loaded true with result
  have braked : (w.takeBrake n true).SweptUnsafely n := by
    rw [State.takeBrake_of_held (s := w) held]
    exact State.unsafeRelease_swept
  have final : t.SweptUnsafely n := braked.kept State.report_kept
  have live : t.plan.live = s.plan.live :=
    State.report_live.trans (Claims.beforeReport s n loaded).kept.live
  have permit : (t.ctx.get n).mp = false := by
    rw [permitFollows_iff.mp State.report_permit, State.permit_of_unsafe final.latched]
  have vaning := final.vaning
  rw [result, State.report_eq, State.recompute_vane] at vaning
  obtain ⟨-, -, cw, ccw, radius⟩ := State.recompute_zeros (.inr (.inl vaning))
  refine ⟨_, exec_position linked, final.vaning, final.latched, final.line, final.timer, permit, cw, ccw,
    radius, final.entry, fun z mem d record => ?_⟩
  exact final.swept z (by rwa [State.memberZones_of_live live]) d record

theorem State.inForce_iff {s : State} {n : Station} : s.inForce n = true ↔
    (s.station n).enabled = true ∧ (s.wind.get n).stage = .shutdown ∧
      ((s.station n).mode = .acting ∨ s.siteStop = true) := by
  simp [State.inForce, and_assoc]

theorem ClaimsKept.unswept {s t : State} {n : Station} (h : ClaimsKept s t) (out : s.Unswept n) :
    t.Unswept n := fun z d record => by
  have same := h.swept z
  rw [record] at same
  obtain ⟨e, before, eq⟩ := Option.map_eq_some_iff.mp same.symm
  exact (congrArg (PerStation.get · n) eq).symm.trans (out z e before)

theorem State.endSwing_unmet {s : State} {n : Station} (unmet : s.clearCondition n = false) :
    (s.endSwing n).clearCondition n = false := by
  have told : ((s.swingLeft n).alarmEnds (.unsafeVane n)).clearCondition n = false :=
    (HoldersKept.swingLeft s n).unmet unmet
  rw [State.endSwing_eq, State.unsafeCleared]
  split
  · exact ((HoldersKept.setVane _ n _).trans (ClaimsKept.reevalPermit _ n).toHoldersKept).unmet told
  · exact told

/-! ### The report that ends a swing (R138, R141) -/

section
variable {s : State} {n : Station} {angle : Angle} {radius profile : Nat} {loaded : Bool}

/-- The state in which the swing of a reporting station ends. -/
def State.swingTold (s : State) (n : Station) (angle : Angle) (radius profile : Nat) (loaded : Bool) : State :=
  (s.reportTaken n angle radius profile loaded false).brakeTold n false

theorem State.swingTold_kept : HoldersKept s (s.swingTold n angle radius profile loaded) := .of_eq

theorem State.swingTold_clearCondition :
    (s.swingTold n angle radius profile loaded).clearCondition n = s.clearCondition n := rfl

theorem State.swingTold_inForce :
    (s.swingTold n angle radius profile loaded).inForce n = s.inForce n := rfl

variable (vaning : (s.vane.get n).vane = .vaning)
include vaning

theorem State.report_of_vaning : ClaimsKept ((s.swingTold n angle radius profile loaded).endSwing n)
    (s.report n angle radius profile loaded false) := by
  have kept := State.report_kept (s := s) (n := n) (angle := angle) (radius := radius) (profile := profile)
    (loaded := loaded) (released := false)
  rwa [State.reportBraked, State.takeBrake_of_vaning (s := s.reportTaken n angle radius profile loaded false)
    vaning] at kept

theorem State.report_vane_met (forced : s.inForce n = true) (met : s.clearCondition n = true) :
    let t := s.report n angle radius profile loaded false
    (t.vane.get n).vane = .clear ∧ (t.vane.get n).vc = true := by
  obtain ⟨latched, vane⟩ := State.endSwing_vane (s.swingTold n angle radius profile loaded) n
  rw [State.swingLeft, if_pos (State.swingTold_inForce.trans forced), State.swingToClearance_vane_met (State.swingTold_clearCondition.trans met)] at vane
  have kept := ((State.report_of_vaning vaning).vane n).of_clear (by rw [vane])
  intro t
  rw [kept, vane]
  exact ⟨rfl, rfl⟩

theorem State.report_vane_unmet (forced : s.inForce n = true) (unmet : s.clearCondition n = false) :
    let t := s.report n angle radius profile loaded false
    (t.vane.get n).vane = .clearing ∧ (t.vane.get n).vc = false ∧
      (t.vane.get n).timer = .running s.plan.live.site.clearanceTimeout ∧
      (t.vane.get n).overdue = false := by
  obtain ⟨latched, vane⟩ := State.endSwing_vane (s.swingTold n angle radius profile loaded) n
  rw [State.swingLeft, if_pos (State.swingTold_inForce.trans forced), State.swingToClearance_vane_unmet (State.swingTold_clearCondition.trans unmet)] at vane
  have still := State.endSwing_unmet (State.swingTold_clearCondition (angle := angle) (radius := radius)
    (profile := profile) (loaded := loaded) |>.trans unmet)
  have kept := ((State.report_of_vaning vaning).vane n).of_unmet (by rw [vane]; nofun) still
  intro t
  rw [kept, vane]
  exact ⟨rfl, rfl, rfl, rfl⟩

theorem State.report_vane_braked (ended : s.inForce n = false) :
    let t := s.report n angle radius profile loaded false
    (t.vane.get n).vane = .braked ∧ (t.vane.get n).vc = false := by
  obtain ⟨latched, vane⟩ := State.endSwing_vane (s.swingTold n angle radius profile loaded) n
  rw [State.swingLeft, if_neg (by rw [State.swingTold_inForce, ended]; nofun), State.returnToService_vane]
    at vane
  have kept := ((State.report_of_vaning vaning).vane n).of_braked (by rw [vane])
  intro t
  rw [kept, vane]
  exact ⟨rfl, rfl⟩

theorem State.report_entry : (s.report n angle radius profile loaded false).alarms.get (.unsafeVane n) =
    (s.alarms.get (.unsafeVane n)).ends .latching := by
  rw [(State.report_of_vaning vaning).alarms _ rfl, State.endSwing_entry, State.swingTold_kept.alarms _ rfl]

theorem State.report_unlatched (clear : ((s.report n angle radius profile loaded false).alarms.get
    (.unsafeVane n)).state = .clear) :
    ((s.report n angle radius profile loaded false).vane.get n).unsafeLatched = false := by
  rw [((State.report_of_vaning vaning).vane n).unsafeLatched]
  rw [(State.report_of_vaning vaning).alarms _ rfl] at clear
  exact State.endSwing_latched clear

end

/-- Settles O34: the transition of the brake, kept through the rest of the report's handling. -/
theorem swingFollowsTheBrake : Obligations.SwingFollowsTheBrake := by
  unfold Obligations.SwingFollowsTheBrake
  refine ⟨fun s n => ⟨State.inForce_iff, State.clearCondition_iff⟩, ?_⟩
  intro s n angle radius profile loaded linked
  have before := (Claims.beforeReport s n loaded).kept
  have step (released : Bool) := exec_position (angle := angle) (radius := radius) (profile := profile)
    (loaded := loaded) (released := released) linked
  revert before step
  generalize s.beforeReport n loaded = u
  intro before step
  dsimp only at step ⊢
  refine ⟨fun clear => ?_, fun vaning => ?_⟩
  · have braked : ((u.taken (.crane n)).reportBraked n angle radius profile loaded true).Swept n := by
      rw [State.reportBraked, State.takeBrake_of_clear (s := (u.taken (.crane n)).reportTaken n angle radius
        profile loaded true) clear]
      exact State.beginSwing_swept
    have final := braked.kept State.report_kept
    have live := State.report_live (s := u.taken (.crane n)) (n := n) (angle := angle) (radius := radius)
      (profile := profile) (loaded := loaded) (released := true)
    refine ⟨_, step true, final.vaning, fun z mem d record => ?_⟩
    refine final.swept z ?_ d record
    rwa [State.memberZones_of_live (s := s) (live.trans before.live)]
  · refine ⟨_, step false, State.report_vane_met (s := u.taken (.crane n)) vaning,
      fun forced unmet => ?_, State.report_vane_braked (s := u.taken (.crane n)) vaning, ?_,
      State.report_unlatched (s := u.taken (.crane n)) vaning, ?_⟩
    · obtain ⟨vane, line, timer, overdue⟩ := State.report_vane_unmet (s := u.taken (.crane n)) (angle := angle)
        (radius := radius) (profile := profile) (loaded := loaded) vaning forced unmet
      exact ⟨vane, line, timer.trans (congrArg (Timer.running ·.site.clearanceTimeout) before.live), overdue⟩
    · exact (State.report_entry (s := u.taken (.crane n)) vaning).trans
        (congrArg (Entry.ends .latching) (before.alarms _ rfl))
    · exact ((State.report_of_vaning (s := u.taken (.crane n)) vaning)).unswept (State.endSwing_unswept _ n)

end Sys2Proof.Machine
end

section
/-! States on which a report is judged alike (R58), and a load rise opens alike (R161). -/

namespace Sys2Proof.Machine

open Sys2Proof.Safety

/-! ### The relation -/

/-- Two states judge alike: what the Zone Arbiter and the Booking Engine read of the others is the same. -/
structure Judges (s t : State) : Prop where
  zones : t.zones = s.zones
  bookings : t.bookings = s.bookings
  arb : t.arb = s.arb
  plan : t.plan = s.plan
  wind : t.wind = s.wind
  clock : t.clock = s.clock
  position : ∀ m, (t.ctx.get m).position = (s.ctx.get m).position
  closes : ClosesKept s t
  vaning : ∀ m, (t.vane.get m).vane = .vaning ↔ (s.vane.get m).vane = .vaning

section
variable {s t u : State}

theorem Judges.refl (s : State) : Judges s s :=
  ⟨rfl, rfl, rfl, rfl, rfl, rfl, fun _ => rfl, .refl s, fun _ => .rfl⟩

theorem Judges.trans (h : Judges s t) (k : Judges t u) : Judges s u :=
  ⟨k.zones.trans h.zones, k.bookings.trans h.bookings, k.arb.trans h.arb, k.plan.trans h.plan,
    k.wind.trans h.wind, k.clock.trans h.clock, fun m => (k.position m).trans (h.position m),
    h.closes.trans k.closes, fun m => (k.vaning m).trans (h.vaning m)⟩

theorem Judges.symm (h : Judges s t) : Judges t s :=
  ⟨h.zones.symm, h.bookings.symm, h.arb.symm, h.plan.symm, h.wind.symm, h.clock.symm,
    fun m => (h.position m).symm, fun m => (h.closes m).symm, fun m => (h.vaning m).symm⟩

/-- Writes that either state may have before an operation and after it. -/
theorem Judges.between {s' t' : State} (h : Judges s t) (hs : Judges s s') (ht : Judges t t') :
    Judges s' t' := (hs.symm.trans h).trans ht

theorem Judges.foldl_self {β : Type} {f : State → β → State} (h : ∀ s b, Judges s (f s b)) (s : State)
    (bs : List β) : Judges s (bs.foldl f s) := foldl_related .refl .trans h s bs

/-- Two folds of steps that keep states judging alike. -/
theorem Judges.foldl {β : Type} {f g : State → β → State}
    (step : ∀ {s t : State} (b : β), Judges s t → Judges (f s b) (g t b)) (h : Judges s t)
    (bs : List β) : Judges (bs.foldl f s) (bs.foldl g t) := by
  induction bs generalizing s t with
  | nil => exact h
  | cons b bs ih => exact ih (step b h)

theorem Judges.ite {s' t' : State} {c d : Prop} [Decidable c] [Decidable d] (same : c ↔ d)
    (h : c → Judges s t) (k : ¬c → Judges s' t') :
    Judges (if c then s else s') (if d then t else t') := by
  by_cases hc : c
  · rw [if_pos hc, if_pos (same.mp hc)]; exact h hc
  · rw [if_neg hc, if_neg (fun hd => hc (same.mpr hd))]; exact k hc

/-! ### Writes that are not read -/

theorem Judges.of_alarms (h : AlarmFrame s t) : Judges s t := by
  refine ⟨?_, ?_, ?_, ?_, ?_, ?_, fun m => ?_, .of_vane h.vane, fun m => ?_⟩ <;> rw [h]

theorem Judges.of_permit {n : Station} (h : PermitFrame n s t) : Judges s t := by
  refine ⟨?_, ?_, ?_, ?_, ?_, ?_, fun m => ?_, .of_vane (by rw [h.frame]), fun m => ?_⟩
  case refine_7 =>
    by_cases same : m = n
    · subst same; rw [h.own]
    · rw [(h.others m same).1]
  all_goals rw [h.frame]

theorem Judges.setCtx (s : State) {n : Station} {c : StationCtx}
    (position : c.position = (s.ctx.get n).position) : Judges s (s.setCtx n c) := by
  refine ⟨rfl, rfl, rfl, rfl, rfl, rfl, fun m => ?_, .refl s, fun _ => .rfl⟩
  by_cases same : m = n
  · subst same; simpa using position
  · simp [same]

theorem Judges.notify (s : State) (n : Station) (y : Notice) : Judges s (s.notify n y) :=
  .of_alarms (.notify s n y)

theorem Judges.reevalPermit (s : State) (n : Station) : Judges s (s.reevalPermit n) :=
  .of_permit (.reevalPermit s n)

theorem Judges.recompute (s : State) (n : Station) : Judges s (s.recompute n) :=
  .of_permit (.recompute s n)

theorem Judges.of_vane
    (frame : t = { s with ctx := t.ctx, lim := t.lim, vane := t.vane, alarms := t.alarms, attn := t.attn,
                          held := t.held, tx := t.tx })
    (position : ∀ m, (t.ctx.get m).position = (s.ctx.get m).position) (closes : ClosesKept s t)
    (vaning : ∀ m, (t.vane.get m).vane = .vaning ↔ (s.vane.get m).vane = .vaning) : Judges s t := by
  refine ⟨?_, ?_, ?_, ?_, ?_, ?_, position, closes, vaning⟩ <;> rw [frame]

theorem Judges.judgeClear (s : State) (n : Station) : Judges s (s.judgeClear n) := by
  have own := OwnFrame.judgeClear s n
  refine .of_vane own.frame (fun m => ?_) (.judgeClear s n)
    fun m => ((ClaimsKept.judgeClear s n).vane m).vane_eq_vaning_iff
  by_cases same : m = n
  · subst same; rw [own.own]
  · rw [(own.others m same).1]

theorem State.judgeSwingLine_frame (s : State) (n : Station) (z : Zone) :
    s.judgeSwingLine n z = { s with vane := (s.judgeSwingLine n z).vane } := by
  unfold State.judgeSwingLine
  extract_lets c
  split <;> rfl

theorem Judges.judgeSwingLine (s : State) (n : Station) (z : Zone) : Judges s (s.judgeSwingLine n z) :=
  .of_vane (by rw [s.judgeSwingLine_frame n z]) (fun m => by rw [s.judgeSwingLine_frame n z])
    (.judgeSwingLine s n z) fun m => ((ClaimsKept.judgeSwingLine s n z).vane m).vane_eq_vaning_iff

theorem Judges.holderTold (s : State) (z : Zone) : Judges s (s.holderTold z) :=
  .foldl_self (fun s m => (Judges.judgeClear s m).trans (.judgeSwingLine _ m z)) s (s.members z)

/-! ### What is read -/

section
variable (h : Judges s t)
include h

theorem Judges.inside (z : Zone) (n : Station) : t.inside z n = s.inside z n :=
  State.inside_of_kept (by rw [h.plan]) (h.position n) z

theorem Judges.holds (n : Station) (z : Zone) : t.holds n z = s.holds n z :=
  State.holds_of_zones_get (by rw [h.zones]) n

theorem Judges.holder : t.holder = s.holder := by
  funext z
  exact State.holder_of_get (by rw [h.zones])

theorem Judges.members (z : Zone) : t.members z = s.members z := by
  rw [State.members, State.zone, h.plan]; rfl

theorem Judges.memberZones (n : Station) : t.memberZones n = s.memberZones n :=
  State.memberZones_of_live (by rw [h.plan]) n

theorem Judges.station (n : Station) : t.station n = s.station n := by rw [State.station, h.plan]; rfl

theorem Judges.standsUnheld (n : Station) : t.standsUnheld n = s.standsUnheld n :=
  State.standsUnheld_of_kept (by rw [h.plan]) (h.position n) h.zones

theorem Judges.booking? (k : Nat) : t.booking? k = s.booking? k := State.booking?_of_bookings h.bookings k

theorem Judges.reserving (z : Zone) : t.reserving z = s.reserving z := by
  rw [State.reserving, State.reserving, h.zones]
  cases (s.zones.get z).bind (·.reservation) with
  | none => rfl
  | some k => exact h.booking? k

theorem Judges.closedTo (z : Zone) (n : Station) : t.closedTo z n = s.closedTo z n :=
  State.closedTo_of_kept (by rw [h.plan]) h.closes (by rw [h.zones]) n

theorem Judges.openTo (z : Zone) (n : Station) : t.openTo z n = s.openTo z n := by
  rw [State.openTo, State.openTo, h.zones, State.reservedFor, State.reservedFor, h.reserving]
  simp only [h.closedTo]

theorem Judges.conflictNow (n : Station) : t.conflictNow n = s.conflictNow n := by
  simp only [State.conflictNow, h.holds, h.members, h.inside]

/-! ### Operations -/

theorem Judges.setArb (n : Station) (c : ArbiterCtx) : Judges (s.setArb n c) (t.setArb n c) :=
  { h with arb := by simp [h.arb], closes := h.closes }

theorem Judges.modZone (z : Zone) (f : ZoneDyn → ZoneDyn) : Judges (s.modZone z f) (t.modZone z f) := by
  have hs := s.modZone_frame z f
  have ht := t.modZone_frame z f
  have zones := State.modZone_of_zones z f h.zones
  rw [hs, ht]
  exact { h with zones := zones }

theorem Judges.setBookings (bs : List Booking) : Judges (s.setBookings bs) (t.setBookings bs) :=
  { h with bookings := rfl }

theorem Judges.putBooking (b : Booking) : Judges (s.putBooking b) (t.putBooking b) := by
  unfold State.putBooking
  rw [h.bookings]
  exact h.setBookings _

theorem Judges.latchIntrusion (n : Station) : Judges (s.latchIntrusion n) (t.latchIntrusion n) := by
  unfold State.latchIntrusion
  rw [h.arb]
  have told (u : State) : Judges u ((u.alarmBegins (.intrusion n)).reevalPermit n) :=
    (Judges.of_alarms (.alarmBegins u _)).trans (.reevalPermit _ n)
  exact .ite .rfl (fun _ => h) fun _ => (h.setArb n _).between (told _) (told _)

theorem Judges.reevalConflict (n : Station) : Judges (s.reevalConflict n) (t.reevalConflict n) := by
  unfold State.reevalConflict
  rw [h.arb, h.conflictNow]
  have told (u : State) (b : Bool) : Judges u ((u.alarmIs (.conflict n) b).reevalPermit n) :=
    (Judges.of_alarms (.alarmIs u _ b)).trans (.reevalPermit _ n)
  exact .ite .rfl (fun _ => h) fun _ => (h.setArb n _).between (told _ _) (told _ _)

theorem Judges.recoveryTest (n : Station) : Judges (s.recoveryTest n) (t.recoveryTest n) := by
  unfold State.recoveryTest
  rw [h.arb, h.standsUnheld]
  have told (u : State) : Judges u ((u.alarmEnds (.intrusion n)).reevalPermit n) :=
    (Judges.of_alarms (.alarmEnds u _)).trans (.reevalPermit _ n)
  exact .ite .rfl (fun _ => (h.setArb n _).between (told _) (told _)) fun _ => h

theorem Judges.holderChanged (z : Zone) : Judges (s.holderChanged z) (t.holderChanged z) := by
  unfold State.holderChanged
  rw [h.members]
  exact .foldl (fun n h => h.reevalConflict n) (h.between (.holderTold s z) (.holderTold t z)) _

theorem Judges.granted (z : Zone) (n : Station) (kind : GrantKind) :
    Judges (s.granted z n kind) (t.granted z n kind) :=
  ((h.between (.notify s n _) (.notify t n _)).holderChanged z).recoveryTest n

theorem Judges.grantBooked (z : Zone) (n : Station) : Judges (s.grantBooked z n) (t.grantBooked z n) :=
  (h.modZone z _).granted z n _

theorem Judges.bookingPassed (num : Nat) (z : Zone) :
    Judges (s.bookingPassed num z) (t.bookingPassed num z) := by
  unfold State.bookingPassed
  rw [h.booking?]
  split
  · exact h.putBooking _
  · exact h

theorem Judges.adoptZone (z : Zone) (n : Station) : Judges (s.adoptZone z n) (t.adoptZone z n) := by
  have given (kind : GrantKind) := h.modZone z fun d => d.give ⟨n, kind, true⟩ .stopped
  unfold State.adoptZone
  rw [h.reserving]
  split
  · exact .ite .rfl (fun _ => ((given .booked).bookingPassed _ z).granted z n _)
      fun _ => (given .ordinary).granted z n _
  · exact (given .ordinary).granted z n _

theorem Judges.adoptOne (n : Station) (z : Zone) :
    Judges (State.adoptOne n s z) (State.adoptOne n t z) := by
  unfold State.adoptOne
  rw [h.holds, h.openTo]
  exact .ite .rfl (fun _ => h) fun _ => .ite .rfl (fun _ => h.adoptZone z n) fun _ => h.latchIntrusion n

theorem Judges.adopt (n : Station) : Judges (s.adopt n) (t.adopt n) := by
  unfold State.adopt
  rw [h.memberZones, show t.inside = s.inside from funext fun z => funext (h.inside z)]
  exact .foldl (fun z h => h.adoptOne n z) h _

theorem Judges.judgeEntry (n : Station) : Judges (s.judgeEntry n) (t.judgeEntry n) := by
  refine .foldl (fun {s t} z h => ?_) h Zone.all
  exact .ite (by rw [h.inside]) (fun _ => h.modZone z _) fun _ => h

theorem Judges.judgeIntrusion (n : Station) : Judges (s.judgeIntrusion n) (t.judgeIntrusion n) := by
  unfold State.judgeIntrusion
  rw [h.standsUnheld]
  exact .ite .rfl (fun _ => h) fun _ => h.latchIntrusion n

theorem Judges.judgeDwells (n : Station) : Judges (s.judgeDwells n) (t.judgeDwells n) := by
  refine .foldl (fun {s t} z h => ?_) h Zone.all
  dsimp only
  rw [h.inside, h.station]
  exact h.modZone z _

theorem Judges.judgeConflicts (n : Station) : Judges (s.judgeConflicts n) (t.judgeConflicts n) := by
  unfold State.judgeConflicts
  rw [h.memberZones, h.holder]
  exact .foldl (fun n h => h.reevalConflict n) h _

theorem Judges.judgeReport (n : Station) (joined : Bool) :
    Judges (s.judgeReport n joined) (t.judgeReport n joined) := by
  have adopted : Judges (if joined then s.adopt n else s) (if joined then t.adopt n else t) :=
    .ite .rfl (fun _ => h.adopt n) fun _ => h
  have entered := adopted.judgeEntry n
  have judged := Judges.ite (s := (if joined then s.adopt n else s).judgeEntry n)
    (t := (if joined then t.adopt n else t).judgeEntry n)
    (c := (joined || (((if joined then s.adopt n else s).judgeEntry n).vane.get n).vane == .vaning) = true)
    (d := (joined || (((if joined then t.adopt n else t).judgeEntry n).vane.get n).vane == .vaning) = true)
    (by simp [entered.vaning n]) (fun _ => entered) fun _ => entered.judgeIntrusion n
  exact ((judged.judgeDwells n).judgeConflicts n).recoveryTest n

theorem Judges.openZone (b : Station) (z : Zone) :
    Judges (State.openZone b s z) (State.openZone b t z) := by
  unfold State.openZone
  rw [State.holding, State.holding, h.zones, h.closedTo]
  split
  · exact .ite .rfl (fun _ => h.modZone z _) fun _ => h.modZone z _
  · exact .ite .rfl (fun _ => h.modZone z _) fun _ => h.grantBooked z b

theorem Judges.openBooking (b : Booking) (remaining ends : Nat) :
    Judges (s.openBooking b remaining ends) (t.openBooking b remaining ends) := by
  have opened : Judges (s.openedZones b remaining ends) (t.openedZones b remaining ends) :=
    .foldl (fun z h => h.openZone b.station z) (h.putBooking _) _
  have same (z : Zone) : (t.openBooking b remaining ends).holds b.station z =
      (s.openBooking b remaining ends).holds b.station z :=
    State.holds_of_zones_get (by rw [State.openBooking_zones, State.openBooking_zones, opened.zones]) _
  rw [State.openBooking_eq s, State.openBooking_eq t]
  simp only [same]
  exact opened.putBooking _

theorem Judges.loadRise (n : Station) : Judges (s.loadRise n) (t.loadRise n) := by
  unfold State.loadRise
  rw [h.bookings, h.wind, h.clock]
  split
  · split
    · exact h.openBooking _ _ _
    · exact h.openBooking _ _ _
    · exact h
    · exact h
  · exact h

end

end

end Sys2Proof.Machine
end

section
/-! Judging a report (R54 .. R61, R68): each zone's record, and the latches of the Zone Arbiter. -/

namespace Sys2Proof.Machine

open Sys2Proof.Safety

/-! ### Each zone's record (R54, R56) -/

/-- A zone's record after entry has been judged (R54). -/
def ZoneDyn.entered (d : ZoneDyn) (n : Station) (inside : Bool) : ZoneDyn :=
  if inside then
    match d.hold with
    | some h => if h.station = n ∧ h.seen = false then
        { d with hold := some { h with seen := true }, entry := .stopped } else d
    | none => d
  else d

/-- A zone's record after the release dwell has been judged (R56). -/
def ZoneDyn.dwelt (d : ZoneDyn) (n : Station) (inside : Bool) (dwell : Nat) : ZoneDyn :=
  match d.hold with
  | some h => if h.station = n ∧ h.seen = true ∧ h.kind = .ordinary then
      { d with dwell := judgeDwell inside dwell d.dwell } else d
  | none => d

theorem ZoneDyn.dwelt_entered (s : State) (n : Station) (z : Zone) (d : ZoneDyn) :
    (d.entered n (s.inside z n)).dwelt n (s.inside z n) (s.station n).releaseDwell = judgedZone s n z d := by
  unfold ZoneDyn.entered ZoneDyn.dwelt judgedZone judgeDwell
  cases hold : d.hold with
  | none => cases s.inside z n <;> simp [hold]
  | some h =>
    by_cases own : h.station = n
    · cases inside : s.inside z n with
      | false => cases seen : h.seen <;> cases kind : h.kind <;> cases d <;> cases h <;> simp_all
      | true => cases seen : h.seen <;> cases kind : h.kind <;> cases d <;> cases h <;> simp_all
    · cases s.inside z n <;> simp [own, hold]

theorem ZoneDyn.entered_holder (d : ZoneDyn) (n : Station) (inside : Bool) :
    (d.entered n inside).hold.map (·.station) = d.hold.map (·.station) := by
  unfold ZoneDyn.entered
  split
  · split
    · next h hold => split <;> simp [hold]
    · rfl
  · rfl

theorem ZoneDyn.dwelt_hold (d : ZoneDyn) (n : Station) (inside : Bool) (dwell : Nat) :
    (d.dwelt n inside dwell).hold = d.hold := by
  unfold ZoneDyn.dwelt
  split
  · split <;> rfl
  · rfl

/-- Nothing but zone records is written, and no holder changes. -/
structure ZonesKeep (s t : State) : Prop where
  only : ZonesOnly s t
  holder : ∀ z, t.holder z = s.holder z

section
variable {s t u : State}

theorem ZonesKeep.refl (s : State) : ZonesKeep s s := ⟨.refl s, fun _ => rfl⟩

theorem ZonesKeep.trans (h : ZonesKeep s t) (k : ZonesKeep t u) : ZonesKeep s u :=
  ⟨h.only.trans k.only, fun z => (k.holder z).trans (h.holder z)⟩

theorem ZonesKeep.modZone (s : State) (z : Zone) {f : ZoneDyn → ZoneDyn}
    (holder : ∀ d, (f d).hold.map (·.station) = d.hold.map (·.station)) :
    ZonesKeep s (s.modZone z f) := by
  refine ⟨.modZone s z f, fun y => ?_⟩
  rw [State.holder, State.holder, State.holding, State.holding, State.modZone_get]
  split
  · next same =>
    subst same
    cases s.zones.get y with
    | none => rfl
    | some d => exact holder d
  · rfl

/-- The step of a fold over every zone writes that zone's record as a function says. -/
theorem State.foldl_all_get {f : State → Zone → State} {g : State → Zone → ZoneDyn → ZoneDyn}
    (only : ∀ s z, ZonesOnly s (f s z)) (own : ∀ s z y, y ≠ z → (f s z).zones.get y = s.zones.get y)
    (step : ∀ s z, (f s z).zones.get z = (s.zones.get z).map (g s z))
    (same : ∀ {s t}, ZonesOnly s t → g t = g s) (s : State) (z : Zone) :
    (Zone.all.foldl f s).zones.get z = (s.zones.get z).map (g s z) := by
  obtain ⟨u, only, here, result⟩ := (State.foldl_zones_get ZonesOnly.refl ZonesOnly.trans only own
    Zone.nodup_all s).2 z (Zone.mem_all z)
  rw [result, step, here, same only]

/-- Entry is judged zone by zone (R54). -/
def State.enterZone (n : Station) (s : State) (z : Zone) : State :=
  if s.inside z n then
    s.modZone z fun d =>
      match d.hold with
      | some h => if h.station = n ∧ h.seen = false then
          { d with hold := some { h with seen := true }, entry := .stopped } else d
      | none => d
  else s

theorem State.judgeEntry_step (s : State) (n : Station) :
    s.judgeEntry n = Zone.all.foldl (State.enterZone n) s := rfl

theorem State.enterZone_get (n : Station) (s : State) (z : Zone) : (State.enterZone n s z).zones.get z =
    (s.zones.get z).map fun d => d.entered n (s.inside z n) := by
  unfold State.enterZone
  cases inside : s.inside z n with
  | true =>
    rw [if_pos rfl, State.modZone_get, if_pos rfl]
    exact congrArg (Option.map · _) (funext fun d => by cases hold : d.hold <;> simp [ZoneDyn.entered, hold])
  | false =>
    rw [if_neg nofun]
    cases s.zones.get z <;> rfl

theorem State.judgeDwells_step (s : State) (n : Station) : s.judgeDwells n =
    Zone.all.foldl (fun s z => s.modZone z fun d =>
      d.dwelt n (s.inside z n) (s.station n).releaseDwell) s := rfl

theorem ZonesKeep.enterZone (n : Station) (s : State) (z : Zone) : ZonesKeep s (State.enterZone n s z) := by
  unfold State.enterZone
  split
  · next inside =>
    have holder (d : ZoneDyn) := d.entered_holder n true
    refine .modZone s z fun d => Eq.trans ?_ (holder d)
    cases hold : d.hold <;> simp [ZoneDyn.entered, hold]
  · exact .refl s

theorem ZonesKeep.judgeEntry (s : State) (n : Station) : ZonesKeep s (s.judgeEntry n) := by
  exact foldl_related .refl .trans (.enterZone n) s _

theorem ZonesKeep.judgeDwells (s : State) (n : Station) : ZonesKeep s (s.judgeDwells n) := by
  rw [State.judgeDwells_step]
  exact foldl_related .refl .trans (fun s z => .modZone s z fun d => by rw [ZoneDyn.dwelt_hold]) s _

theorem State.judgeEntry_get (s : State) (n : Station) (z : Zone) :
    (s.judgeEntry n).zones.get z = (s.zones.get z).map fun d => d.entered n (s.inside z n) := by
  refine State.foldl_all_get (g := fun s z d => d.entered n (s.inside z n))
    (fun s z => (ZonesKeep.enterZone n s z).only) (fun s z y ne => ?_) (State.enterZone_get n)
    (fun only => ?_) s z
  · unfold State.enterZone
    split
    · exact State.modZone_get_ne ne _
    · rfl
  · funext z d
    rw [only.inside]

theorem State.judgeDwells_get (s : State) (n : Station) (z : Zone) :
    (s.judgeDwells n).zones.get z =
      (s.zones.get z).map fun d => d.dwelt n (s.inside z n) (s.station n).releaseDwell := by
  rw [State.judgeDwells_step]
  refine State.foldl_all_get (g := fun s z d => d.dwelt n (s.inside z n) (s.station n).releaseDwell)
    (fun s z => .modZone s z _) (fun s z y ne => State.modZone_get_ne ne _)
    (fun s z => by rw [State.modZone_get, if_pos rfl]) (fun only => ?_) s z
  funext z d
  rw [only.inside, only.station]

end

/-! ### The judgement after adoption -/

section
variable (s : State) (n : Station) (joined : Bool)

/-- The state after entry and intrusion have been judged (R54, R59). -/
def State.intrusionJudged (s : State) (n : Station) (joined : Bool) : State :=
  if joined || ((s.judgeEntry n).vane.get n).vane == .vaning then s.judgeEntry n
  else (s.judgeEntry n).judgeIntrusion n

/-- The judgement of a report after adoption (R58). -/
def State.judgeStanding (s : State) (n : Station) (joined : Bool) : State :=
  (((s.intrusionJudged n joined).judgeDwells n).judgeConflicts n).recoveryTest n

theorem State.judgeReport_of_standing : s.judgeReport n false = s.judgeStanding n false := rfl

theorem State.judgeReport_of_joining : s.judgeReport n true = (s.adopt n).judgeStanding n true := rfl

theorem holderWork_intrusionJudged : holderWork (s.judgeEntry n) (s.intrusionJudged n joined) := by
  unfold State.intrusionJudged
  split
  · exact holderWork_refl _
  · exact holderWork_judgeIntrusion _ n

theorem holderWork_judgeStanding :
    holderWork ((s.intrusionJudged n joined).judgeDwells n) (s.judgeStanding n joined) :=
  holderWork_trans (holderWork_judgeConflicts _ n) (holderWork_recoveryTest _ n)

theorem State.intrusionJudged_inside (z : Zone) (m : Station) :
    (s.intrusionJudged n joined).inside z m = s.inside z m := by
  have work := holderWork_intrusionJudged s n joined
  rw [State.inside_of_kept (s := s.judgeEntry n) (by rw [work.1]) (by rw [(work.2 m).1]),
    (ZonesKeep.judgeEntry s n).only.inside]

theorem State.judgeStanding_get (z : Zone) :
    (s.judgeStanding n joined).zones.get z = (s.zones.get z).map (judgedZone s n z) := by
  have work := holderWork_intrusionJudged s n joined
  have plan : (s.intrusionJudged n joined).plan = (s.judgeEntry n).plan := by rw [work.1]
  have station : (s.intrusionJudged n joined).station n = s.station n := by
    rw [← (ZonesKeep.judgeEntry s n).only.station n, State.station, plan]
    rfl
  rw [zones_of_holderWork (holderWork_judgeStanding s n joined), State.judgeDwells_get,
    zones_of_holderWork work, State.judgeEntry_get, Option.map_map, State.intrusionJudged_inside, station]
  exact congrArg (Option.map · _) (funext fun d => ZoneDyn.dwelt_entered s n z d)

theorem State.judgeStanding_bookings : (s.judgeStanding n joined).bookings = s.bookings := by
  have dwelt := (ZonesKeep.judgeDwells (s.intrusionJudged n joined) n).only
  have entered := (ZonesKeep.judgeEntry s n).only
  rw [bookings_of_holderWork (holderWork_judgeStanding s n joined), dwelt,
    bookings_of_holderWork (holderWork_intrusionJudged s n joined), entered]

/-! ### What the judgement leaves of where the stations stand -/

/-- The judgement leaves the holders and the positions. -/
structure StandKept (s t : State) : Prop where
  live : t.plan.live = s.plan.live
  position : ∀ m, (t.ctx.get m).position = (s.ctx.get m).position
  holder : ∀ z, t.holder z = s.holder z

variable {s n joined}

section
variable {t u : State}

theorem StandKept.trans (h : StandKept s t) (k : StandKept t u) : StandKept s u :=
  ⟨k.live.trans h.live, fun m => (k.position m).trans (h.position m),
    fun z => (k.holder z).trans (h.holder z)⟩

theorem StandKept.of_holderWork (h : holderWork s t) : StandKept s t :=
  ⟨by rw [h.1], fun m => by rw [(h.2 m).1],
    fun z => State.holder_of_get (by rw [zones_of_holderWork h])⟩

theorem StandKept.of_zones (h : ZonesKeep s t) : StandKept s t :=
  ⟨by rw [h.only], fun m => by rw [h.only], h.holder⟩

theorem StandKept.standsUnheld (h : StandKept s t) (m : Station) : t.standsUnheld m = s.standsUnheld m := by
  rw [State.standsUnheld, State.standsUnheld, State.memberZones_of_live h.live]
  refine List.filter_congr fun z _ => ?_
  rw [State.inside_of_kept h.live (h.position m), State.holds, State.holds, h.holder]

theorem StandKept.conflictNow (h : StandKept s t) (m : Station) : t.conflictNow m = s.conflictNow m := by
  have members (z : Zone) : t.members z = s.members z := by rw [State.members, State.zone, h.live]; rfl
  simp only [State.conflictNow, State.holds, h.holder, members,
    fun z k => State.inside_of_kept h.live (h.position k) z]

end

theorem StandKept.dwelt : StandKept s ((s.intrusionJudged n joined).judgeDwells n) :=
  ((StandKept.of_zones (.judgeEntry s n)).trans (.of_holderWork (holderWork_intrusionJudged s n joined))).trans
    (.of_zones (.judgeDwells _ n))

theorem StandKept.conflicts :
    StandKept s (((s.intrusionJudged n joined).judgeDwells n).judgeConflicts n) :=
  StandKept.dwelt.trans (.of_holderWork (holderWork_judgeConflicts _ n))

/-! ### The latches (R59, R60, R68) -/

/-- Intrusion is judged on the station itself (R59). -/
theorem State.intrusionJudged_arb (m : Station) : (s.intrusionJudged n joined).arb.get m =
    if m = n ∧ joined = false ∧ (s.vane.get n).vane ≠ .vaning ∧ s.standsUnheld n ≠ [] then
      { s.arb.get n with intrusion := true } else s.arb.get m := by
  have entered := ZonesKeep.judgeEntry s n
  have stands : (s.judgeEntry n).standsUnheld n = s.standsUnheld n := (StandKept.of_zones entered).standsUnheld n
  have vane : (s.judgeEntry n).vane = s.vane := by rw [entered.only]
  have arb : (s.judgeEntry n).arb = s.arb := by rw [entered.only]
  unfold State.intrusionJudged State.judgeIntrusion
  rw [vane, stands]
  cases joined <;> by_cases vaning : (s.vane.get n).vane = .vaning <;>
    by_cases none : s.standsUnheld n = [] <;> simp [vaning, none, arb, State.latchIntrusion_arb]

/-- Conflict is judged and nothing else of the arbiter's contexts (R60). -/
theorem State.foldl_reevalConflict_arb (ms : List Station) (s : State) (m : Station) :
    (ms.foldl State.reevalConflict s).arb.get m =
      if m ∈ ms then { s.arb.get m with conflict := s.conflictNow m } else s.arb.get m := by
  induction ms generalizing s with
  | nil => simp
  | cons k ms ih =>
    have now := (StandKept.of_holderWork (holderWork_reevalConflict s k)).conflictNow m
    rw [List.foldl_cons, ih, State.reevalConflict_arb, now]
    by_cases own : m = k
    · subst own
      simp
    · simp [own]

theorem State.judgeConflicts_arb (s : State) (n m : Station) : (s.judgeConflicts n).arb.get m =
    if m = n ∨ ∃ z ∈ s.memberZones n, s.holder z = some m then
      { s.arb.get m with conflict := s.conflictNow m } else s.arb.get m := by
  rw [State.judgeConflicts, State.foldl_reevalConflict_arb]
  simp only [List.mem_cons, List.mem_filterMap]

/-- The arbiter's context of the station before the recovery test. -/
theorem State.conflicts_arb_own :
    let c := (((s.intrusionJudged n joined).judgeDwells n).judgeConflicts n).arb.get n
    c.intrusion = ((s.arb.get n).intrusion ||
      (!joined && (s.vane.get n).vane != .vaning && s.standsUnheld n != [])) ∧
    c.recovery = (s.arb.get n).recovery := by
  have dwelt := (ZonesKeep.judgeDwells (s.intrusionJudged n joined) n).only
  have arb : ((s.intrusionJudged n joined).judgeDwells n).arb = (s.intrusionJudged n joined).arb := by
    rw [dwelt]
  intro c
  have judged : c = _ := State.judgeConflicts_arb _ n n
  rw [if_pos (.inl rfl), arb, State.intrusionJudged_arb] at judged
  rw [judged]
  cases joined <;> by_cases vaning : (s.vane.get n).vane = .vaning <;>
    by_cases none : s.standsUnheld n = [] <;> simp [vaning, none]

theorem State.judgeStanding_arb : let t := s.judgeStanding n joined
    (t.arb.get n).intrusion =
      (if s.standsUnheld n = [] then (s.arb.get n).intrusion && !(s.arb.get n).recovery
       else (s.arb.get n).intrusion || (!joined && (s.vane.get n).vane != .vaning)) ∧
    (t.arb.get n).recovery = ((s.arb.get n).recovery && s.standsUnheld n != []) := by
  obtain ⟨intrusion, recovery⟩ := State.conflicts_arb_own (s := s) (n := n) (joined := joined)
  have stands := (StandKept.conflicts (s := s) (n := n) (joined := joined)).standsUnheld n
  intro t
  rw [show t.arb.get n = _ from State.recoveryTest_arb _ n n, recovery, stands]
  by_cases none : s.standsUnheld n = []
  · cases asked : (s.arb.get n).recovery with
    | true => simp [none]
    | false =>
      rw [if_neg (by simp), intrusion, recovery]
      simp [none, asked]
  · have some : (s.standsUnheld n != []) = true := by simpa using none
    rw [if_neg (by simp [none]), intrusion, recovery, some]
    simp [none]

theorem State.judgeStanding_conflict {m : Station}
    (judged : m = n ∨ ∃ z ∈ s.memberZones n, s.holder z = some m) :
    ((s.judgeStanding n joined).arb.get m).conflict = s.conflictNow m := by
  have kept := StandKept.dwelt (s := s) (n := n) (joined := joined)
  have among : m = n ∨ ∃ z ∈ ((s.intrusionJudged n joined).judgeDwells n).memberZones n,
      ((s.intrusionJudged n joined).judgeDwells n).holder z = some m := by
    simpa only [State.memberZones_of_live kept.live, kept.holder] using judged
  set w := (s.intrusionJudged n joined).judgeDwells n with dwelt
  have conflict : ((w.judgeConflicts n).arb.get m).conflict = w.conflictNow m := by
    rw [State.judgeConflicts_arb, if_pos among]
  rw [State.judgeStanding, State.recoveryTest_arb, ← dwelt, ← kept.conflictNow, ← conflict]
  split
  · next same => obtain ⟨rfl, -⟩ := same; rfl
  · rfl

theorem State.conflictNow_iff {m : Station} : s.conflictNow m = true ↔
    ∃ z, s.holder z = some m ∧ ∃ k ∈ s.members z, k ≠ m ∧ s.inside z k = true := by
  simp [State.conflictNow, State.holds, Zone.mem_all]

/-- A latch that a report sets begins its condition (R59). -/
theorem State.judgeStanding_entry (off : (s.arb.get n).intrusion = false)
    (on : ((s.judgeStanding n joined).arb.get n).intrusion = true) :
    (s.judgeStanding n joined).alarms.get (.intrusion n) = (s.alarms.get (.intrusion n)).begins := by
  have latched := (State.judgeStanding_arb (s := s) (n := n) (joined := joined)).1
  rw [on, off] at latched
  by_cases none : s.standsUnheld n = []
  · rw [if_pos none] at latched
    exact absurd latched nofun
  have stands := (StandKept.conflicts (s := s) (n := n) (joined := joined)).standsUnheld n
  rw [State.judgeStanding, State.recoveryTest_intrusion, if_neg (by rw [stands]; exact fun h => none h.2.2)]
  have conflicts := foldl_related (f := State.reevalConflict)
    (R := fun s t : State => t.alarms.get (.intrusion n) = s.alarms.get (.intrusion n)) (fun _ => rfl)
    (fun h k => k.trans h) (fun s m => s.reevalConflict_intrusion m n)
    ((s.intrusionJudged n joined).judgeDwells n)
  rw [State.judgeConflicts, conflicts, (ZonesKeep.judgeDwells _ n).only]
  rw [if_neg none] at latched
  have entered := ZonesKeep.judgeEntry s n
  have vane : (s.judgeEntry n).vane = s.vane := by rw [entered.only]
  have arb : (s.judgeEntry n).arb = s.arb := by rw [entered.only]
  have alarms : (s.judgeEntry n).alarms = s.alarms := by rw [entered.only]
  rw [Bool.false_or] at latched
  have judged : (joined || (s.vane.get n).vane == .vaning) = false := by
    rw [Bool.eq_false_iff, ne_eq, Bool.or_eq_true, not_or, Bool.not_eq_true, Bool.not_eq_true]
    rw [eq_comm, Bool.and_eq_true] at latched
    exact ⟨by simpa using latched.1, by simpa using latched.2⟩
  rw [State.intrusionJudged, vane, if_neg (by rw [judged]; nofun), State.judgeIntrusion,
    if_neg (by rw [(StandKept.of_zones entered).standsUnheld]; exact none), State.latchIntrusion, arb,
    if_neg (by rw [off]; nofun), State.reevalPermit_alarms, State.alarmBegins_get, if_pos rfl,
    State.setArb_alarms, alarms]

end

end Sys2Proof.Machine
end

section
/-! Adoption (R61), and what a report takes and answers (R28, R29, R33). -/

namespace Sys2Proof.Machine

open Sys2Proof.Safety

/-! ### Adoption zone by zone (R61) -/

section
variable {s t u : State} {n : Station}

theorem RecoverKept.latchIntrusion (s : State) : RecoverKept n s (s.latchIntrusion n) := by
  have work := holderWork_latchIntrusion s n
  refine ⟨by rw [work.1], .of_vane (s.latchIntrusion_vane n),
    fun k => congrArg _ (State.booking?_of_bookings (bookings_of_holderWork work) k), by rw [(work.2 n).1],
    fun z own => (State.holds_of_zones_get (by rw [zones_of_holderWork work]) n).trans own,
    fun _ => .inl (by rw [State.latchIntrusion_arb, if_pos rfl]), fun unlatched => ?_⟩
  unfold State.latchIntrusion
  extract_lets c
  split
  · exact unlatched
  · rw [State.reevalPermit_alarms, State.alarmBegins_get, if_pos rfl, Entry.begins_state]
    nofun

/-- What the judgement of the further zones of an adoption reads is kept. -/
structure AdoptKept (n : Station) (s t : State) : Prop extends RecoverKept n s t where
  window : ∀ k, (t.booking? k).map (·.inWindow) = (s.booking? k).map (·.inWindow)

theorem AdoptKept.refl (n : Station) (s : State) : AdoptKept n s s := ⟨.refl n s, fun _ => rfl⟩

theorem AdoptKept.trans (h : AdoptKept n s t) (k : AdoptKept n t u) : AdoptKept n s u :=
  ⟨h.toRecoverKept.trans k.toRecoverKept, fun j => (k.window j).trans (h.window j)⟩

theorem State.bookingPassed_window (s : State) (num : Nat) (z : Zone) (k : Nat) :
    ((s.bookingPassed num z).booking? k).map (·.inWindow) = (s.booking? k).map (·.inWindow) := by
  unfold State.bookingPassed
  split
  case h_1 b found =>
    rw [State.putBooking_booking?]
    split
    · next same =>
      rw [same, Booking.pass_number, State.number_of_booking? found, found]
      exact congrArg some (b.passed_pass z).inWindow
    · rfl
  case h_2 => rfl

theorem State.adoptZone_window (s : State) (z : Zone) (k : Nat) :
    ((s.adoptZone z n).booking? k).map (·.inWindow) = (s.booking? k).map (·.inWindow) := by
  have granted (t : State) (kind : GrantKind) : (t.granted z n kind).booking? k = t.booking? k :=
    State.booking?_of_bookings (State.granted_bookings t z n kind) k
  have given (f : ZoneDyn → ZoneDyn) : (s.modZone z f).booking? k = s.booking? k :=
    State.booking?_of_bookings (s.modZone_bookings z f) k
  unfold State.adoptZone
  split
  · split
    · rw [granted, State.bookingPassed_window, given]
    · rw [granted, given]
  · rw [granted, given]

theorem AdoptKept.adoptOne (s : State) (z : Zone) : AdoptKept n s (State.adoptOne n s z) := by
  unfold State.adoptOne
  split
  · exact .refl n s
  · split
    · exact ⟨.adoptZone s z, s.adoptZone_window z⟩
    · exact ⟨.latchIntrusion s, fun k => congrArg _
        (State.booking?_of_bookings (bookings_of_holderWork (holderWork_latchIntrusion s n)) k)⟩

theorem State.adoptOne_get_ne (s : State) {z y : Zone} (ne : y ≠ z) :
    (State.adoptOne n s z).zones.get y = s.zones.get y := by
  unfold State.adoptOne
  split
  · rfl
  · split
    · exact s.adoptZone_zones_ne n ne
    · rw [zones_of_holderWork (holderWork_latchIntrusion s n)]

/-- A zone whose record reserves it is in window alike. -/
theorem State.reserving_window {z : Zone} (zones : t.zones.get z = s.zones.get z)
    (window : ∀ k, (t.booking? k).map (·.inWindow) = (s.booking? k).map (·.inWindow)) :
    (t.reserving z).map (·.inWindow) = (s.reserving z).map (·.inWindow) := by
  rw [State.reserving, State.reserving, zones]
  cases (s.zones.get z).bind (·.reservation) with
  | none => rfl
  | some k => exact window k

theorem State.reserving_window_iff {z : Zone} : (∃ b, s.reserving z = some b ∧ b.inWindow = true) ↔
    (s.reserving z).map (·.inWindow) = some true := by
  rw [Option.map_eq_some_iff]

/-- A zone adopted is held by the station, seen inside, BOOKED when its reserving booking is in window (R61). -/
theorem State.adoptZone_get {z : Zone} {d : ZoneDyn} (record : s.zones.get z = some d) :
    ∃ kind, (s.adoptZone z n).zones.get z = some (d.give ⟨n, kind, true⟩ .stopped) ∧
      (kind = .booked ↔ ∃ b, s.reserving z = some b ∧ b.inWindow = true) := by
  unfold State.adoptZone
  split
  · next b reserving =>
    split
    · next window =>
      refine ⟨.booked, ?_, .intro (fun _ => ⟨b, reserving, window⟩) fun _ => rfl⟩
      rw [State.granted_zones, State.bookingPassed_zones, State.modZone_get_same record]
    · next outside =>
      refine ⟨.ordinary, ?_, .intro nofun ?_⟩
      · rw [State.granted_zones, State.modZone_get_same record]
      · rintro ⟨c, same, window⟩
        obtain rfl := Option.some.inj (reserving.symm.trans same)
        exact absurd window outside
  · next none =>
    refine ⟨.ordinary, ?_, .intro nofun ?_⟩
    · rw [State.granted_zones, State.modZone_get_same record]
    · rintro ⟨c, same, -⟩
      exact absurd (none.symm.trans same) nofun

/-- The zones a station is inside. -/
def State.standsIn (s : State) (n : Station) : List Zone := (s.memberZones n).filter fun z => s.inside z n

theorem State.adopt_eq (s : State) (n : Station) : s.adopt n = (s.standsIn n).foldl (State.adoptOne n) s := rfl

/-- Each zone the station is inside is adopted from its own record. -/
theorem State.adopt_get {z : Zone} (mem : z ∈ s.standsIn n) : ∃ u, AdoptKept n s u ∧
    u.zones.get z = s.zones.get z ∧ (s.adopt n).zones.get z = (State.adoptOne n u z).zones.get z ∧
      AdoptKept n (State.adoptOne n u z) (s.adopt n) := by
  obtain ⟨before, after, split⟩ := List.append_of_mem mem
  have nodup : (s.standsIn n).Nodup := (s.nodup_memberZones n).filter _
  rw [split] at nodup
  obtain ⟨-, tail, apart⟩ := List.nodup_append.mp nodup
  have step (zs : List Zone) (t : State) : AdoptKept n t (zs.foldl (State.adoptOne n) t) :=
    foldl_related (.refl n) .trans .adoptOne t zs
  have others (zs : List Zone) (out : z ∉ zs) (t : State) :
      (zs.foldl (State.adoptOne n) t).zones.get z = t.zones.get z := by
    induction zs generalizing t with
    | nil => rfl
    | cons y zs ih =>
      rw [List.mem_cons, not_or] at out
      rw [List.foldl_cons, ih out.2, State.adoptOne_get_ne t out.1]
  refine ⟨before.foldl (State.adoptOne n) s, step before s,
    others before (fun here => apart z here z (by simp) rfl) s, ?_, ?_⟩
  · rw [State.adopt_eq, split, List.foldl_append, List.foldl_cons]
    exact others after (List.nodup_cons.mp tail).1 _
  · rw [State.adopt_eq, split, List.foldl_append, List.foldl_cons]
    exact step after _

section
variable {z : Zone} {d : ZoneDyn} (member : z ∈ s.memberZones n) (inside : s.inside z n = true)
  (free : s.holds n z = false) (record : s.zones.get z = some d)
include member inside free record

theorem State.adopt_of_open (opened : s.openTo z n = true) : ∃ kind,
    (s.adopt n).zones.get z = some { d with hold := some ⟨n, kind, true⟩, entry := .stopped,
                                            dwell := .stopped, waiting := d.waiting.erase n } ∧
      (kind = .booked ↔ ∃ b, s.reserving z = some b ∧ b.inWindow = true) := by
  obtain ⟨u, kept, here, result, -⟩ := State.adopt_get (List.mem_filter.mpr ⟨member, inside⟩)
  have unheld : u.holds n z = false := (State.holds_of_zones_get here n).trans free
  have still : u.openTo z n = true := (State.openTo_of_kept kept.toRecoverKept here).trans opened
  rw [State.adoptOne, if_neg (by rw [unheld]; nofun), if_pos still] at result
  obtain ⟨kind, given, booked⟩ := State.adoptZone_get (n := n) (here.trans record)
  refine ⟨kind, result.trans given, booked.trans ?_⟩
  rw [State.reserving_window_iff, State.reserving_window_iff, State.reserving_window here kept.window]

theorem State.adopt_of_closed (shut : s.openTo z n = false) :
    (s.adopt n).zones.get z = some d ∧ ((s.adopt n).arb.get n).intrusion = true := by
  obtain ⟨u, kept, here, result, later⟩ := State.adopt_get (List.mem_filter.mpr ⟨member, inside⟩)
  have unheld : u.holds n z = false := (State.holds_of_zones_get here n).trans free
  have still : u.openTo z n = false := (State.openTo_of_kept kept.toRecoverKept here).trans shut
  have latches : State.adoptOne n u z = u.latchIntrusion n := by
    rw [State.adoptOne, if_neg (by rw [unheld]; nofun), if_neg (by rw [still]; nofun)]
  rw [latches, zones_of_holderWork (holderWork_latchIntrusion u n), here, record] at result
  refine ⟨result, (later.latch (.inl ?_)).resolve_right fun none => ?_⟩
  · rw [latches, State.latchIntrusion_arb, if_pos rfl]
  · have all : AdoptKept n s (s.adopt n) := foldl_related (.refl n) .trans .adoptOne s _
    have stands : z ∈ (s.adopt n).standsUnheld n := by
      refine List.mem_filter.mpr ⟨?_, ?_⟩
      · rwa [State.memberZones_of_live (s := s) (by rw [all.plan])]
      · rw [State.inside_of_kept (s := s) (by rw [all.plan]) all.position, inside,
          State.holds_of_zones_get (result.trans record.symm), free]
        rfl
    rw [none] at stands
    cases stands

end

/-! ### Load rises (R161) -/

theorem State.loadRise_of_armed {b : Booking}
    (armed : (s.bookings.find? fun b => b.station == n && b.state == .armed) = some b) :
    ((s.wind.get n).stage = .normal ∨ (s.wind.get n).stage = .caution →
      s.loadRise n = s.openBooking b b.duration (s.clock.time + b.duration)) ∧
    ((s.wind.get n).stage = .hold ∨ (s.wind.get n).stage = .shutdown → s.loadRise n = s) := by
  constructor <;> rintro (stage | stage) <;> simp only [State.loadRise, armed, stage]

theorem State.loadRise_of_none (none : ∀ b ∈ s.bookings, b.station = n → b.state ≠ .armed) :
    s.loadRise n = s := by
  have absent : (s.bookings.find? fun b => b.station == n && b.state == .armed) = .none := by
    simpa using none
  simp only [State.loadRise, absent]

end

/-! ### The profile selected (R28) -/

theorem selectProfile_of_fixed {r : StationRec} {j : ProfileIx} (source : r.source = .fixed j)
    (present : Option ProfileIx) (i : Nat) : selectProfile r present i = (some j, false) := by
  simp only [selectProfile, source]

section
variable {r : StationRec} {present : Option ProfileIx} {i : ProfileIx} (source : r.source = .crane)
include source

theorem selectProfile_of_used (used : (profileAt r i).inUse = true) :
    selectProfile r present i.val = (some i, false) := by
  have ix : (Fin.ofNat 8 i.val : ProfileIx) = i := fin_ofNat_val rfl
  simp only [selectProfile, source, ix, used, if_true]

theorem selectProfile_of_present {j : ProfileIx} (unused : (profileAt r i).inUse = false)
    (held : present = some j) : selectProfile r present i.val = (some j, true) := by
  have ix : (Fin.ofNat 8 i.val : ProfileIx) = i := fin_ofNat_val rfl
  simp only [selectProfile, source, ix, unused, held, Bool.false_eq_true, if_false]

theorem selectProfile_of_none {j : ProfileIx} (unused : (profileAt r i).inUse = false)
    (none : present = .none) (used : (profileAt r j).inUse = true)
    (least : ∀ k, k < j → (profileAt r k).inUse = false) :
    selectProfile r present i.val = (some j, true) := by
  have ix : (Fin.ofNat 8 i.val : ProfileIx) = i := fin_ofNat_val rfl
  have lowest : lowestInUse r = some j := by
    exact (find?_eq_some_iff_lowest (List.pairwise_lt_finRange 8) List.mem_finRange).mpr ⟨used, least⟩
  simp only [selectProfile, source, ix, unused, none, lowest, Bool.false_eq_true, if_false]

end

end Sys2Proof.Machine
end

section
/-! What a report takes and answers (R28, R29, R33). -/

namespace Sys2Proof.Machine

open Sys2Proof.Safety

/-! ### The limits computed again -/

section
variable {s : State} {n : Station}

/-- The three cases of a computation of the limits (R85). -/
theorem State.limits_cases (s : State) (n : Station) :
    (s.station n).enabled = false ∨ (s.station n).enabled = true ∧
      (((s.vane.get n).vane = .vaning ∨ (s.ctx.get n).position = none ∨ s.profileInEffect n = none) ∨
        (s.vane.get n).vane ≠ .vaning ∧ ∃ p f, (s.ctx.get n).position = some p ∧
          s.profileInEffect n = some f) := by
  cases (s.station n).enabled with
  | false => exact .inl rfl
  | true =>
    refine .inr ⟨rfl, ?_⟩
    by_cases vaning : (s.vane.get n).vane = .vaning
    · exact .inl (.inl vaning)
    · cases (s.ctx.get n).position with
      | none => exact .inl (.inr (.inl rfl))
      | some p => cases s.profileInEffect n with
        | none => exact .inl (.inr (.inr rfl))
        | some f => exact .inr ⟨vaning, p, f, rfl, rfl⟩

/-- The links are no part of the computation. -/
theorem State.recompute_of_links (s : State) (n : Station) (handling : Option Link) (held : List Frame)
    (tx : PerLink Tx) (rx : PerLink Rx) :
    State.recompute { s with handling, held, tx, rx } n =
      { s.recompute n with handling, held, tx, rx } := by
  set t : State := { s with handling, held, tx, rx } with links
  obtain off | ⟨on, unlimited | ⟨still, p, f, position, figures⟩⟩ := s.limits_cases n
  · rw [State.recompute_of_disabled (s := t) off, State.recompute_of_disabled off]; rfl
  · rw [State.recompute_of_unlimited (s := t) on unlimited, State.recompute_of_unlimited on unlimited]; rfl
  · rw [State.recompute_of_figures (s := t) on still position figures,
      State.recompute_of_figures on still position figures]; rfl

theorem State.setLim_setLim (s : State) (n : Station) (l k : LimitCtx) :
    (s.setLim n l).setLim n k = s.setLim n k := by cases n <;> rfl

theorem State.profileInEffect_cases (s : State) (n : Station) :
    s.profileInEffect n = (((s.ctx.get n).profile.filter fun i => (profileAt (s.station n) i).inUse).map fun i =>
      figuresOf (profileAt (s.station n) i)).or (s.lim.get n).inEffect := by
  unfold State.profileInEffect
  cases (s.ctx.get n).profile with
  | none => rfl
  | some i => cases used : (profileAt (s.station n) i).inUse <;> simp [Option.filter, used]

/-- The profile in effect stays in effect. -/
theorem State.profileInEffect_setLim {l : LimitCtx} (eff : l.inEffect = s.profileInEffect n) :
    (s.setLim n l).profileInEffect n = s.profileInEffect n := by
  rw [State.profileInEffect_cases] at eff ⊢
  have here : ((s.setLim n l).lim.get n).inEffect = l.inEffect := by simp
  rw [here, eff, State.profileInEffect_cases]
  change Option.or (((s.ctx.get n).profile.filter fun i => (profileAt (s.station n) i).inUse).map fun i =>
    figuresOf (profileAt (s.station n) i)) _ = _
  cases ((s.ctx.get n).profile.filter fun i => (profileAt (s.station n) i).inUse) <;> rfl

theorem State.computedLimits_setLim {l : LimitCtx} {p : Position} {f : Figures}
    (speed : l.vWind = (s.lim.get n).vWind) :
    (s.setLim n l).computedLimits n p f = s.computedLimits n p f := by
  have here : ((s.setLim n l).lim.get n).vWind = (s.lim.get n).vWind := by simpa using speed
  unfold State.computedLimits
  dsimp only
  rw [here]
  rfl

/-- Limits computed again from the same fields are the same. -/
theorem State.recompute_idem (s : State) (n : Station) : (s.recompute n).recompute n = s.recompute n := by
  obtain off | ⟨on, unlimited | ⟨still, p, f, position, figures⟩⟩ := s.limits_cases n
  · rw [State.recompute_of_disabled off]
    refine (State.recompute_of_disabled (s := s.setLim n _) off).trans ?_
    rw [State.setLim_setLim]
    simp
  · rw [State.recompute_of_unlimited on unlimited]
    have eff := State.profileInEffect_setLim (s := s) (n := n) (l := { s.lim.get n with
      inEffect := s.profileInEffect n, gapCw := 0, gapCcw := 0, cw := 0, ccw := 0, radius := 0 }) rfl
    refine (State.recompute_of_unlimited (s := s.setLim n _) on ?_).trans ?_
    · rw [eff]; exact unlimited
    · rw [State.setLim_setLim, eff]
      simp
  · rw [State.recompute_of_figures on still position figures]
    have eff := State.profileInEffect_setLim (s := s) (n := n) (l := s.computedLimits n p f) figures.symm
    refine (State.recompute_of_figures (s := s.setLim n _) on still position (eff.trans figures)).trans ?_
    rw [State.setLim_setLim]
    exact congrArg (s.setLim n) (State.computedLimits_setLim rfl)

end

/-! ### The station's own fields through a report (R28, R29) -/

section
variable {s : State} {n : Station} {angle : Angle} {radius profile : Nat} {loaded released : Bool}

/-- Every context but for its motion permit and its last ended booking. -/
def LinksKept (s t : State) : Prop := ∀ m, t.ctx.get m =
  { s.ctx.get m with mp := (t.ctx.get m).mp, lastEnded := (t.ctx.get m).lastEnded }

theorem LinksKept.of_zoneWork {s t : State} (h : zoneWork s t) : LinksKept s t := fun m => (h.2 m).1

theorem LinksKept.trans {s t u : State} (h : LinksKept s t) (k : LinksKept t u) : LinksKept s u :=
  fun m => (k m).trans (by rw [h m])

theorem zoneWork_reportRisen : zoneWork (s.reportTaken n angle radius profile loaded released)
    (s.reportRisen n angle radius profile loaded released) := by
  have braked := zoneWork_takeBrake (s.reportTaken n angle radius profile loaded released) n released
  unfold State.reportRisen
  split
  · exact zoneWork_trans braked (zoneWork_loadRise _ n)
  · exact braked

theorem State.reportRisen_ctx (m : Station) :
    (s.reportRisen n angle radius profile loaded released).ctx.get m =
      { (s.reportTaken n angle radius profile loaded released).ctx.get m with
        mp := ((s.reportRisen n angle radius profile loaded released).ctx.get m).mp
        lastEnded := ((s.reportRisen n angle radius profile loaded released).ctx.get m).lastEnded } :=
  LinksKept.of_zoneWork zoneWork_reportRisen m

theorem State.reportJudged_ctx (s : State) (n m : Station) : (s.reportJudged n).ctx.get m =
    { s.ctx.get m with
      link := if m = n then .online else (s.ctx.get m).link
      mp := ((s.reportJudged n).ctx.get m).mp, lastEnded := ((s.reportJudged n).ctx.get m).lastEnded } := by
  set u := (s.setCtx n { s.ctx.get n with link := .online }).staleEnds n (s.ctx.get n).link with told
  have work : zoneWork u (s.reportJudged n) := zoneWork_judgeReport u n _
  have here : u.ctx.get m = { s.ctx.get m with link := if m = n then .online else (s.ctx.get m).link } := by
    rw [told, (AlarmFrame.staleEnds _ _ _).ctx, State.setCtx_ctx, PerStation.get_set]
    split
    · next same => rw [same]
    · rfl
  refine (LinksKept.of_zoneWork work m).trans ?_
  rw [here]

/-- The context of a station whose report timer has restarted (R29). -/
def StationCtx.restarted (c : StationCtx) (timeout : Nat) : StationCtx :=
  { c with reportTimer := .running timeout, linkDwell := .stopped }

theorem PermitFrame.ctx_mp {s t : State} (h : PermitFrame n s t) (m : Station) :
    t.ctx.get m = { s.ctx.get m with mp := (t.ctx.get m).mp } := by
  by_cases same : m = n
  · subst same; exact h.own
  · rw [(h.others m same).1]

theorem State.restartReport_ctx (s : State) (n m : Station) : ((s.restartReport n).recompute n).ctx.get m =
    { (if m = n then (s.ctx.get m).restarted (s.station n).reportTimeout else s.ctx.get m) with
      mp := (((s.restartReport n).recompute n).ctx.get m).mp } := by
  have permit := (PermitFrame.reevalPermit (s.setCtx n ((s.ctx.get n).restarted (s.station n).reportTimeout))
    n).trans (.recompute _ n)
  refine (permit.ctx_mp m).trans ?_
  rw [State.setCtx_ctx, PerStation.get_set]
  split
  · next same => rw [same]; rfl
  · rfl

theorem State.reportRisen_plan : (s.reportRisen n angle radius profile loaded released).plan = s.plan :=
  (plan_of_zoneWork (zoneWork_reportRisen (s := s))).trans rfl

theorem State.reportJudged_plan (s : State) (n : Station) : (s.reportJudged n).plan = s.plan :=
  (plan_of_zoneWork (zoneWork_judgeReport _ n _)).trans (by rw [(AlarmFrame.staleEnds _ _ _)]; rfl)

/-- The station's own fields after a report (R28, R29). -/
theorem State.report_ctx : let t := s.report n angle radius profile loaded released
    t.ctx.get n = { (s.ctx.get n).report (s.station n) angle radius profile loaded released with
      link := .online, reportTimer := .running (s.station n).reportTimeout, linkDwell := .stopped
      mp := t.permit n, lastEnded := (t.ctx.get n).lastEnded } := by
  intro t
  have permit : (t.ctx.get n).mp = t.permit n := permitFollows_iff.mp State.report_permit
  have station : ((s.reportRisen n angle radius profile loaded released).reportJudged n).station n =
      s.station n := by
    rw [State.station, State.reportJudged_plan, State.reportRisen_plan]; rfl
  have restarted : t.ctx.get n = _ := State.restartReport_ctx
    ((s.reportRisen n angle radius profile loaded released).reportJudged n) n n
  rw [if_pos rfl, station, State.reportJudged_ctx, if_pos rfl, State.reportRisen_ctx] at restarted
  have ended := congrArg StationCtx.lastEnded restarted
  have taken : (s.reportTaken n angle radius profile loaded released).ctx.get n =
    (s.ctx.get n).report (s.station n) angle radius profile loaded released := PerStation.get_set_same _ _ _
  rw [taken] at restarted
  rw [← permit, ended, restarted]
  rfl

/-- The contexts of the other stations after a report. -/
theorem State.report_ctx_ne {m : Station} (ne : m ≠ n) :
    let t := s.report n angle radius profile loaded released
    t.ctx.get m = { s.ctx.get m with mp := (t.ctx.get m).mp, lastEnded := (t.ctx.get m).lastEnded } := by
  intro t
  have restarted : t.ctx.get m = _ := State.restartReport_ctx
    ((s.reportRisen n angle radius profile loaded released).reportJudged n) n m
  have taken : (s.reportTaken n angle radius profile loaded released).ctx.get m = s.ctx.get m :=
    PerStation.get_set_ne ne
  rw [if_neg ne, State.reportJudged_ctx, if_neg ne, State.reportRisen_ctx, taken] at restarted
  have ended := congrArg StationCtx.lastEnded restarted
  rw [ended]
  exact restarted

/-! ### The last brake state (R142) -/

/-- The last brake state of every station is kept. -/
def BrakeKept (s t : State) : Prop :=
  ∀ m, (t.vane.get m).lastReleased = (s.vane.get m).lastReleased

theorem BrakeKept.trans {s t u : State} (h : BrakeKept s t) (k : BrakeKept t u) : BrakeKept s u :=
  fun m => (k m).trans (h m)

theorem BrakeKept.of_claims {s t : State} (h : ClaimsKept s t) : BrakeKept s t :=
  fun m => (h.vane m).lastReleased

theorem BrakeKept.of_vane {s t : State} (h : t.vane = s.vane) : BrakeKept s t := fun m => by rw [h]

theorem BrakeKept.setVane (s : State) (v : Station) (c : VaneCtx)
    (same : c.lastReleased = (s.vane.get v).lastReleased := by rfl) : BrakeKept s (s.setVane v c) := fun m => by
  by_cases own : m = v
  · subst own; simpa using same
  · simp [own]

theorem BrakeKept.setOverdue (s : State) (v : Station) (b : Bool) : BrakeKept s (s.setOverdue v b) :=
  fun m => by
    rw [State.setOverdue_vane]
    split
    · next own => rw [own]
    · rfl

theorem BrakeKept.sweepRemove (s : State) (v : Station) : BrakeKept s (s.sweepRemove v) :=
  (BrakeKept.of_vane (by rw [s.sweepOff_frame v])).trans (.of_claims (Claims.sweepRemove s v).kept)

theorem BrakeKept.startClearanceTimer (s : State) (v : Station) : BrakeKept s (s.startClearanceTimer v) :=
  (BrakeKept.setVane s v { s.vane.get v with timer := .running s.plan.live.site.clearanceTimeout }).trans
    (.setOverdue _ v false)

theorem BrakeKept.clearNeighbours (s : State) (v : Station) : BrakeKept s (s.clearNeighbours v) :=
  ((BrakeKept.of_claims (Claims.neighboursAsked s v).kept).trans (.startClearanceTimer _ v)).trans
    (.of_claims (.judgeClear _ v))

theorem BrakeKept.beginSwing (s : State) (v : Station) : BrakeKept s (s.beginSwing v) :=
  ((BrakeKept.of_vane (s.sweepAdd_vane v)).trans (.setVane (s.sweepAdd v) v
    { (s.sweepAdd v).vane.get v with vane := .vaning })).trans
      (.of_claims ((Claims.refl _).serveMemberZones v).kept)

theorem BrakeKept.unsafeRelease (s : State) (v : Station) : BrakeKept s (s.unsafeRelease v) := by
  unfold State.unsafeRelease
  extract_lets wasClearing c latched swept d vaning opened
  have latches : BrakeKept s latched := .setVane s v _
  have sweeps : BrakeKept latched swept := .of_vane ((State.sweepAdd_vane _ v).trans
    (AlarmFrame.alarmBegins latched (.unsafeVane v)).vane)
  have begun : BrakeKept s vaning := (latches.trans sweeps).trans (.setVane swept v _)
  have told : BrakeKept s opened := by
    change BrakeKept s (if wasClearing = true then _ else _)
    split
    · exact (begun.trans (.setOverdue _ v false)).trans (.of_claims ((Claims.refl _).serveMemberZones v).kept)
    · exact begun
  exact told.trans (.of_claims (.reevalPermit _ v))

theorem BrakeKept.swingToClearance (s : State) (v : Station) : BrakeKept s (s.swingToClearance v) := by
  unfold State.swingToClearance
  refine BrakeKept.trans ?_ (.sweepRemove _ v)
  split
  · exact .setVane s v _
  · exact (BrakeKept.setVane s v { s.vane.get v with vane := .clearing, vc := false }).trans
      (.clearNeighbours _ v)

theorem BrakeKept.returnToService (s : State) (v : Station) : BrakeKept s (s.returnToService v) :=
  ((BrakeKept.setVane s v { s.vane.get v with vane := .braked, vc := false }).trans
    (.of_claims ((Claims.refl _).adopt v).kept)).trans (.sweepRemove _ v)

theorem BrakeKept.endSwing (s : State) (v : Station) : BrakeKept s (s.endSwing v) := by
  have left : BrakeKept s (s.swingLeft v) := by
    unfold State.swingLeft
    split
    · exact .swingToClearance s v
    · exact .returnToService s v
  refine left.trans ?_
  rw [State.endSwing_eq]
  refine BrakeKept.trans (t := (s.swingLeft v).alarmEnds (.unsafeVane v)) (.of_vane rfl) ?_
  unfold State.unsafeCleared
  split
  · exact (BrakeKept.setVane _ v { ((s.swingLeft v).alarmEnds _).vane.get v with unsafeLatched := false }).trans
      (.of_claims (.reevalPermit _ v))
  · exact .of_vane rfl

/-- A report that says what is known of the brake begins and ends no swing (R142). -/
theorem State.takeBrake_of_known (known : released = true ↔ (s.vane.get n).vane = .vaning) :
    s.takeBrake n released = s.brakeTold n released := by
  unfold State.takeBrake State.brakeTold
  cases vane : (s.vane.get n).vane <;> cases released <;> simp_all

theorem State.takeBrake_lastReleased (s : State) (n : Station) (released : Bool) :
    ((s.takeBrake n released).vane.get n).lastReleased = released := by
  have told : ((s.brakeTold n released).vane.get n).lastReleased = released := by simp [State.brakeTold]
  suffices BrakeKept (s.brakeTold n released) (s.takeBrake n released) from (this n).trans told
  by_cases known : released = true ↔ (s.vane.get n).vane = .vaning
  · rw [State.takeBrake_of_known known]
    exact .of_vane rfl
  · cases released with
    | false =>
      have vaning : (s.vane.get n).vane = .vaning := by simpa using known
      rw [State.takeBrake_of_vaning vaning]
      exact .endSwing _ n
    | true =>
      cases vane : (s.vane.get n).vane with
      | clear => rw [State.takeBrake_of_clear vane]; exact .beginSwing _ n
      | braked => rw [State.takeBrake_of_held (.inl vane)]; exact .unsafeRelease _ n
      | clearing => rw [State.takeBrake_of_held (.inr vane)]; exact .unsafeRelease _ n
      | vaning => exact absurd (by simp [vane]) known

theorem State.report_lastReleased :
    ((s.report n angle radius profile loaded released).vane.get n).lastReleased = released :=
  (State.report_kept.vane n).lastReleased.trans (State.takeBrake_lastReleased _ n released)

/-! ### What is written (R29) -/

theorem ZoneFrame.reportJudged (s : State) (n : Station) : ZoneFrame s (s.reportJudged n) :=
  ((ZoneFrame.setCtx s n _).trans (.of_alarms (.staleEnds _ n _))).trans
    (.of_zoneWork (zoneWork_judgeReport _ n _))

theorem ZoneFrame.restartReport (s : State) (n : Station) : ZoneFrame s (s.restartReport n) :=
  (ZoneFrame.setCtx s n _).trans (.of_own (.of_permit (.reevalPermit _ n)))

theorem ZoneFrame.report : ZoneFrame s (s.report n angle radius profile loaded released) := by
  have taken : ZoneFrame s (s.reportTaken n angle radius profile loaded released) := .setCtx s n _
  have risen := taken.trans (.of_zoneWork zoneWork_reportRisen)
  exact ((risen.trans (.reportJudged _ n)).trans (.restartReport _ n)).trans
    (.of_own (.of_permit (.recompute _ n)))

end

/-! ### The answer (R33) -/

theorem positionViewed_positionAnswer (s : State) (n : Station) :
    positionViewed s n (s.positionAnswer n) := by
  refine ⟨rfl, rfl, rfl, rfl, rfl, rfl, rfl, rfl, zoneSetsViewed_zoneSets s n, fun none => ?_, fun some => ?_,
    rfl, rfl⟩
  · have absent : (s.bookings.find? fun b => b.station == n && b.inWindow) = .none := by
      simpa using none
    simp [State.positionAnswer, absent]
  · obtain ⟨b, mem, own, window⟩ := some
    have found : (s.bookings.find? fun b => b.station == n && b.inWindow).isSome :=
      List.find?_isSome.mpr ⟨b, mem, by simp [own, window]⟩
    obtain ⟨c, e⟩ := Option.isSome_iff_exists.mp found
    have claims := List.find?_some e
    simp only [Bool.and_eq_true, beq_iff_eq] at claims
    obtain ⟨w, opened⟩ := Option.isSome_iff_exists.mp claims.2
    exact ⟨c, List.mem_of_find?_eq_some e, w, claims.1, opened, by simp [State.positionAnswer, e],
      by simp [State.positionAnswer, e, opened]⟩

end Sys2Proof.Machine
end

section
/-! A position report is taken, judged and answered (R24, R28, R29, R33, R58). -/

namespace Sys2Proof.Machine

open Sys2Proof.Safety

/-! ### The report judged against the report's own context -/

section
variable {s u : State} {n : Station} {angle : Angle} {radius profile : Nat} {loaded released : Bool}

theorem Judges.staleEnds (s : State) (n : Station) (was : LinkState) : Judges s (s.staleEnds n was) :=
  .of_alarms (.staleEnds s n was)

theorem Judges.restartReport (s : State) (n : Station) : Judges s (s.restartReport n) :=
  (Judges.setCtx (n := n) (c := (s.ctx.get n).restarted (s.station n).reportTimeout) s rfl).trans
    (.reevalPermit _ n)

/-- A report that begins and ends no swing is judged as its station's final context says. -/
theorem State.report_judges (known : released = true ↔ (u.vane.get n).vane = .vaning) {c : StationCtx}
    (position : c.position = some { angle, radius := min radius (u.station n).jibRadius, loaded, released }) :
    let taken := u.setCtx n c
    let risen := if (u.ctx.get n).rise = some false ∧ loaded = true then taken.loadRise n else taken
    Judges (risen.judgeReport n ((u.ctx.get n).link == .joining))
      ((u.taken (.crane n)).report n angle radius profile loaded released) := by
  intro taken risen
  set v := u.taken (.crane n) with handled
  have braked : Judges taken (v.reportBraked n angle radius profile loaded released) := by
    rw [State.reportBraked, State.takeBrake_of_known (s := v.reportTaken n angle radius profile loaded released) known]
    refine ⟨rfl, rfl, rfl, rfl, rfl, rfl, fun m => ?_, fun m => ?_, fun m => ?_⟩
    · change ((u.ctx.set n _).get m).position = ((u.ctx.set n c).get m).position
      by_cases own : m = n
      · subst own
        simp [position, StationCtx.report]
        rfl
      · simp [own]
    · change ((u.vane.set n _).get m).vane.closes = _
      by_cases own : m = n
      · subst own; simp [taken]; rfl
      · simp [own, taken]
    · change ((u.vane.set n _).get m).vane = .vaning ↔ _
      by_cases own : m = n
      · subst own; simp [taken]; rfl
      · simp [own, taken]
  have rises : (u.ctx.get n).rise = some false ∧ loaded = true ↔ v.loadRises n loaded = true := by
    rw [State.loadRises, Bool.and_eq_true, beq_iff_eq]
    exact .rfl
  have risenJudges : Judges risen (v.reportRisen n angle radius profile loaded released) :=
    .ite rises (fun _ => braked.loadRise n) fun _ => braked
  set x := v.reportRisen n angle radius profile loaded released with done
  have was : (x.ctx.get n).link = (u.ctx.get n).link := by
    rw [done, State.reportRisen_ctx]
    change ((v.reportTaken n angle radius profile loaded released).ctx.get n).link = _
    rw [State.reportTaken, State.setCtx_ctx, PerStation.get_set_same]
    rfl
  have judged : Judges (risen.judgeReport n ((u.ctx.get n).link == .joining)) (x.reportJudged n) := by
    rw [State.reportJudged, was]
    refine Judges.judgeReport (risenJudges.trans ?_) n _
    exact (Judges.setCtx (c := { x.ctx.get n with link := .online }) x rfl).trans (.staleEnds _ n _)
  rw [State.report_eq, ← done]
  exact (judged.trans (.restartReport _ n)).trans (.recompute _ n)

end

/-- A report of an OFFLINE station is refused (R24). -/
theorem exec_position_of_offline {s : State} {n : Station} {angle : Angle} {radius profile : Nat}
    {loaded released : Bool} (off : (s.ctx.get n).link = .offline) :
    exec (.position n angle radius profile loaded released) s =
      .next (replied (.crane n) (.answer 0x02 .notJoined .empty) s) := by
  have before : s.beforeReport n loaded = s := if_neg fun h => h.1 off
  have refused : (s.taken (.crane n)).position n angle radius profile loaded released =
      (s.taken (.crane n), .notJoined, .empty) := if_pos off
  change execPosition n angle radius profile loaded released s = _
  rw [execPosition, before]
  exact congrArg Host.Outcome.next (craneRequest_of_unchanged refused)

theorem State.inside_iff {s : State} {n : Station} {z : Zone} : s.inside z n = true ↔
    ∃ m p, s.member z n = some m ∧ (s.ctx.get n).position = some p ∧ obstacleClass m p = .inside := by
  unfold State.inside
  cases s.member z n with
  | none => simp
  | some m => cases (s.ctx.get n).position with
    | none => simp
    | some p => simp [obstacleClass_inside_iff, positionInside]

section
variable {s : State} {n : Station} {angle : Angle} {radius profile : Nat} {loaded released : Bool}

theorem Talks.report (s : State) :
    Talks s (s.report n angle radius profile loaded released) :=
  ((Acts.refl (b := false) s).report n angle radius profile loaded released).talks

theorem zoneWork_beforeReport (s : State) (n : Station) (loaded : Bool) :
    zoneWork s (s.beforeReport n loaded) := by
  unfold State.beforeReport
  split
  · exact zoneWork_settleBookings s
  · exact zoneWork_refl s

theorem ZoneFrame.positioned {u : State} (before : zoneWork s u) :
    ZoneFrame s ((u.taken (.crane n)).report n angle radius profile loaded released) := by
  have taken : ZoneFrame u (u.taken (.crane n)) := rfl
  exact ((ZoneFrame.of_zoneWork before).trans taken).trans .report

/-- The context a report leaves, from the one before what was due. -/
theorem StationCtx.report_of_due {c d : StationCtx} {r : StationRec} {m : Bool} {e : Option LastEnded}
    (due : d = { c with mp := m, lastEnded := e }) :
    d.report r angle radius profile loaded released =
      { c.report r angle radius profile loaded released with mp := m, lastEnded := e } := by
  rw [due]
  rfl

end

/-- Settles O32: the fields a report takes, its judgement, adoption, and its answer. -/
theorem positionReportIsTaken : Obligations.PositionReportIsTaken := by
  unfold Obligations.PositionReportIsTaken
  refine ⟨fun r present i => ⟨fun j source => selectProfile_of_fixed source present _, fun source =>
      ⟨selectProfile_of_used source, fun unused => ⟨fun j => selectProfile_of_present source unused,
        fun j none used => selectProfile_of_none source unused none used⟩⟩⟩,
    fun s n z => State.inside_iff, fun s n angle radius profile loaded released off =>
      exec_position_of_offline off, ?_, fun s n => ?_, fun s n => ?_, fun s n z d member inside free record =>
      ⟨State.adopt_of_open member inside free record, State.adopt_of_closed member inside free record⟩,
    fun s n => ⟨fun b armed => State.loadRise_of_armed armed, State.loadRise_of_none⟩⟩
  · intro s n angle radius profile loaded released linked r c p
    have before := zoneWork_beforeReport s n loaded
    have vaning := ((Claims.beforeReport s n loaded).kept.vane n).vane_eq_vaning_iff
    have step := exec_position (angle := angle) (radius := radius) (profile := profile)
      (loaded := loaded) (released := released) linked
    revert before vaning step
    generalize s.beforeReport n loaded = u
    intro before vaning step
    dsimp only at step ⊢
    have frame : ZoneFrame s ((u.taken (.crane n)).report n angle radius profile loaded released) :=
      .positioned before
    have plan : u.plan = s.plan := plan_of_zoneWork before
    have own := LinksKept.of_zoneWork before n
    have ctx := State.report_ctx (s := u.taken (.crane n)) (n := n) (angle := angle) (radius := radius)
      (profile := profile) (loaded := loaded) (released := released)
    have judges {c : StationCtx} (known : released = true ↔ (u.vane.get n).vane = .vaning)
        (position : c.position = some { angle, radius := min radius (u.station n).jibRadius, loaded, released }) :=
      State.report_judges (profile := profile) known position
    have talks := Talks.report (n := n) (angle := angle) (radius := radius) (profile := profile)
      (loaded := loaded) (released := released) (u.taken (.crane n))
    have braked := State.report_lastReleased (s := u.taken (.crane n)) (n := n) (angle := angle)
      (radius := radius) (profile := profile) (loaded := loaded) (released := released)
    have others (m : Station) (ne : m ≠ n) := State.report_ctx_ne (s := u.taken (.crane n)) (n := n)
      (angle := angle) (radius := radius) (profile := profile) (loaded := loaded) (released := released) ne
    have again : ((u.taken (.crane n)).report n angle radius profile loaded released).recompute n =
        (u.taken (.crane n)).report n angle radius profile loaded released := by
      rw [State.report_eq, State.recompute_idem]
    generalize (u.taken (.crane n)).report n angle radius profile loaded released = t
      at step frame ctx judges talks braked others again
    have station : (u.taken (.crane n)).station n = s.station n := by
      rw [State.station, show (u.taken (.crane n)).plan = s.plan from plan]; rfl
    dsimp only at ctx
    rw [station, show (u.taken (.crane n)).ctx = u.ctx from rfl, StationCtx.report_of_due own] at ctx
    refine ⟨_, step, ctx, braked, ?_, ?_, fun known => ?_, fun m ne => ?_, ?_⟩
    · exact (State.recompute_of_links t n _ _ _ _).trans (by rw [again]; rfl)
    · exact ⟨_, positionViewed_positionAnswer t n, answered_of_talks talks _⟩
    · have judged := judges (c := t.ctx.get n) (known.trans vaning.symm) (by
        rw [ctx, show u.station n = s.station n from station]; rfl)
      have rise : (u.ctx.get n).rise = (s.ctx.get n).rise := by rw [own]
      have link : (u.ctx.get n).link = (s.ctx.get n).link := by rw [own]
      dsimp only at judged
      rw [rise, link] at judged
      exact ⟨judged.zones, judged.arb, judged.bookings⟩
    · refine (others m ne).trans ?_
      rw [show (u.taken (.crane n)).ctx = u.ctx from rfl, LinksKept.of_zoneWork before m]
      rfl
    · exact congrArg (State.replies · _ _) frame
  · rw [State.judgeReport_of_standing]
    obtain ⟨intrusion, recovery⟩ := State.judgeStanding_arb (s := s) (n := n) (joined := false)
    exact ⟨s.judgeStanding_get n false, intrusion, recovery, State.judgeStanding_entry,
      fun m judged => (Bool.eq_iff_iff.mp (State.judgeStanding_conflict judged)).trans State.conflictNow_iff⟩
  · rw [State.judgeReport_of_joining]
    obtain ⟨intrusion, recovery⟩ := State.judgeStanding_arb (s := s.adopt n) (n := n) (joined := true)
    refine ⟨(s.adopt n).judgeStanding_get n true, (s.adopt n).judgeStanding_bookings n true, ?_, ?_⟩
    · rw [intrusion]
      by_cases none : (s.adopt n).standsUnheld n = [] <;> simp [none]
    · rw [recovery]
      by_cases none : (s.adopt n).standsUnheld n = [] <;> simp [none]

end Sys2Proof.Machine
end

section
/-! What the blocks' timed work leaves of the plan, the clock and the alarms of the site. -/

namespace Sys2Proof.Machine

open Sys2Proof.Safety

/-- The alarm entries of the site (R185). -/
def AlarmId.ofSite : AlarmId → Bool
  | .planInvalid | .siteStop | .timeSlip | .storeFailed | .commitFailed => true
  | _ => false

/-- The plan, the clock, the settings in force and the alarms of the site are kept. -/
structure SiteKept (s t : State) : Prop where
  plan : t.plan = s.plan
  clock : t.clock = s.clock
  interval : t.tickInterval = s.tickInterval
  derate : t.siteDerate = s.siteDerate
  stop : t.siteStop = s.siteStop
  number : t.nextNumber = s.nextNumber
  alarms : ∀ i, i.ofSite = true → t.alarms.get i = s.alarms.get i
  /-- No booking comes. -/
  bookings : (t.bookings.map (·.number)).Sublist (s.bookings.map (·.number))

theorem SiteKept.refl (s : State) : SiteKept s s := 
  ⟨rfl, rfl, rfl, rfl, rfl, rfl, fun _ _ => rfl, .refl _⟩

theorem SiteKept.trans {s t u : State} (h : SiteKept s t) (k : SiteKept t u) : SiteKept s u :=
  ⟨k.plan.trans h.plan, k.clock.trans h.clock, k.interval.trans h.interval, k.derate.trans h.derate,
    k.stop.trans h.stop, k.number.trans h.number, fun i site => (k.alarms i site).trans (h.alarms i site),
    k.bookings.trans h.bookings⟩

/-! ### Work on claims is work on the zones -/

theorem Claim.zoneWork {s t : State} (h : Claim s t) : zoneWork s t := by
  cases h with
  | raise l f _ => exact zoneWork_of_holderWork (holderWork_raise s l f)
  | permit n => exact zoneWork_of_holderWork (holderWork_reevalPermit s n)
  | arb n c => exact zoneWork_of_holderWork (holderWork_setArb s n c)
  | entry i e _ => exact zoneWork_of_holderWork (holderWork_setEntry s i e)
  | zone z record claimed => exact ⟨rfl, fun _ => ⟨rfl, rfl⟩⟩
  | clear n => exact zoneWork_of_holderWork (holderWork_judgeClear s n)
  | line n z => exact zoneWork_of_holderWork (holderWork_judgeSwingLine s n z)
  | bookings bs _ => exact zoneWork_setBookings s bs
  | ended n e => exact zoneWork_setLastEnded s n (some e)

theorem Claims.zoneWork {s t : State} (h : Claims s t) : zoneWork s t :=
  h.keeps (P := Safety.zoneWork s) (fun claim ih => zoneWork_trans ih claim.zoneWork) (zoneWork_refl s)

theorem Claim.bookings_numbers {s t : State} (h : Claim s t) :
    (t.bookings.map (·.number)).Sublist (s.bookings.map (·.number)) := by
  have holders {u : State} (work : holderWork s u) :
      (u.bookings.map (·.number)).Sublist (s.bookings.map (·.number)) := by
    rw [bookings_of_holderWork work]
  cases h with
  | raise l f _ => exact holders (holderWork_raise s l f)
  | permit n => exact holders (holderWork_reevalPermit s n)
  | arb n c => exact holders (holderWork_setArb s n c)
  | entry i e _ => exact holders (holderWork_setEntry s i e)
  | zone z record claimed => exact .refl _
  | clear n => exact holders (holderWork_judgeClear s n)
  | line n z => exact holders (holderWork_judgeSwingLine s n z)
  | bookings bs shrinks => exact shrinks
  | ended n e => exact .refl _

theorem Claims.bookings_numbers {s t : State} (h : Claims s t) :
    (t.bookings.map (·.number)).Sublist (s.bookings.map (·.number)) :=
  h.keeps (P := fun t => (t.bookings.map (·.number)).Sublist (s.bookings.map (·.number)))
    (fun claim ih => claim.bookings_numbers.trans ih) (.refl _)

theorem SiteKept.of_claims {s t : State} (h : Claims s t) : SiteKept s t := by
  have frame := h.zoneWork.1
  refine ⟨?_, ?_, ?_, ?_, ?_, ?_, fun i site => h.kept.alarms i (by cases i <;> cases site <;> rfl),
    h.bookings_numbers⟩ <;> rw [frame]

theorem SiteKept.empty {s t : State} (h : SiteKept s t) (empty : s.bookings = []) : t.bookings = [] := by
  have sub := h.bookings
  rw [empty] at sub
  simpa using sub

section Operations

variable {s₀ s : State} (h : SiteKept s₀ s)
include h

/-- A write of other fields. -/
theorem SiteKept.of_eq {t : State} (plan : t.plan = s.plan := by rfl) (clock : t.clock = s.clock := by rfl)
    (interval : t.tickInterval = s.tickInterval := by rfl)
    (derate : t.siteDerate = s.siteDerate := by rfl) (stop : t.siteStop = s.siteStop := by rfl)
    (number : t.nextNumber = s.nextNumber := by rfl) (alarms : t.alarms = s.alarms := by rfl)
    (bookings : t.bookings = s.bookings := by rfl) : SiteKept s₀ t :=
  h.trans ⟨plan, clock, interval, derate, stop, number, fun _ _ => by rw [alarms], by rw [bookings]⟩

theorem SiteKept.claims {t : State} (k : Claims s t) : SiteKept s₀ t := h.trans (.of_claims k)

theorem SiteKept.ite {c : Prop} [Decidable c] {t : State} (ht : SiteKept s₀ t) :
    SiteKept s₀ (if c then s else t) := by
  split
  · exact h
  · exact ht

theorem SiteKept.foldl {β : Type} {f : State → β → State}
    (keeps : ∀ {s : State} (b : β), SiteKept s₀ s → SiteKept s₀ (f s b)) (bs : List β) :
    SiteKept s₀ (bs.foldl f s) := by
  induction bs generalizing s with
  | nil => exact h
  | cons b bs ih => exact ih (keeps b h)

/-! ### Frames, alarms and permits -/

theorem SiteKept.alarmIs {i : AlarmId} (b : Bool) (other : i.ofSite = false := by rfl) :
    SiteKept s₀ (s.alarmIs i b) := by
  have frame := AlarmFrame.alarmIs s i b
  refine h.trans ⟨?_, ?_, ?_, ?_, ?_, ?_, fun j site => ?_, ?_⟩
  case refine_7 =>
    rw [State.alarmIs_get, if_neg]
    rintro rfl
    exact absurd (site.symm.trans other) nofun
  all_goals rw [frame]

theorem SiteKept.alarmBegins {i : AlarmId} (other : i.ofSite = false := by rfl) :
    SiteKept s₀ (s.alarmBegins i) := h.alarmIs true other

theorem SiteKept.alarmEnds {i : AlarmId} (other : i.ofSite = false := by rfl) :
    SiteKept s₀ (s.alarmEnds i) := h.alarmIs false other

theorem SiteKept.notify (n : Station) (y : Notice) : SiteKept s₀ (s.notify n y) := by
  unfold State.notify
  split
  · exact h
  · rcases s.raise_cases (.crane n) (.notice y) with ⟨-, e⟩ | ⟨-, e⟩ <;> rw [e] <;> exact h.of_eq

theorem SiteKept.reevalPermit (n : Station) : SiteKept s₀ (s.reevalPermit n) :=
  h.claims ((Claims.refl s).claim (.permit s n))

theorem SiteKept.recompute (n : Station) : SiteKept s₀ (s.recompute n) := by
  have frame := (PermitFrame.recompute s n).frame
  refine h.of_eq ?_ ?_ ?_ ?_ ?_ ?_ ?_ ?_ <;> rw [frame]

theorem SiteKept.judgeClear (n : Station) : SiteKept s₀ (s.judgeClear n) :=
  h.claims ((Claims.refl s).claim (.clear s n))

theorem SiteKept.setOverdue (n : Station) (b : Bool) : SiteKept s₀ (s.setOverdue n b) :=
  .ite h ((h.of_eq (t := s.setVane n _)).alarmIs b)

theorem SiteKept.setVWind (n : Station) (v : Nat) : SiteKept s₀ (s.setVWind n v) := by
  have set : SiteKept s₀ (s.setLim n { s.lim.get n with vWind := v }) := h.of_eq
  exact .ite set ((set.reevalPermit n).judgeClear n)

theorem SiteKept.modZone (z : Zone) (f : ZoneDyn → ZoneDyn) : SiteKept s₀ (s.modZone z f) := by
  have frame := s.modZone_frame z f
  refine h.of_eq ?_ ?_ ?_ ?_ ?_ ?_ ?_ ?_ <;> rw [frame]

/-! ### Expiries (R30, R32, R55, R57, R135) -/

theorem SiteKept.staleEnds (n : Station) (was : LinkState) : SiteKept s₀ (s.staleEnds n was) :=
  .ite h.alarmEnds h

theorem SiteKept.expireReport (n : Station) : SiteKept s₀ (s.expireReport n) :=
  .ite (((h.of_eq (t := s.setCtx n _)).alarmBegins).reevalPermit n) h

theorem SiteKept.serve (z : Zone) : SiteKept s₀ (s.serve z) := h.claims ((Claims.refl s).serve z)

theorem SiteKept.serveAt (z : Zone) (n : Station) : SiteKept s₀ (s.serveAt z n) :=
  h.claims (((Claims.refl s).serve z).serveMemberZones n)

theorem SiteKept.loseWaits (n : Station) : SiteKept s₀ (s.loseWaits n) := by
  rw [State.loseWaits_eq]
  exact ((h.foldl (f := (State.unqueue · n)) (fun z h => h.modZone z _) _).foldl (fun z h => h.serve z) _).claims
    ((Claims.refl _).serveMemberZones n)

theorem SiteKept.expireLink (n : Station) : SiteKept s₀ (s.expireLink n) :=
  .ite (((((h.of_eq (t := s.setCtx n _)).staleEnds n _).reevalPermit n).loseWaits n).setVWind n 0) h

theorem SiteKept.holderChanged (z : Zone) : SiteKept s₀ (s.holderChanged z) :=
  h.claims ((Claims.refl s).holderChanged z)

theorem SiteKept.expireEntry (z : Zone) : SiteKept s₀ (s.expireEntry z) := by
  unfold State.expireEntry
  split
  · split
    · exact (((h.modZone z _).notify _ _).holderChanged z).serveAt z _
    · exact h
  · exact h

theorem SiteKept.expireDwell (z : Zone) : SiteKept s₀ (s.expireDwell z) := by
  unfold State.expireDwell
  split
  · split
    · exact ((h.modZone z _).holderChanged z).serveAt z _
    · exact h
  · exact h

theorem SiteKept.expireClearance (n : Station) : SiteKept s₀ (s.expireClearance n) :=
  .ite ((h.of_eq (t := s.setVane n _)).setOverdue n true) h

theorem SiteKept.settleBookings : SiteKept s₀ s.settleBookings := h.claims (Claims.refl s).settleBookings

/-! ### Stages (R115 .. R124, R131 .. R139) -/

theorem SiteKept.startClearanceTimer (n : Station) : SiteKept s₀ (s.startClearanceTimer n) :=
  (h.of_eq (t := s.setVane n _)).setOverdue n false

theorem SiteKept.clearNeighbours (n : Station) : SiteKept s₀ (s.clearNeighbours n) :=
  ((h.claims (.neighboursAsked s n)).startClearanceTimer n).judgeClear n

theorem SiteKept.judgeSequence (n : Station) : SiteKept s₀ (s.judgeSequence n) := by
  have ends : SiteKept s₀ (s.endSequence n) :=
    ((h.of_eq (t := s.setVane n _)).setOverdue n false).claims ((Claims.refl _).serveMemberZones n)
  unfold State.judgeSequence
  split
  · exact .ite ((h.of_eq (t := s.setVane n _)).clearNeighbours n) h
  · exact .ite h ends
  · exact .ite h ends
  · exact h

theorem SiteKept.stageToldBookings (n : Station) (stage : Stage) :
    SiteKept s₀ (s.stageToldBookings n stage) := h.claims ((Claims.refl s).stageToldBookings n stage)

theorem SiteKept.changeStage (n : Station) (stage : Stage) (first : Bool) :
    SiteKept s₀ (s.changeStage n stage first) := by
  have set : SiteKept s₀ ((s.setWind n { s.wind.get n with stage := stage }).notify n
    (.wind stage (s.wind.get n).stage)) := (h.of_eq (t := s.setWind n _)).notify n _
  exact .ite h (.ite ((set.stageToldBookings n stage).judgeSequence n)
    ((set.judgeSequence n).stageToldBookings n stage))

theorem SiteKept.formFigures (n : Station) : SiteKept s₀ (s.formFigures n) :=
  .ite (h.of_eq (t := s.setWind n _)) ((h.of_eq (t := s.setWind n _)).alarmIs _)

theorem SiteKept.evaluateDrop (n : Station) (f : Nat × Nat) : SiteKept s₀ (s.evaluateDrop n f) := by
  simp only [State.evaluateDrop]
  split
  · split
    · exact h
    · exact h.of_eq
  · exact h.of_eq

theorem SiteKept.evaluateRaise (n : Station) (f : Nat × Nat) (first : Bool) :
    SiteKept s₀ (s.evaluateRaise n f first) := by
  unfold State.evaluateRaise
  extract_lets
  exact .ite ((h.of_eq (t := s.setWind n _)).changeStage n _ first)
    ((h.of_eq (t := s.setWind n _)).evaluateDrop n f)

theorem SiteKept.evaluateStation (n : Station) (first : Bool) :
    SiteKept s₀ (s.evaluateStation n first) := by
  unfold State.evaluateStation
  split
  case isFalse => exact h
  case isTrue =>
    extract_lets formed w settled
    have formedKept : SiteKept s₀ formed := h.formFigures n
    have settledKept : SiteKept s₀ settled := formedKept.of_eq
    split
    · exact settledKept.changeStage n .shutdown first
    · split
      · split
        · exact settledKept.changeStage n .hold first
        · exact settledKept.changeStage n .hold first
        · exact settledKept
        · exact settledKept
      · exact formedKept.evaluateRaise n _ first

theorem SiteKept.handOver (k : Nat) : SiteKept s₀ (s.handOver k) :=
  h.foldl (fun n h => h.evaluateStation n _) _

theorem SiteKept.fall (n : Station) (first : Bool) : SiteKept s₀ (s.fall n first) :=
  .ite ((h.of_eq (t := s.setWind n _)).changeStage n _ first) h

theorem SiteKept.takeFall (n : Station) : SiteKept s₀ (s.takeFall n) :=
  .ite ((h.of_eq (t := s.choose.2)).fall n _) h

/-! ### The wind line (R91 .. R111) -/

theorem SiteKept.putRecord (a : Addr) (r : SensorRec) : SiteKept s₀ (s.putRecord a r) := by
  unfold State.putRecord
  extract_lets old written fault failed
  have writtenKept : SiteKept s₀ written := h.of_eq
  have faultKept : SiteKept s₀ fault := .ite writtenKept (writtenKept.alarmIs _)
  have failedKept : SiteKept s₀ failed := .ite faultKept (faultKept.alarmIs _)
  have started : SiteKept s₀ (failed.setEntry (.sensorFailed a) .cleared) :=
    failedKept.trans ⟨rfl, rfl, rfl, rfl, rfl, rfl,
      fun i site => AlarmTable.get_set_ne (by rintro rfl; cases site), .refl _⟩
  exact .ite started failedKept

theorem SiteKept.listCommand (c : LineCommand) : SiteKept s₀ (s.listCommand c) := .ite h h.of_eq

theorem SiteKept.commandSent (c : LineCommand) : SiteKept s₀ (s.commandSent c) := by
  cases c with
  | assign a => exact h.of_eq
  | run => exact (h.of_eq (t := s.setLine _)).foldl (fun a h => .ite (h.putRecord a _) h) _
  | runTo a => exact .ite (h.putRecord a _) h

theorem SiteKept.sendCommand (c : LineCommand) : SiteKept s₀ (s.sendCommand c) := by
  unfold State.sendCommand
  exact SiteKept.commandSent h.of_eq c

theorem SiteKept.startCycle : SiteKept s₀ s.startCycle := by
  unfold State.startCycle
  extract_lets
  split
  · exact h.of_eq
  · exact h.of_eq
  · exact SiteKept.sendCommand h.of_eq _

theorem SiteKept.closeWindow : SiteKept s₀ s.closeWindow := by
  unfold State.closeWindow
  split
  · extract_lets _ closed
    have closedKept : SiteKept s₀ closed := h.of_eq
    split
    · exact closedKept
    · exact .ite (closedKept.sendCommand _) (closedKept.listCommand _)
  · exact h

theorem SiteKept.failAttempt (a : Addr) : SiteKept s₀ (s.failAttempt a) :=
  .ite ((h.putRecord a _).listCommand _) (h.putRecord a _)

theorem SiteKept.expireChecking (a : Addr) : SiteKept s₀ (s.expireChecking a) := .ite (h.failAttempt a) h

theorem SiteKept.answerEnrol (code : Code) : SiteKept s₀ (s.answerEnrol code) := by
  unfold State.answerEnrol
  split
  · exact h.of_eq
  · exact h

theorem SiteKept.expireEcho : SiteKept s₀ s.expireEcho := by
  unfold State.expireEcho
  split
  · exact SiteKept.answerEnrol h.of_eq _
  · exact h

theorem SiteKept.takeCycleEnds : SiteKept s₀ s.takeCycleEnds :=
  (SiteKept.foldl (.ite (h.expireEcho.of_eq) h.expireEcho) (fun a h => h.expireChecking a) _).foldl
    (f := State.expireSilent) (fun a h => .ite (h.putRecord a _) h) _

theorem SiteKept.readEcho (slots : PerAddr Slot) : SiteKept s₀ (s.readEcho slots) := by
  unfold State.readEcho
  split
  · exact .ite (((h.of_eq (t := s.setLine _)).putRecord _ _).answerEnrol _) h.of_eq
  · exact h

theorem SiteKept.findWatched (a : Addr) (y : Reply) : SiteKept s₀ (s.findWatched a y) := by
  simp only [State.findWatched]
  split
  · exact .ite (h.putRecord a _) h
  · exact h

theorem SiteKept.readAttempt (a : Addr) (moved : Option SensorRec) :
    SiteKept s₀ (s.readAttempt a moved) := by
  cases moved with
  | some r => exact h.putRecord a _
  | none =>
    have below : SiteKept s₀ (s.expireCheckingBelow a) := h.foldl (fun b h => h.expireChecking b) _
    exact SiteKept.failAttempt below.of_eq a

theorem SiteKept.readAddr (slots : PerAddr Slot) (a : Addr) :
    SiteKept s₀ (State.readAddr slots s a) := by
  unfold State.readAddr
  extract_lets y found r
  have foundKept : SiteKept s₀ found := h.findWatched a y
  split
  · exact foundKept.readAttempt a _
  · exact foundKept.readAttempt a _
  · exact foundKept.readAttempt a _
  · exact foundKept.putRecord a _
  · exact foundKept.putRecord a _
  all_goals exact foundKept

theorem SiteKept.readSlots (kind : CycleKind) (slots : PerAddr Slot) :
    SiteKept s₀ (s.readSlots kind slots) := by
  unfold State.readSlots
  split
  · exact h.readEcho slots
  · exact ((h.readEcho slots).foldl (fun a h => h.readAddr slots a) _).of_eq
  · exact h

theorem SiteKept.endReading (slots : PerAddr Slot) (k : Nat) : SiteKept s₀ (s.endReading slots k) := by
  unfold State.endReading
  split
  case h_1 c _ =>
    extract_lets read handed
    have handedKept : SiteKept s₀ handed := SiteKept.handOver (h.readSlots c.kind slots).of_eq k
    exact .ite handedKept.takeCycleEnds.startCycle handedKept
  · exact h

theorem SiteKept.takeReading : SiteKept s₀ s.takeReading := by
  unfold State.takeReading
  split
  · exact .ite (SiteKept.endReading (s := s.choose.2) h.of_eq _ _) h
  · exact h

/-- The expiries taken before the booking timeline. -/
theorem SiteKept.takeLine : SiteKept s₀ s.takeLine := h.closeWindow.takeCycleEnds

/-! ### The tick (R73, R81, R91) -/

theorem SiteKept.limitTick (n : Station) : SiteKept s₀ (s.limitTick n) := by
  unfold State.limitTick
  extract_lets link
  exact .ite ((h.setVWind n _).recompute n) h

theorem SiteKept.tickEvent : SiteKept s₀ s.tickEvent :=
  SiteKept.foldl (s := { s with ctx := s.ctx.map StationCtx.tick }) h.of_eq (fun n h => h.limitTick n) _

theorem SiteKept.tickCycle : SiteKept s₀ s.tickCycle := by
  unfold State.tickCycle
  split
  · split
    · exact h.of_eq
    · exact h.startCycle
  · exact h.of_eq

end Operations

end Sys2Proof.Machine
end

section
/-! What commits, ticks and everything that is due leave of the plan, the clock and the alarms of the site. -/

namespace Sys2Proof.Machine

open Sys2Proof.Safety

section Operations

variable {s₀ s : State} (h : SiteKept s₀ s)
include h

/-! ### A commit that takes effect, after the Plan Unit's own part (R12) -/

theorem SiteKept.setEntry {i : AlarmId} {e : Entry} (other : i.ofSite = false := by rfl) :
    SiteKept s₀ (s.setEntry i e) :=
  h.trans ⟨rfl, rfl, rfl, rfl, rfl, rfl,
    fun j site => AlarmTable.get_set_ne (by rintro rfl; exact absurd (site.symm.trans other) nofun),
    .refl _⟩

theorem SiteKept.commitStation (n : Station) : SiteKept s₀ (s.commitStation n) := by
  have disabled : SiteKept s₀ (s.setCtx n (s.ctx.get n).disable) := h.of_eq
  exact disabled.setEntry.setEntry.setEntry.setEntry.setEntry.setEntry

theorem SiteKept.reevalConflict (n : Station) : SiteKept s₀ (s.reevalConflict n) :=
  h.claims ((Claims.refl s).reevalConflict n)

theorem SiteKept.commitArbiter (changed : List Zone) (disabled : List Station) :
    SiteKept s₀ (s.commitArbiter changed disabled) :=
  ((h.foldl (f := State.recreateZone) (fun _ h => h.of_eq) changed).foldl
    (f := fun s n => s.setArb n .reset) (fun _ h => h.of_eq) disabled).foldl
    (fun n h => h.reevalConflict n) Station.all

theorem SiteKept.commitBookings : SiteKept s₀ s.commitBookings :=
  h.claims ((Claims.refl s).overBookings (fun b h => .ite (h.endBooking b _) h) _)

theorem SiteKept.commitWind (disabled enabled : List Station) (k : Nat) :
    SiteKept s₀ (s.commitWind disabled enabled k) := by
  unfold State.commitWind
  extract_lets blanked
  have blankedKept : SiteKept s₀ blanked :=
    h.foldl (f := fun s n => s.setWind n .reset) (fun _ h => h.of_eq) _
  exact .ite (blankedKept.foldl (fun n h => h.changeStage n _ _) _) blankedKept

theorem SiteKept.commitBoth (disabled enabled : List Station) (k : Nat) :
    SiteKept s₀ (s.commitBoth disabled enabled k) :=
  .ite (h.commitBookings.commitWind disabled enabled k)
    (h.commitWind disabled enabled k).commitBookings

theorem SiteKept.commitSpeed (disabled : List Station) (n : Station) :
    SiteKept s₀ (State.commitSpeed disabled s n) := by
  unfold State.commitSpeed
  split
  · exact (h.setVWind n 0).of_eq
  · exact .ite (h.setVWind n _) h

theorem SiteKept.commitLimits (disabled : List Station) : SiteKept s₀ (s.commitLimits disabled) :=
  (h.foldl (fun n h => h.commitSpeed disabled n) Station.all).foldl (fun n h => h.recompute n) _

theorem SiteKept.commitVane (n : Station) : SiteKept s₀ (s.commitVane n) := by
  unfold State.commitVane
  extract_lets judged c
  have judgedKept : SiteKept s₀ judged := (h.judgeSequence n).judgeClear n
  exact .ite judgedKept.of_eq judgedKept

theorem SiteKept.commitShutdown (disabled : List Station) (k : Nat) :
    SiteKept s₀ (s.commitShutdown disabled k) :=
  (h.foldl (f := fun s n => s.setVane n .reset) (fun _ h => h.of_eq) disabled).foldl
    (fun n h => h.commitVane n) _

end Operations

/-- What follows the Plan Unit's own part of a commit. -/
theorem SiteKept.commitEffect (s : State) (k : Nat) : SiteKept s.replaceLive (s.commitEffect k) :=
  ((((((SiteKept.refl _).foldl (fun n h => h.commitStation n) _).commitArbiter _ _).commitBoth _ _
    k).commitLimits _).commitShutdown _ k).foldl (fun n h => h.reevalPermit n) _

/-- The Plan Unit's own part keeps the entries of the site but for its own two conditions (R12). -/
theorem State.replaceLive_get {s : State} {i : AlarmId} (invalid : i ≠ .planInvalid)
    (failed : i ≠ .commitFailed) : s.replaceLive.alarms.get i = s.alarms.get i := by
  simp [State.replaceLive, State.handOnSettings, State.alarmEnds, State.setEntry,
    AlarmTable.get_set_ne, invalid, failed]

/-! ### The moment of a commit (R11) -/

/-- The plan as a commit that takes effect leaves it (R2, R12). -/
def PlanUnit.committed (p : PlanUnit) : PlanUnit :=
  { p with live := p.staged, revision := (p.revision + 1) % 65536, pendingCommit := .absent,
           invalid := false, commitFailed := false }

/-- The plan as a commit abandoned at its moment leaves it (R11). -/
def PlanUnit.abandoned (p : PlanUnit) : PlanUnit :=
  { p with pendingCommit := .absent, commitFailed := true }

/-- A commit is abandoned at its moment (R11). -/
def State.abandonCommit (s : State) : State :=
  if s.plan.commitFailed then s.setPlan s.plan.abandoned
  else (s.setPlan s.plan.abandoned).alarmBegins .commitFailed

theorem State.commitMoment_of_passes {s : State} (passes : s.inUseCheck = none) :
    s.commitMoment = s.commitNow := by
  unfold State.commitMoment
  rw [passes]

theorem State.commitMoment_of_fails {s : State} (fails : s.inUseCheck ≠ none) :
    s.commitMoment = s.abandonCommit := by
  obtain ⟨r, found⟩ := Option.ne_none_iff_exists'.mp fails
  unfold State.commitMoment
  rw [found]
  rfl

theorem State.abandonCommit_frame (s : State) :
    AlarmFrame (s.setPlan s.plan.abandoned) s.abandonCommit := by
  unfold State.abandonCommit
  split
  · exact .refl _
  · exact .alarmBegins _ _

theorem State.abandonCommit_plan (s : State) : s.abandonCommit.plan = s.plan.abandoned := by
  rw [s.abandonCommit_frame]
  rfl

theorem State.abandonCommit_get_ne {s : State} {i : AlarmId} (other : i ≠ .commitFailed) :
    s.abandonCommit.alarms.get i = s.alarms.get i := by
  unfold State.abandonCommit
  split
  · rfl
  · rw [State.alarmBegins_get, if_neg other]
    rfl

theorem State.abandonCommit_get {s : State} (first : s.plan.commitFailed = false) :
    s.abandonCommit.alarms.get .commitFailed = (s.alarms.get .commitFailed).begins := by
  rw [State.abandonCommit, first, if_neg nofun, State.alarmBegins_get, if_pos rfl]
  rfl

/-- The clock keeps its time and its phase, the slip its entry, and no booking comes. -/
structure ClockKept (s t : State) : Prop where
  clock : t.clock = { s.clock with realign := t.clock.realign }
  interval : t.tickInterval = s.tickInterval
  slip : t.alarms.get .timeSlip = s.alarms.get .timeSlip
  bookings : (t.bookings.map (·.number)).Sublist (s.bookings.map (·.number))

theorem ClockKept.trans {s t u : State} (h : ClockKept s t) (k : ClockKept t u) : ClockKept s u :=
  ⟨by rw [k.clock, h.clock], k.interval.trans h.interval, k.slip.trans h.slip,
    k.bookings.trans h.bookings⟩

theorem SiteKept.clockKept {s t : State} (h : SiteKept s t) : ClockKept s t :=
  ⟨by rw [h.clock], h.interval, h.alarms _ rfl, h.bookings⟩

theorem ClockKept.empty {s t : State} (h : ClockKept s t) (empty : s.bookings = []) :
    t.bookings = [] := by
  have sub := h.bookings
  rw [empty] at sub
  simpa using sub

theorem ClockKept.replaceLive (s : State) : ClockKept s s.replaceLive :=
  ⟨rfl, rfl, State.replaceLive_get nofun nofun, .refl _⟩

theorem ClockKept.commitNow (s : State) : ClockKept s s.commitNow :=
  (SiteKept.of_eq (t := s.choose.2) (.refl s)).clockKept.trans
    ((ClockKept.replaceLive s.choose.2).trans (SiteKept.commitEffect s.choose.2 s.choose.1).clockKept)

theorem ClockKept.abandonCommit (s : State) : ClockKept s s.abandonCommit := by
  have frame := s.abandonCommit_frame
  refine ⟨?_, ?_, State.abandonCommit_get_ne nofun, ?_⟩ <;> rw [frame]
  exacts [rfl, rfl, .refl _]

theorem ClockKept.commitMoment (s : State) : ClockKept s s.commitMoment := by
  by_cases passes : s.inUseCheck = none
  · rw [State.commitMoment_of_passes passes]
    exact .commitNow s
  · rw [State.commitMoment_of_fails passes]
    exact .abandonCommit s

/-! ### Everything that is due -/

/-- The expiries taken before the moment of a commit. -/
def State.expiredTimers (s : State) : State :=
  (Station.all.foldl State.takeFall (Station.all.foldl State.expireClearance
    (Zone.all.foldl State.expireDwell (Zone.all.foldl State.expireEntry
      (Station.all.foldl State.expireLink (Station.all.foldl State.expireReport s)))))).settleBookings

theorem State.takeExpiries_eq (s : State) : s.takeExpiries = s.expiredTimers.atTimeMoment := rfl

theorem SiteKept.expiredTimers (s : State) : SiteKept s s.expiredTimers :=
  ((((((((SiteKept.refl s).foldl (fun n h => h.expireReport n) _).foldl (fun n h => h.expireLink n)
    _).foldl (fun z h => h.expireEntry z) _).foldl (fun z h => h.expireDwell z) _).foldl
    (fun n h => h.expireClearance n) _).foldl (fun n h => h.takeFall n) _)).settleBookings

theorem ClockKept.atTimeMoment (s : State) : ClockKept s s.atTimeMoment := by
  unfold State.atTimeMoment
  split
  · exact .commitMoment s
  · exact (SiteKept.refl s).clockKept

theorem ClockKept.takeExpiries (s : State) : ClockKept s s.takeExpiries :=
  (SiteKept.expiredTimers s).clockKept.trans (.atTimeMoment _)

theorem ClockKept.takeDue (s : State) : ClockKept s s.takeDue :=
  (ClockKept.takeExpiries s).trans (SiteKept.refl _).takeReading.takeLine.clockKept

/-! ### A tick (R147) -/

/-- The clock and the plan as a tick takes them: the phase, and at a second boundary the time and the moment of
an AT_TIME commit (R11, R147). -/
def State.atTick (s : State) (phase : Nat) (boundary : Bool) : State :=
  { s with clock := { s.clock with phase := phase,
                                   time := if boundary then nextSecond s.clock.time else s.clock.time },
           tickInterval := tickLength,
           plan := if boundary then s.plan.boundary (nextSecond s.clock.time) else s.plan }

theorem SiteKept.countDrop {s₀ s : State} (h : SiteKept s₀ s) (n : Station) :
    SiteKept s₀ (s.countDrop n) := by
  simp only [State.countDrop]
  split
  · exact .ite h.of_eq h
  · exact h

/-- The end of a second boundary: the Plan Unit and the windows count. -/
theorem SiteKept.countWindows {s t : State} (h : SiteKept s t) :
    SiteKept { s with plan := s.plan.boundary s.clock.time }
      (t.setPlan (t.plan.boundary t.clock.time)).countBookings := by
  refine ⟨?_, h.clock, h.interval, h.derate, h.stop, h.number, h.alarms, ?_⟩
  · change t.plan.boundary t.clock.time = _
    rw [h.plan, h.clock]
  · change ((t.bookings.map _).map _).Sublist _
    rw [List.map_map]
    simpa [Function.comp_def, Booking.count_number] using h.bookings

/-- A second boundary at the blocks that count, before the Plan Unit and the windows. -/
def State.countedBoundary (s : State) : State :=
  Station.all.foldl State.countDrop (Zone.all.foldl State.countZone
    { s with ctx := s.ctx.map StationCtx.boundary, vane := s.vane.map VaneCtx.count })

/-- The site time advances. -/
def State.secondPassed (s : State) : State :=
  s.setClock { s.clock with time := nextSecond s.clock.time }

theorem State.secondBoundary_eq (s : State) :
    s.secondBoundary = (s.secondPassed.countedBoundary.setPlan (s.secondPassed.countedBoundary.plan.boundary
      s.secondPassed.countedBoundary.clock.time)).countBookings := by
  unfold State.secondBoundary State.countedBoundary State.secondPassed
  rfl

theorem SiteKept.countedBoundary (s : State) : SiteKept s s.countedBoundary := by
  have counts : SiteKept s { s with ctx := s.ctx.map StationCtx.boundary, vane := s.vane.map VaneCtx.count } :=
    .of_eq (.refl s)
  exact (counts.foldl (f := State.countZone) (fun z h => h.modZone z _) _).foldl
    (fun n h => h.countDrop n) _

theorem SiteKept.secondBoundary (s : State) :
    SiteKept { s.secondPassed with plan := s.plan.boundary (nextSecond s.clock.time) }
      s.secondBoundary := by
  rw [State.secondBoundary_eq]
  exact (SiteKept.countedBoundary s.secondPassed).countWindows

theorem SiteKept.takeTick (s : State) (phase : Nat) (boundary : Bool) :
    SiteKept (s.atTick phase boundary) (s.takeTick phase boundary) := by
  unfold State.takeTick
  extract_lets _ _ phased counted
  refine SiteKept.tickCycle (SiteKept.tickEvent ?_)
  cases boundary with
  | false => exact .refl _
  | true => exact .secondBoundary phased

end Sys2Proof.Machine
end

section
/-! SET_TIME, SET_SITE_DERATE and SET_REALIGN (R148, R149, R180), and what a tick writes. -/

namespace Sys2Proof.Machine

open Sys2Proof.Safety

/-! ### What a tick writes -/

/-- The ramp steps and the computations of a tick write the contexts, the limits, the vanes and the alarms
(R73, R81). -/
def LimitsFrame (s t : State) : Prop :=
  t = { s with ctx := t.ctx, lim := t.lim, vane := t.vane, alarms := t.alarms, attn := t.attn,
               held := t.held, tx := t.tx }

theorem LimitsFrame.refl (s : State) : LimitsFrame s s := rfl

theorem LimitsFrame.trans {s t u : State} (h : LimitsFrame s t) (k : LimitsFrame t u) :
    LimitsFrame s u := by
  calc u = { t with ctx := u.ctx, lim := u.lim, vane := u.vane, alarms := u.alarms, attn := u.attn,
                    held := u.held, tx := u.tx } := k
    _ = { s with ctx := u.ctx, lim := u.lim, vane := u.vane, alarms := u.alarms, attn := u.attn,
                 held := u.held, tx := u.tx } := by rw [h]

theorem OwnFrame.limits {m : Station} {s t : State} (h : OwnFrame m s t) : LimitsFrame s t := h.frame

theorem OwnFrame.limitTick (s : State) (n : Station) : OwnFrame n s (s.limitTick n) := by
  unfold State.limitTick
  extract_lets
  split
  · exact (OwnFrame.setVWind s n _).trans (.of_permit (PermitFrame.recompute _ n))
  · exact .refl n s

theorem LimitsFrame.tickEvent (s : State) : LimitsFrame s s.tickEvent := by
  unfold State.tickEvent
  exact LimitsFrame.trans (t := { s with ctx := s.ctx.map StationCtx.tick }) rfl
    (foldl_related .refl .trans (fun s n => (OwnFrame.limitTick s n).limits) _ _)

/-- The wind cycle goes on (R91): the line, its records and their alarms are written. -/
def CycleFrame (s t : State) : Prop :=
  t = { s with cycle := t.cycle, line := t.line, sensors := t.sensors, alarms := t.alarms,
               attn := t.attn, held := t.held, tx := t.tx }

theorem SensorFrame.cycle {s t u : State} (h : SensorFrame t u)
    (before : t = { s with cycle := t.cycle, line := t.line } := by rfl) : CycleFrame s u := by
  unfold CycleFrame
  rw [h, before]

theorem CycleFrame.startCycle (s : State) : CycleFrame s s.startCycle := by
  unfold State.startCycle
  extract_lets
  split
  · rfl
  · rfl
  · exact (State.commandSent_frame _ _).cycle

theorem CycleFrame.tickCycle (s : State) : CycleFrame s s.tickCycle := by
  unfold State.tickCycle
  split
  · split
    · rfl
    · exact .startCycle s
  · rfl

/-- A tick, once its second boundary has been counted. -/
theorem State.takeTick_eq (s : State) (phase : Nat) (boundary : Bool) :
    s.takeTick phase boundary =
      (if boundary then (s.atTick phase false).secondBoundary else s.atTick phase false).tickEvent.tickCycle := by
  unfold State.takeTick State.atTick
  rfl

theorem State.takeTick_wind (s : State) (phase : Nat) : (s.takeTick phase false).wind = s.wind := by
  rw [State.takeTick_eq, CycleFrame.tickCycle, LimitsFrame.tickEvent]
  rfl

theorem Talks.takeTick (s : State) (phase : Nat) (boundary : Bool) : Talks s (s.takeTick phase boundary) :=
  ((Acts.refl s).takeTick (b := false) phase boundary).talks

/-! ### SET_TIME (R149) -/

/-- The state that SET_TIME re-phases: the time set, drop timing moved with it, and the wind cycle ended. -/
def State.timeMoved (s : State) (time : Nat) : State :=
  { s with clock := { s.clock with time := time, timeSet := true },
           wind := s.wind.map fun w => WindCtx.moveTime w s.clock.time time }.endCycle

theorem State.moveTime_eq (s : State) (time : Nat) :
    s.moveTime time = (s.timeMoved time).takeTick 0 false := by
  unfold State.moveTime State.timeMoved State.rephaseNow
  rfl

/-- SET_TIME, accepted. -/
theorem exec_setTime_accepted {s : State} {tag time : Nat} (bound : time ≤ maxTime)
    (empty : s.bookings = []) : exec (.setTime tag time) s = .next
      (((s.takeDue.taken .supervisor).moveTime time).replies .supervisor
        (.answerSL tag 0x20 .ok (.times s.clock.time time))) := by
  have moves : s.timeMoves time = true := by simp [State.timeMoves, bound, empty]
  have due := ClockKept.takeDue s
  change Host.Outcome.next ((if s.timeMoves time then s.takeDue else s).command _ _ _) = _
  rw [if_pos moves]
  generalize s.takeDue = u at due
  rw [command_of_work (code := .ok) (data := .times s.clock.time time)]
  have still : (u.taken .supervisor).bookings = [] := due.empty empty
  have now : (u.taken .supervisor).clock.time = s.clock.time := by
    change u.clock.time = _
    rw [due.clock]
  rw [State.setTime, if_neg (by omega), if_pos still, now]

/-- SET_TIME, refused. -/
theorem exec_setTime_refused {s : State} {tag time : Nat} {code : Code} (moves : s.timeMoves time = false)
    (refused : (s.taken .supervisor).setTime time = (s.taken .supervisor, code, .empty)) :
    exec (.setTime tag time) s =
      .next (replied .supervisor (.answerSL tag 0x20 code .empty) s) := by
  change Host.Outcome.next ((if s.timeMoves time then s.takeDue else s).command _ _ _) = _
  rw [if_neg (by simp [moves]), command_of_work refused]
  rfl

/-- Settles O50: an accepted SET_TIME is a tick of phase 0 over the moved time (`State.moveTime_eq`), taken after
what is due, which keeps the clock (`ClockKept.takeDue`); the settings are written as they are. -/
theorem supervisorSetsTimeAndSettings : Obligations.SupervisorSetsTimeAndSettings := by
  unfold Obligations.SupervisorSetsTimeAndSettings
  refine ⟨fun s tag time bound => ⟨fun empty => ?_, fun booked => ?_⟩, fun s tag => ⟨fun v bound => ?_,
    fun v beyond => ?_, fun v beyond => ?_, fun v beyond => ?_, fun e => ?_⟩⟩
  · have due := ClockKept.takeDue s
    refine ⟨_, exec_setTime_accepted bound empty, ?_⟩
    generalize s.takeDue = u at due ⊢
    rw [State.moveTime_eq]
    have ticked := SiteKept.takeTick ((u.taken .supervisor).timeMoved time) 0 false
    have wind := State.takeTick_wind ((u.taken .supervisor).timeMoved time) 0
    have talks := (Talks.of_eq (s := u.taken .supervisor) (t := (u.taken .supervisor).timeMoved time)).trans
      (.takeTick _ 0 false)
    have now : u.clock.time = s.clock.time := by rw [due.clock]
    generalize ((u.taken .supervisor).timeMoved time).takeTick 0 false = t at ticked wind talks
    have clock : t.clock = { u.clock with time := time, timeSet := true, phase := 0 } := ticked.clock
    refine ⟨congrArg Clock.time clock, congrArg Clock.timeSet clock, congrArg Clock.phase clock,
      (congrArg Clock.slip clock).trans ?_, (congrArg Clock.lastSlip clock).trans ?_,
      ticked.empty (due.empty empty), ticked.interval, answered_of_talks talks _, fun n => ?_⟩
    · rw [due.clock]
    · rw [due.clock]
    · refine (congrArg (PerStation.get · n) wind).trans ?_
      change PerStation.get (u.wind.map _) n = _
      rw [PerStation.get_map, WindCtx.moveTime]
      change { u.wind.get n with
        dropStart := (u.wind.get n).dropStart.map fun t => t + time - u.clock.time } = _
      rw [now]
      cases drop : (u.wind.get n).dropStart with
      | none => rfl
      | some start =>
        refine congrArg (fun o => { u.wind.get n with dropStart := o }) (congrArg some ?_)
        change start + time - s.clock.time = ((start : Int) + time - s.clock.time).toNat
        omega
  · refine exec_setTime_refused (by simp [State.timeMoves, booked]) ?_
    rw [State.setTime, if_neg (by omega)]
    exact if_neg booked
  · have set : (s.taken .supervisor).setSiteDerate v =
        ({ s.taken .supervisor with siteDerate := min v 1000 }, .ok, .derate (min v 1000)) :=
      if_neg (by omega)
    exact congrArg Host.Outcome.next ((command_of_work set).trans rfl)
  · refine exec_setTime_refused (by simp [State.timeMoves]; omega) ?_
    rw [State.setTime, if_pos beyond]
  · refine congrArg Host.Outcome.next (command_of_unchanged ?_)
    rw [State.setSiteDerate, if_pos beyond]
  · refine congrArg Host.Outcome.next (command_of_unchanged ?_)
    rw [State.setRealign, if_neg]
    simp [yesNoOk]
    omega
  · have set : (s.taken .supervisor).setRealign (if e then 1 else 0) =
        ((s.taken .supervisor).setClock { s.clock with realign := e }, .ok, .realign e) := by
      cases e <;> rfl
    exact congrArg Host.Outcome.next ((command_of_work set).trans rfl)

end Sys2Proof.Machine
end

section
/-! Time marks (R150, R151, R152): the mark noted, the clock retimed, and the moment of a commit. -/

namespace Sys2Proof.Machine

open Sys2Proof.Safety

/-! ### The mark noted (R150) -/

/-- A mark as it is noted, before the clock is retimed: the slip condition ends, or it begins and the slip is
recorded. -/
def State.markNoted (s : State) (phase : Nat) : State :=
  if phase = 0 then
    if s.clock.slip then (s.setClock { s.clock with slip := false }).alarmEnds .timeSlip else s
  else
    let t := s.setClock { s.clock with slip := true, lastSlip := some (phase, s.clock.time) }
    if s.clock.slip then t else t.alarmBegins .timeSlip

/-- Noting a mark writes the slip of the clock, its entry and frames. -/
structure NotedFrame (s t : State) : Prop where
  frame : t = { s with clock := { s.clock with slip := t.clock.slip, lastSlip := t.clock.lastSlip },
                       alarms := t.alarms, attn := t.attn, held := t.held, tx := t.tx }
  entries : ∀ i, i ≠ .timeSlip → t.alarms.get i = s.alarms.get i

theorem NotedFrame.of_alarm {s t : State} {c : Clock} {b : Bool}
    (told : t = (s.setClock { s.clock with slip := c.slip, lastSlip := c.lastSlip }).alarmIs .timeSlip b) :
    NotedFrame s t := by
  subst told
  refine ⟨?_, fun i other => ?_⟩
  · rw [AlarmFrame.alarmIs]
    rfl
  · rw [State.alarmIs_get, if_neg other]
    rfl

theorem NotedFrame.of_clock {s t : State} {c : Clock}
    (told : t = s.setClock { s.clock with slip := c.slip, lastSlip := c.lastSlip }) : NotedFrame s t := by
  subst told
  exact ⟨rfl, fun _ _ => rfl⟩

theorem NotedFrame.markNoted (s : State) (phase : Nat) : NotedFrame s (s.markNoted phase) := by
  unfold State.markNoted
  extract_lets t
  split
  · split
    · exact .of_alarm (c := { s.clock with slip := false }) (b := false) rfl
    · exact ⟨rfl, fun _ _ => rfl⟩
  · split
    · exact .of_clock (c := { s.clock with slip := true, lastSlip := some (phase, s.clock.time) }) rfl
    · exact .of_alarm (c := { s.clock with slip := true, lastSlip := some (phase, s.clock.time) }) (b := true) rfl

/-- The slip, its record and its condition after a mark of a phase on a clock (R150). -/
structure Noted (c : Clock) (phase : Nat) (t : State) : Prop where
  inStep : phase = 0 → t.clock.slip = false ∧ t.clock.lastSlip = c.lastSlip
  slipped : phase ≠ 0 → t.clock.slip = true ∧ t.clock.lastSlip = some (phase, c.time) ∧
    (c.slip = false → (t.alarms.get .timeSlip).state = .active)
  timeSet : t.clock.timeSet = c.timeSet

theorem Noted.markNoted (s : State) (phase : Nat) : Noted s.clock phase (s.markNoted phase) := by
  have frame := (NotedFrame.markNoted s phase).frame
  refine ⟨fun zero => ?_, fun slips => ?_, ?_⟩
  · rw [State.markNoted, if_pos zero]
    split
    · exact ⟨rfl, rfl⟩
    · exact ⟨by simpa using ‹¬s.clock.slip = true›, rfl⟩
  · rw [State.markNoted, if_neg slips]
    extract_lets t
    split
    case isTrue slip => exact ⟨rfl, rfl, fun no => absurd (slip.symm.trans no) nofun⟩
    case isFalse =>
      refine ⟨?_, ?_, fun _ => ?_⟩
      · rw [AlarmFrame.alarmBegins]
        rfl
      · rw [AlarmFrame.alarmBegins]
        rfl
      · rw [State.alarmBegins_get, if_pos rfl, Entry.begins_state]
  · rw [frame]

/-! ### The clock retimed (R150, R151) -/

/-- A tick of phase 0 has been taken on a clock, with its boundary or without. -/
structure Rephased (s t : State) (boundary : Bool) : Prop where
  clock : t.clock = { s.clock with
    phase := 0, time := if boundary then nextSecond s.clock.time else s.clock.time,
    realign := t.clock.realign }
  interval : t.tickInterval = 50000
  slip : t.alarms.get .timeSlip = s.alarms.get .timeSlip

theorem Rephased.takeTick {s u : State} (h : ClockKept s u) (boundary : Bool) :
    Rephased s (u.takeTick 0 boundary) boundary := by
  have ticked := SiteKept.takeTick u 0 boundary
  generalize u.takeTick 0 boundary = t at ticked
  have clock : t.clock = { u.clock with
    phase := 0, time := if boundary then nextSecond u.clock.time else u.clock.time } := ticked.clock
  refine ⟨?_, ticked.interval, (ticked.alarms _ rfl).trans h.slip⟩
  rw [clock, h.clock]

theorem ClockKept.endCycle {s u : State} (h : ClockKept s u) : ClockKept s u.endCycle :=
  ⟨h.clock, h.interval, h.slip, h.bookings⟩

theorem Rephased.rephase (s : State) (boundary : Bool) : Rephased s (s.rephase boundary) boundary :=
  .takeTick (ClockKept.takeDue s).endCycle boundary

theorem Rephased.tick {s : State} (last : s.clock.phase = 19) : Rephased s s.tick true := by
  have due := ClockKept.takeDue s
  have tick : s.tick = s.takeDue.takeTick 0 true := by
    have phase : (s.takeDue.clock.phase + 1) % 20 = 0 := by rw [due.clock, last]
    simp only [State.tick, phase]
    rfl
  rw [tick]
  exact .takeTick due true

/-! ### The mark judged -/

theorem State.judgeMark_eq (s : State) (phase sinceTick : Nat) : s.judgeMark phase sinceTick =
    if s.clock.realign then
      if phase = 0 then
        if s.clock.phase = 0 then (s.markNoted phase).restartInterval sinceTick
        else (s.markNoted phase).tick
      else (s.markNoted phase).rephase (decide (10 ≤ phase))
    else s.markNoted phase := by
  have frame := (NotedFrame.markNoted s phase).frame
  by_cases zero : phase = 0
  · have realign : (s.markNoted phase).clock.realign = s.clock.realign := by rw [frame]
    have tick : (s.markNoted phase).clock.phase = s.clock.phase := by rw [frame]
    have inStep : s.judgeMark phase sinceTick = if (s.markNoted phase).clock.realign then
        if (s.markNoted phase).clock.phase = 0 then (s.markNoted phase).restartInterval sinceTick
        else (s.markNoted phase).tick
      else s.markNoted phase := by
      rw [State.judgeMark, State.markNoted, if_pos zero, if_pos zero]
      rfl
    rw [inStep, realign, tick, if_pos zero]
  · rw [State.judgeMark, State.markNoted, if_neg zero, if_neg zero, if_neg zero]
    rfl

/-- What a mark makes of the clock when realign is in force (R150, R151). -/
structure Realigned (s t : State) (phase sinceTick : Nat) : Prop where
  start : t.clock.phase = 0
  inStep : phase = 0 → t.clock.time = if s.clock.phase = 0 then s.clock.time else nextSecond s.clock.time
  slipped : phase ≠ 0 → t.clock.time = if 10 ≤ phase then nextSecond s.clock.time else s.clock.time
  interval : t.tickInterval = if phase = 0 ∧ s.clock.phase = 0 then sinceTick + 50000 else 50000

theorem Noted.rephased {c : Clock} {phase : Nat} {u t : State} {boundary : Bool} (h : Noted c phase u)
    (k : Rephased u t boundary) : Noted c phase t := by
  refine ⟨fun zero => ?_, fun slips => ?_, ?_⟩
  · rw [k.clock]; exact h.inStep zero
  · rw [k.clock, k.slip]; exact h.slipped slips
  · rw [k.clock]; exact h.timeSet

theorem Noted.clockKept {c : Clock} {phase : Nat} {u t : State} (h : Noted c phase u)
    (k : ClockKept u t) : Noted c phase t := by
  refine ⟨fun zero => ?_, fun slips => ?_, ?_⟩
  · rw [k.clock]; exact h.inStep zero
  · rw [k.clock, k.slip]; exact h.slipped slips
  · rw [k.clock]; exact h.timeSet

theorem Realigned.clockKept {s u t : State} {phase sinceTick : Nat} (h : Realigned s u phase sinceTick)
    (k : ClockKept u t) : Realigned s t phase sinceTick := by
  refine ⟨?_, ?_, ?_, k.interval.trans h.interval⟩ <;> rw [k.clock]
  exacts [h.start, h.inStep, h.slipped]

/-- The phase of a mark in step on a clock that has not taken its tick of phase 0. -/
theorem markPhase_last {phase interval sinceTick : Nat} (bound : phase < 20)
    (zero : markPhase phase interval sinceTick = 0) (before : phase ≠ 0) : phase = 19 := by
  unfold markPhase at zero
  split at zero <;> omega

/-- A mark judged with realign in force. -/
theorem State.judgeMark_realigned {s : State} {phase sinceTick : Nat} (realign : s.clock.realign = true)
    (last : phase = 0 → s.clock.phase ≠ 0 → s.clock.phase = 19) :
    Noted s.clock phase (s.judgeMark phase sinceTick) ∧
      Realigned s (s.judgeMark phase sinceTick) phase sinceTick := by
  have noted := Noted.markNoted s phase
  have frame := (NotedFrame.markNoted s phase).frame
  have time : (s.markNoted phase).clock.time = s.clock.time := by rw [frame]
  have tick : (s.markNoted phase).clock.phase = s.clock.phase := by rw [frame]
  rw [State.judgeMark_eq, if_pos realign]
  split
  case isTrue zero =>
    split
    case isTrue taken =>
      refine ⟨⟨noted.inStep, noted.slipped, noted.timeSet⟩, tick.trans taken, fun _ => ?_,
        fun slips => absurd zero slips, (if_pos ⟨zero, taken⟩).symm⟩
      rw [if_pos taken]
      exact time
    case isFalse before =>
      have k := Rephased.tick (s := s.markNoted phase) (tick.trans (last zero before))
      refine ⟨noted.rephased k, ?_, fun _ => ?_, fun slips => absurd zero slips, ?_⟩
      · rw [k.clock]
      · rw [k.clock, if_neg before]
        exact congrArg nextSecond time
      · rw [k.interval, if_neg fun both => before both.2]
  case isFalse slips =>
    have k := Rephased.rephase (s.markNoted phase) (decide (10 ≤ phase))
    refine ⟨noted.rephased k, ?_, fun zero => absurd zero slips, fun _ => ?_, ?_⟩
    · rw [k.clock]
    · rw [k.clock, time]
      simp only [decide_eq_true_eq]
    · rw [k.interval, if_neg fun both => slips both.1]

/-- A mark judged without realign is noted and no more. -/
theorem State.judgeMark_counted {s : State} {phase sinceTick : Nat} (off : s.clock.realign = false) :
    s.judgeMark phase sinceTick = s.markNoted phase := by
  rw [State.judgeMark_eq, off, if_neg Bool.false_ne_true]

theorem State.judgeMark_noted {s : State} {phase sinceTick : Nat}
    (last : phase = 0 → s.clock.phase ≠ 0 → s.clock.phase = 19) :
    Noted s.clock phase (s.judgeMark phase sinceTick) := by
  cases realign : s.clock.realign with
  | true => exact (State.judgeMark_realigned realign last).1
  | false =>
    rw [State.judgeMark_counted realign]
    exact .markNoted s phase

/-! ### The moment of an AT_MARK commit (R11, R152) -/

theorem State.atMarkMoment_of_pending {s : State} (pending : s.plan.pendingCommit = .atMark) :
    s.atMarkMoment = s.commitMoment := by
  unfold State.atMarkMoment
  rw [pending]

theorem State.commitNow_plan (s : State) : s.commitNow.plan = s.plan.committed :=
  (SiteKept.commitEffect s.choose.2 s.choose.1).plan

theorem State.commitNow_clock (s : State) :
    s.commitNow.clock = { s.clock with realign := s.plan.staged.site.realign } :=
  (SiteKept.commitEffect s.choose.2 s.choose.1).clock

theorem State.abandonCommit_clock (s : State) : s.abandonCommit.clock = s.clock := by
  rw [s.abandonCommit_frame]
  rfl

theorem State.commitMoment_plan (s : State) :
    s.commitMoment.plan = s.plan.committed ∨ s.commitMoment.plan = s.plan.abandoned := by
  by_cases passes : s.inUseCheck = none
  · rw [State.commitMoment_of_passes passes]
    exact .inl s.commitNow_plan
  · rw [State.commitMoment_of_fails passes]
    exact .inr s.abandonCommit_plan

/-- What decides whether realign is in force after the moment of a commit. -/
theorem State.commitMoment_realign {s : State} (b : Bool) (now : s.clock.realign = b)
    (after : s.plan.staged.site.realign = b ∨ s.inUseCheck ≠ none) : s.commitMoment.clock.realign = b := by
  by_cases passes : s.inUseCheck = none
  · rw [State.commitMoment_of_passes passes, s.commitNow_clock]
    exact after.resolve_right fun fails => fails passes
  · rw [State.commitMoment_of_fails passes, s.abandonCommit_clock, now]

theorem NotedFrame.inUseCheck {s t : State} (h : NotedFrame s t) : t.inUseCheck = s.inUseCheck := by
  rw [h.frame]
  rfl

/-! ### TIME_MARK -/

theorem nextSecond_eq (time : Nat) : nextSecond time = if time < maxTime then time + 1 else time := by
  unfold nextSecond
  split <;> split <;> omega

/-- The mark of a state with an AT_MARK commit pending: the clock and the commit, in either order. -/
theorem State.takeMark_cases (s : State) (phase sinceTick : Nat) (clockFirst : Bool)
    (pending : s.plan.pendingCommit = .atMark) :
    (∃ u, ClockKept (s.judgeMark phase sinceTick) u ∧ u.plan = s.plan ∧
      (s.clock.realign = false → u = s.markNoted phase) ∧
      s.takeMark phase sinceTick clockFirst = u.commitMoment) ∨
    s.takeMark phase sinceTick clockFirst = s.commitMoment.judgeMark phase sinceTick := by
  have awaits := PlanUnit.awaitsNoTime_of_atMark pending
  have plan : (s.judgeMark phase sinceTick).plan = s.plan := State.judgeMark_plan awaits phase sinceTick
  rw [State.takeMark, if_pos pending]
  cases clockFirst with
  | false =>
    rw [if_neg Bool.false_ne_true, State.atMarkMoment_of_pending pending]
    exact .inr rfl
  | true =>
    rw [if_pos rfl]
    extract_lets t
    have tPlan : t.plan = s.plan := plan
    have expired : t.takeExpiries.plan = s.plan :=
      (State.takeExpiries_plan (PlanUnit.awaitsNoTime_of_eq tPlan awaits)).trans tPlan
    refine .inl ⟨if s.markBoundary phase then t.takeExpiries else t, ?_, ?_, fun off => ?_, ?_⟩
    · split
      · exact .takeExpiries t
      · exact (SiteKept.refl t).clockKept
    · split
      · exact expired
      · exact tPlan
    · rw [if_neg (by simp [State.markBoundary, off])]
      exact State.judgeMark_counted off
    · refine State.atMarkMoment_of_pending ?_
      split
      · rw [expired, pending]
      · rw [tPlan, pending]

/-- The clock of a state has not been retimed. -/
structure Counted (s t : State) : Prop where
  phase : t.clock.phase = s.clock.phase
  time : t.clock.time = s.clock.time
  interval : t.tickInterval = s.tickInterval

theorem ClockKept.counted {s t : State} (h : ClockKept s t) : Counted s t :=
  ⟨by rw [h.clock], by rw [h.clock], h.interval⟩

theorem NotedFrame.counted {s t : State} (h : NotedFrame s t) : Counted s t := by
  constructor <;> rw [h.frame]

theorem Counted.trans {s t u : State} (h : Counted s t) (k : Counted t u) : Counted s u :=
  ⟨k.phase.trans h.phase, k.time.trans h.time, k.interval.trans h.interval⟩

section
variable {s : State} {phase sinceTick : Nat} (last : phase = 0 → s.clock.phase ≠ 0 → s.clock.phase = 19)
include last

theorem ClockKept.lastPhase {t : State} (k : ClockKept s t) :
    phase = 0 → t.clock.phase ≠ 0 → t.clock.phase = 19 := by
  rw [k.clock]
  exact last

/-- A mark after the moment of a commit is noted as it is before it. -/
theorem Noted.judgeMark_commit : Noted s.clock phase (s.commitMoment.judgeMark phase sinceTick) := by
  have clock := (ClockKept.commitMoment s).clock
  have noted := State.judgeMark_noted (sinceTick := sinceTick) (ClockKept.lastPhase last (.commitMoment s))
  rw [clock] at noted
  exact ⟨noted.inStep, noted.slipped, noted.timeSet⟩

theorem Noted.takeMark (clockFirst : Bool) (pending : s.plan.pendingCommit = .atMark) :
    Noted s.clock phase (s.takeMark phase sinceTick clockFirst) := by
  rcases s.takeMark_cases phase sinceTick clockFirst pending with ⟨u, kept, -, -, taken⟩ | taken
  · rw [taken]
    exact ((State.judgeMark_noted last).clockKept kept).clockKept (.commitMoment u)
  · rw [taken]
    exact Noted.judgeMark_commit last

theorem Realigned.takeMark (clockFirst : Bool) (pending : s.plan.pendingCommit = .atMark)
    (realign : s.clock.realign = true) (staged : s.plan.staged.site.realign = true) :
    Realigned s (s.takeMark phase sinceTick clockFirst) phase sinceTick := by
  rcases s.takeMark_cases phase sinceTick clockFirst pending with ⟨u, kept, -, -, taken⟩ | taken
  · rw [taken]
    exact ((State.judgeMark_realigned realign last).2.clockKept kept).clockKept (.commitMoment u)
  · rw [taken]
    have clock := (ClockKept.commitMoment s).clock
    have after := (State.judgeMark_realigned (sinceTick := sinceTick)
      (State.commitMoment_realign true realign (.inl staged)) (ClockKept.lastPhase last (.commitMoment s))).2
    obtain ⟨start, inStep, slipped, interval⟩ := after
    rw [clock] at inStep slipped interval
    exact ⟨start, inStep, slipped, interval⟩

end

section
variable {s : State} {phase sinceTick : Nat} (pending : s.plan.pendingCommit = .atMark)
include pending

/-- The plan after a mark with an AT_MARK commit pending (R11). -/
theorem State.takeMark_plan (clockFirst : Bool) :
    (s.takeMark phase sinceTick clockFirst).plan = s.plan.committed ∨
      (s.takeMark phase sinceTick clockFirst).plan = s.plan.abandoned := by
  rcases s.takeMark_cases phase sinceTick clockFirst pending with ⟨u, -, plan, -, taken⟩ | taken
  · rw [taken, ← plan]
    exact u.commitMoment_plan
  · have absent : s.commitMoment.plan.pendingCommit = .absent := by
      rcases s.commitMoment_plan with plan | plan <;> rw [plan] <;> rfl
    rw [taken, State.judgeMark_plan (PlanUnit.awaitsNoTime_of_absent absent)]
    exact s.commitMoment_plan

variable (off : s.clock.realign = false)
include off

theorem Counted.takeMark (clockFirst : Bool)
    (stays : s.plan.staged.site.realign = false ∨ s.inUseCheck ≠ none) :
    Counted s (s.takeMark phase sinceTick clockFirst) ∧
      (s.takeMark phase sinceTick clockFirst).clock.realign = false := by
  have noted := NotedFrame.markNoted s phase
  rcases s.takeMark_cases phase sinceTick clockFirst pending with ⟨u, -, plan, same, taken⟩ | taken
  · obtain rfl := same off
    rw [taken]
    refine ⟨noted.counted.trans (ClockKept.commitMoment _).counted,
      State.commitMoment_realign false ?_ ?_⟩
    · rw [noted.frame, off]
    · rwa [plan, noted.inUseCheck]
  · have after := State.commitMoment_realign false off stays
    have kept := NotedFrame.markNoted s.commitMoment phase
    rw [taken, State.judgeMark_counted after]
    refine ⟨(ClockKept.commitMoment s).counted.trans kept.counted, ?_⟩
    rw [kept.frame, after]

/-- Without realign the commit is checked on the state as it stands at the mark. -/
theorem State.takeMark_passes (clockFirst : Bool) (passes : s.inUseCheck = none) :
    (s.takeMark phase sinceTick clockFirst).plan = s.plan.committed := by
  rcases s.takeMark_cases phase sinceTick clockFirst pending with ⟨u, -, plan, same, taken⟩ | taken
  · obtain rfl := same off
    rw [taken, State.commitMoment_of_passes ((NotedFrame.markNoted s phase).inUseCheck.trans passes),
      State.commitNow_plan, plan]
  · have plan : s.commitMoment.plan = s.plan.committed := by
      rw [State.commitMoment_of_passes passes, State.commitNow_plan]
    rw [taken, State.judgeMark_plan (PlanUnit.awaitsNoTime_of_absent (by rw [plan]; rfl)), plan]

theorem State.takeMark_fails (clockFirst : Bool) (fails : s.inUseCheck ≠ none) :
    (s.takeMark phase sinceTick clockFirst).plan = s.plan.abandoned ∧
      (s.plan.commitFailed = false →
        (s.takeMark phase sinceTick clockFirst).alarms.get .commitFailed =
          (s.alarms.get .commitFailed).begins) := by
  rcases s.takeMark_cases phase sinceTick clockFirst pending with ⟨u, -, plan, same, taken⟩ | taken
  · obtain rfl := same off
    have noted := NotedFrame.markNoted s phase
    rw [taken, State.commitMoment_of_fails (by rwa [noted.inUseCheck]), State.abandonCommit_plan, plan]
    refine ⟨rfl, fun first => ?_⟩
    rw [State.abandonCommit_get (by rw [plan, first]), noted.entries .commitFailed nofun]
  · have moment : s.commitMoment = s.abandonCommit := State.commitMoment_of_fails fails
    have plan : s.abandonCommit.plan = s.plan.abandoned := s.abandonCommit_plan
    have still : s.abandonCommit.clock.realign = false := by rw [s.abandonCommit_clock, off]
    have noted := NotedFrame.markNoted s.abandonCommit phase
    rw [taken, moment, State.judgeMark_counted still]
    refine ⟨by rw [noted.frame]; exact plan, fun first => ?_⟩
    rw [noted.entries .commitFailed nofun, State.abandonCommit_get first]

end

/-- A mark with no AT_MARK commit pending is the clock's alone. -/
theorem exec_timeMark_alone {s : State} {sinceTick : Nat} (alone : s.plan.pendingCommit ≠ .atMark) :
    exec (.timeMark sinceTick) s =
      .next (s.judgeMark (markPhase s.clock.phase s.tickInterval sinceTick) sinceTick) := by
  change Host.Outcome.next (if s.plan.pendingCommit = .atMark then _ else _) = _
  rw [if_neg alone, State.takeMark, if_neg alone]

theorem exec_timeMark_pending {s : State} {sinceTick : Nat} (pending : s.plan.pendingCommit = .atMark) :
    exec (.timeMark sinceTick) s = .next (s.choose.2.takeMark
      (markPhase s.clock.phase s.tickInterval sinceTick) sinceTick (s.choose.1.testBit 0)) := by
  change Host.Outcome.next (if s.plan.pendingCommit = .atMark then _ else _) = _
  rw [if_pos pending]

/-- Settles O49: a mark is noted (`Noted`), then the clock is retimed (`Realigned`), and what is due and the moment
of a commit leave it (`ClockKept`). -/
theorem timeMarkIsJudgedByItsPhase : Obligations.TimeMarkIsJudgedByItsPhase := by
  unfold Obligations.TimeMarkIsJudgedByItsPhase
  intro s sinceTick bound
  dsimp only
  rw [← nextSecond_eq]
  have last : markPhase s.clock.phase s.tickInterval sinceTick = 0 → s.clock.phase ≠ 0 →
      s.clock.phase = 19 := fun zero => markPhase_last bound zero
  refine ⟨fun alone => ?_, fun pending => ?_⟩
  · rw [exec_timeMark_alone alone]
    obtain ⟨inStep, slipped, timeSet⟩ := State.judgeMark_noted (sinceTick := sinceTick) last
    refine ⟨_, rfl, ⟨inStep, slipped, timeSet⟩, fun realign => ?_, fun off => ?_⟩
    · obtain ⟨start, inStep, slipped, interval⟩ := (State.judgeMark_realigned (sinceTick := sinceTick) realign last).2
      exact ⟨start, inStep, slipped, interval⟩
    · have noted := NotedFrame.markNoted s (markPhase s.clock.phase s.tickInterval sinceTick)
      obtain ⟨phase, time, interval⟩ := noted.counted
      rw [State.judgeMark_counted off]
      exact ⟨⟨phase, time, interval⟩, by rw [noted.frame, off]⟩
  · rw [exec_timeMark_pending pending]
    generalize s.choose.1.testBit 0 = clockFirst
    obtain ⟨inStep, slipped, timeSet⟩ := Noted.takeMark (s := s.choose.2) (sinceTick := sinceTick) last
      clockFirst pending
    refine ⟨_, rfl, ⟨inStep, slipped, timeSet⟩, fun realign staged => ?_, fun off stays => ?_,
      State.takeMark_plan (s := s.choose.2) pending clockFirst, fun off => ⟨fun passes => ?_, fun fails => ?_⟩⟩
    · obtain ⟨start, inStep, slipped, interval⟩ := Realigned.takeMark (s := s.choose.2) (sinceTick := sinceTick)
        last clockFirst pending realign staged
      exact ⟨start, inStep, slipped, interval⟩
    · obtain ⟨⟨phase, time, interval⟩, still⟩ := Counted.takeMark (s := s.choose.2) (sinceTick := sinceTick)
        pending off clockFirst stays
      exact ⟨⟨phase, time, interval⟩, still⟩
    · rw [State.takeMark_passes (s := s.choose.2) pending off clockFirst passes]
      rfl
    · obtain ⟨plan, entry⟩ := State.takeMark_fails (s := s.choose.2) (sinceTick := sinceTick) pending off
        clockFirst fails
      exact ⟨by rw [plan]; rfl, by rw [plan]; rfl, entry⟩

end Sys2Proof.Machine
end

section
/-! The site stop (R122, R123): what a station's turn leaves to the others, and both turns of the stop. -/

namespace Sys2Proof.Machine

open Sys2Proof.Safety

/-! ### The order of the stations -/

/-- Every number picks an order of the whole list. -/
theorem arrange_perm {α : Type} (fuel k : Nat) (xs : List α) (fits : xs.length ≤ fuel) :
    (arrange fuel k xs).Perm xs := by
  induction fuel generalizing k xs with
  | zero =>
    obtain rfl := List.length_eq_zero_iff.mp (Nat.le_zero.mp fits)
    exact .refl _
  | succ fuel ih =>
    by_cases empty : xs.length = 0
    · obtain rfl := List.length_eq_zero_iff.mp empty
      exact .refl _
    · have bound : k % xs.length < xs.length := Nat.mod_lt _ (Nat.pos_of_ne_zero empty)
      rw [arrange, List.getElem?_eq_getElem bound]
      refine ((ih _ _ ?_).cons _).trans (List.getElem_cons_eraseIdx_perm bound)
      rw [List.length_eraseIdx_of_lt bound]
      omega

theorem mem_stationOrder (k : Nat) (n : Station) : n ∈ stationOrder k :=
  (arrange_perm 6 k Station.all le_rfl).mem_iff.mpr (Station.mem_all n)

/-- What each turn of a station establishes for it, and the turns of the others leave, holds of it after all the
turns. -/
theorem foldl_establishes {f : State → Station → State} {I P : State → Prop} {n : Station}
    (keep : ∀ s m, I s → I (f s m)) (establish : ∀ s, I s → P (f s n))
    (stay : ∀ s m, m ≠ n → I s → P s → P (f s m)) {ns : List Station} (mem : n ∈ ns) {s : State}
    (hs : I s) : P (ns.foldl f s) := by
  have later (ms : List Station) {s : State} (hs : I s) (ps : P s) : P (ms.foldl f s) := by
    induction ms generalizing s with
    | nil => exact ps
    | cons m ms ih =>
      refine ih (keep s m hs) ?_
      by_cases same : m = n
      · subst same; exact establish s hs
      · exact stay s m same hs ps
  induction ns generalizing s with
  | nil => cases mem
  | cons m ms ih =>
    by_cases same : m = n
    · subst same
      exact later ms (keep s m hs) (establish s hs)
    · exact ih ((List.mem_cons.mp mem).resolve_left (Ne.symm same)) (keep s m hs)

/-! ### A station's turn -/

/-- What a station's turn leaves to the others: their vane contexts change only as they are told of holders. -/
structure TurnKept (n : Station) (s t : State) : Prop extends HoldersKept s t where
  others : ∀ m, m ≠ n → (s.vane.get m).Told (s.clearCondition m) (t.vane.get m)

section
variable {n : Station} {s t u : State}

theorem TurnKept.trans (h : TurnKept n s t) (k : TurnKept n t u) : TurnKept n s u :=
  ⟨h.toHoldersKept.trans k.toHoldersKept,
    fun m ne => (h.others m ne).trans (k.others m ne) h.toHoldersKept.clearCondition⟩

theorem ClaimsKept.turn (h : ClaimsKept s t) : TurnKept n s t := ⟨h.toHoldersKept, fun m _ => h.vane m⟩

theorem TurnKept.refl (n : Station) (s : State) : TurnKept n s s := (ClaimsKept.refl s).turn

theorem Claims.turn (h : Claims s t) : TurnKept n s t := h.kept.turn

theorem TurnKept.setVane (s : State) (n : Station) (c : VaneCtx) : TurnKept n s (s.setVane n c) :=
  ⟨.setVane s n c, fun m ne => by simpa [ne] using VaneCtx.Told.kept⟩

theorem TurnKept.setOverdue (s : State) (n : Station) (b : Bool) : TurnKept n s (s.setOverdue n b) :=
  ⟨.setOverdue s n b, fun m ne => by rw [State.setOverdue_vane, if_neg ne]; exact .kept⟩

theorem TurnKept.startClearanceTimer (s : State) (n : Station) : TurnKept n s (s.startClearanceTimer n) :=
  (TurnKept.setVane s n _).trans (.setOverdue _ n false)

theorem TurnKept.clearNeighbours (s : State) (n : Station) : TurnKept n s (s.clearNeighbours n) :=
  ((Claims.neighboursAsked s n).turn.trans (.startClearanceTimer _ n)).trans (ClaimsKept.judgeClear _ n).turn

theorem TurnKept.judgeSequence (s : State) (n : Station) : TurnKept n s (s.judgeSequence n) := by
  have ends : TurnKept n s (s.endSequence n) :=
    ((TurnKept.setVane s n _).trans (.setOverdue _ n false)).trans ((Claims.refl _).serveMemberZones n).turn
  unfold State.judgeSequence
  split
  · split
    · exact (TurnKept.setVane s n _).trans (.clearNeighbours _ n)
    · exact .refl n s
  · split
    · exact .refl n s
    · exact ends
  · split
    · exact .refl n s
    · exact ends
  · exact .refl n s

theorem VaneCtx.Told.braked_iff {met : Bool} {c d : VaneCtx} (h : c.Told met d) :
    d.vane = .braked ↔ c.vane = .braked := by
  cases h with
  | kept => exact .rfl
  | line => exact .rfl
  | cleared clearing => exact ⟨nofun, fun braked => absurd (clearing.symm.trans braked) nofun⟩

theorem VaneCtx.Told.closes {met : Bool} {c d : VaneCtx} (h : c.Told met d)
    (closes : c.vane = .clearing ∨ c.vane = .clear) : d.vane = .clearing ∨ d.vane = .clear := by
  cases h with
  | kept => exact closes
  | line => exact closes
  | cleared => exact .inr rfl

/-- The sequence in force leaves no station BRAKED (R132). -/
theorem State.judgeSequence_not_braked (forced : s.inForce n = true) :
    ((s.judgeSequence n).vane.get n).vane ≠ .braked := by
  unfold State.judgeSequence
  split
  case h_1 =>
    rw [if_pos forced]
    set c := s.setVane n { s.vane.get n with vane := .clearing, vc := false } with begun
    have clearing : (c.vane.get n).vane = .clearing := by simp [begun]
    have asked := ((Claims.neighboursAsked c n).kept.vane n).closes (.inl clearing)
    have told := (ClaimsKept.judgeClear ((c.neighboursAsked n).startClearanceTimer n) n).vane n
    have timed : (((c.neighboursAsked n).startClearanceTimer n).vane.get n).vane =
        ((c.neighboursAsked n).vane.get n).vane := by
      rw [State.startClearanceTimer, State.setOverdue_vane, if_pos rfl]
      simp
    rw [← timed] at asked
    intro braked
    rcases told.closes asked with vane | vane <;> exact absurd (vane.symm.trans braked) nofun
  case h_2 clearing => rw [if_pos forced, clearing]; nofun
  case h_3 clear => rw [if_pos forced, clear]; nofun
  case h_4 vaning => rw [vaning]; nofun

/-- The end of the sequence brakes a station in CLEARING or CLEAR (R139). -/
theorem State.judgeSequence_braked (ended : s.inForce n = false)
    (closes : (s.vane.get n).vane = .clearing ∨ (s.vane.get n).vane = .clear) :
    ((s.judgeSequence n).vane.get n).vane = .braked ∧ ((s.judgeSequence n).vane.get n).vc = false := by
  have ends : s.judgeSequence n = s.endSequence n := by
    rcases closes with vane | vane <;> simp only [State.judgeSequence, vane, ended] <;> rfl
  set c := (s.setVane n { s.vane.get n with vane := .braked, timer := .stopped, vc := false }).setOverdue n false
    with braked
  have here : c.vane.get n = { s.vane.get n with vane := .braked, timer := .stopped, vc := false, overdue := false } := by
    rw [braked, State.setOverdue_vane, if_pos rfl]
    simp
  have told := (((Claims.refl c).serveMemberZones n).kept.vane n).of_braked (by rw [here])
  rw [ends, State.endSequence, ← braked, told, here]
  exact ⟨rfl, rfl⟩

theorem State.judgeSequence_of_braked (ended : s.inForce n = false) (braked : (s.vane.get n).vane = .braked) :
    s.judgeSequence n = s := by
  simp only [State.judgeSequence, braked, ended]
  rfl

end

/-! ### What a change of stage writes (R124) -/

/-- Work on the zones and the bookings beside the wind fields. -/
def WindWork (s t : State) : Prop := zoneWork { s with wind := t.wind } t

theorem WindWork.refl (s : State) : WindWork s s := zoneWork_refl s

theorem WindWork.trans {s t u : State} (h : WindWork s t) (k : WindWork t u) : WindWork s u := by
  obtain ⟨frame, kept⟩ := h
  have before : zoneWork { s with wind := u.wind } { t with wind := u.wind } := ⟨by rw [frame], kept⟩
  exact zoneWork_trans before k

theorem WindWork.foldl {f : State → Station → State} (h : ∀ s n, WindWork s (f s n)) (ns : List Station)
    (s : State) : WindWork s (ns.foldl f s) := foldl_related .refl .trans h s ns

/-- A turn of the Wind Stage Unit: the wind fields of one station, and work on the zones and the bookings. -/
structure StageKept (n : Station) (s t : State) : Prop extends TurnKept n s t where
  work : WindWork s t
  wind : ∀ m, m ≠ n → t.wind.get m = s.wind.get m

section
variable {n : Station} {s t u : State}

theorem wind_of_zoneWork (h : zoneWork s t) : t.wind = s.wind := by rw [h.1]

theorem StageKept.trans (h : StageKept n s t) (k : StageKept n t u) : StageKept n s u where
  toTurnKept := h.toTurnKept.trans k.toTurnKept
  work := h.work.trans k.work
  wind := fun m ne => (k.wind m ne).trans (h.wind m ne)

theorem StageKept.of_work (h : TurnKept n s t) (work : zoneWork s t) : StageKept n s t where
  toTurnKept := h
  work := by
    rw [WindWork, wind_of_zoneWork work]
    exact work
  wind := fun m _ => by rw [wind_of_zoneWork work]

theorem StageKept.refl (n : Station) (s : State) : StageKept n s s :=
  .of_work (.refl n s) (zoneWork_refl s)

theorem Claims.stage (h : Claims s t) : StageKept n s t := .of_work h.turn h.zoneWork

theorem StageKept.setWind (s : State) (n : Station) (w : WindCtx) : StageKept n s (s.setWind n w) where
  toTurnKept := (ClaimsKept.of_eq).turn
  work := zoneWork_refl _
  wind := fun m ne => by simp [ne]

theorem StageKept.judgeSequence (s : State) (n : Station) : StageKept n s (s.judgeSequence n) :=
  .of_work (.judgeSequence s n) (zoneWork_judgeSequence s n)

theorem StageKept.stageToldBookings (s : State) (n : Station) (stage : Stage) :
    StageKept n s (s.stageToldBookings n stage) := ((Claims.refl s).stageToldBookings n stage).stage

theorem StageKept.tellStage (s : State) (n : Station) (stage : Stage) (first : Bool) :
    StageKept n s (s.tellStage n stage first) := by
  unfold State.tellStage
  split
  · exact (StageKept.stageToldBookings s n stage).trans (.judgeSequence _ n)
  · exact (StageKept.judgeSequence s n).trans (.stageToldBookings _ n stage)

/-- Telling of a stage writes no wind fields. -/
theorem State.tellStage_wind (s : State) (n : Station) (stage : Stage) (first : Bool) :
    (s.tellStage n stage first).wind = s.wind := by
  have told (s : State) := wind_of_zoneWork (zoneWork_stageToldBookings s n stage)
  have judged (s : State) := wind_of_zoneWork (zoneWork_judgeSequence s n)
  unfold State.tellStage
  split
  · rw [judged, told]
  · rw [told, judged]

theorem StageKept.notify (s : State) (m : Station) (y : Notice) : StageKept n s (s.notify m y) := by
  refine .of_work (ClaimsKept.turn ?_) (zoneWork_of_holderWork (holderWork_notify s m y))
  unfold State.notify
  split
  · exact .refl s
  · exact .raise s _ _

theorem StageKept.changeStage (s : State) (n : Station) (stage : Stage) (first : Bool) :
    StageKept n s (s.changeStage n stage first) := by
  unfold State.changeStage
  extract_lets w
  split
  · exact .refl n s
  · exact ((StageKept.setWind s n _).trans (.notify _ n _)).trans (.tellStage _ n stage first)

theorem State.changeStage_wind (s : State) (n : Station) (stage : Stage) (first : Bool) :
    (s.changeStage n stage first).wind.get n = { s.wind.get n with stage := stage } := by
  unfold State.changeStage
  extract_lets w
  split
  case isTrue same => rw [← same]
  case isFalse => 
    rw [State.tellStage_wind, wind_of_zoneWork (zoneWork_of_holderWork (holderWork_notify _ n _))]
    simp [w]

theorem StageKept.stopStation (s : State) (n : Station) (first : Bool) :
    StageKept n s (s.stopStation n first) := by
  unfold State.stopStation
  split
  · exact ((StageKept.setWind s n _).trans (.changeStage _ n _ first)).trans (.judgeSequence _ n)
  · exact .refl n s

theorem StageKept.stop (h : StageKept n s t) : t.siteStop = s.siteStop := by rw [h.work.1]

theorem StageKept.station (h : StageKept n s t) (m : Station) : t.station m = s.station m := by
  rw [State.station, h.live, State.station]

/-- An enabled station stopped by the site stop (R122). -/
structure State.Stopped (s : State) (n : Station) : Prop where
  stage : (s.wind.get n).stage = .shutdown
  raise : (s.wind.get n).raise = 0
  drop : (s.wind.get n).dropStart = none
  vane : (s.vane.get n).vane ≠ .braked

theorem State.Stopped.stopStation (on : (s.station n).enabled = true) (stop : s.siteStop = true) (first : Bool) :
    (s.stopStation n first).Stopped n := by
  rw [State.stopStation, if_pos on]
  set c := (s.setWind n (s.wind.get n).settled).changeStage n .shutdown first with changed
  have before : StageKept n s c := (StageKept.setWind s n _).trans (.changeStage _ n _ first)
  have wind : c.wind.get n = { (s.wind.get n).settled with stage := .shutdown } := by
    rw [changed, State.changeStage_wind]
    simp
  have forced : c.inForce n = true :=
    State.inForce_iff.mpr ⟨by rw [before.station, on], by rw [wind], .inr (before.stop.trans stop)⟩
  have same := wind_of_zoneWork (zoneWork_judgeSequence c n)
  refine ⟨?_, ?_, ?_, State.judgeSequence_not_braked forced⟩ <;> rw [same, wind] <;> rfl

theorem State.Stopped.turn {m : Station} (h : s.Stopped n) (k : StageKept m s t) (ne : n ≠ m) : t.Stopped n := by
  have wind := k.wind n ne
  refine ⟨?_, ?_, ?_, fun braked => h.vane ((k.others n ne).braked_iff.mp braked)⟩ <;> rw [wind]
  exacts [h.stage, h.raise, h.drop]

end

/-- What the turns of the site stop start from. -/
def State.stopTold (s : State) : State := { s with siteStop := true }.alarmBegins .siteStop

theorem State.takeSiteStop_eq (s : State) (k : Nat) : s.takeSiteStop k =
    (stationOrder k).foldl (fun s n => s.stopStation n (bookingFirst k n)) s.stopTold := rfl

theorem State.stopTold_frame (s : State) : AlarmFrame { s with siteStop := true } s.stopTold :=
  .alarmBegins _ _

theorem WindWork.takeSiteStop (s : State) (k : Nat) : WindWork s.stopTold (s.takeSiteStop k) :=
  WindWork.foldl (fun s n => (StageKept.stopStation s n _).work) _ _

theorem State.takeSiteStop_stopped (s : State) (k : Nat) {n : Station} (on : (s.station n).enabled = true) :
    (s.takeSiteStop k).Stopped n := by
  rw [State.takeSiteStop_eq]
  refine foldl_establishes (I := fun t => (t.station n).enabled = true ∧ t.siteStop = true)
    (P := fun t => t.Stopped n) (fun t m told => ?_) (fun t told => .stopStation told.1 told.2 _)
    (fun t m ne told stopped => stopped.turn (.stopStation t m _) (Ne.symm ne)) (mem_stationOrder k n) ⟨?_, ?_⟩
  · have kept := StageKept.stopStation t m (bookingFirst k m)
    exact ⟨by rw [kept.station, told.1], kept.stop.trans told.2⟩
  · rw [State.station, s.stopTold_frame]; exact on
  · rw [s.stopTold_frame]

theorem State.takeSiteStop_disabled (s : State) (k : Nat) {n : Station} (off : (s.station n).enabled = false) :
    (s.takeSiteStop k).wind.get n = s.wind.get n := by
  have fold (ns : List Station) (t : State) (off : (t.station n).enabled = false) :
      (ns.foldl (fun s n => s.stopStation n (bookingFirst k n)) t).wind.get n = t.wind.get n := by
    induction ns generalizing t with
    | nil => rfl
    | cons m ns ih =>
      have kept := StageKept.stopStation t m (bookingFirst k m)
      rw [List.foldl_cons, ih _ (by rw [kept.station, off])]
      by_cases same : n = m
      · subst same
        rw [State.stopStation, if_neg (by rw [off]; nofun)]
      · exact kept.wind n same
  have told : s.stopTold.wind = s.wind := by rw [s.stopTold_frame]
  rw [State.takeSiteStop_eq, fold, told]
  rw [State.station, s.stopTold_frame]
  exact off

theorem SiteKept.stopStation {s₀ s : State} (h : SiteKept s₀ s) (n : Station) (first : Bool) :
    SiteKept s₀ (s.stopStation n first) :=
  .ite (((h.of_eq (t := s.setWind n _)).changeStage n _ first).judgeSequence n) h

theorem SiteKept.takeSiteStop (s : State) (k : Nat) : SiteKept s.stopTold (s.takeSiteStop k) :=
  (SiteKept.refl s.stopTold).foldl (fun n h => h.stopStation n _) _

/-- What the turns of the withdrawal start from. -/
def State.stopLeft (s : State) : State := { s with siteStop := false }.alarmEnds .siteStop

theorem State.leaveSiteStop_eq (s : State) (k : Nat) : s.leaveSiteStop k =
    ((stationOrder k).filter fun n => (s.station n).enabled).foldl State.judgeSequence s.stopLeft := rfl

theorem SiteKept.leaveSiteStop (s : State) (k : Nat) : SiteKept s.stopLeft (s.leaveSiteStop k) :=
  (SiteKept.refl s.stopLeft).foldl (fun n h => h.judgeSequence n) _

/-- An ADVISORY station that closed its zones is BRAKED after the withdrawal (R131, R139). -/
theorem State.leaveSiteStop_braked (s : State) (k : Nat) {n : Station} (on : (s.station n).enabled = true)
    (advisory : (s.station n).mode = .advisory)
    (closes : (s.vane.get n).vane = .clearing ∨ (s.vane.get n).vane = .clear) :
    ((s.leaveSiteStop k).vane.get n).vane = .braked ∧ ((s.leaveSiteStop k).vane.get n).vc = false := by
  have ended {t : State} (stop : t.siteStop = false) (mode : (t.station n).mode = .advisory) :
      t.inForce n = false := by
    simp [State.inForce, stop, mode]
  rw [State.leaveSiteStop_eq]
  refine foldl_establishes
    (I := fun t => (t.siteStop = false ∧ (t.station n).mode = .advisory) ∧
      (((t.vane.get n).vane = .clearing ∨ (t.vane.get n).vane = .clear) ∨
        (t.vane.get n).vane = .braked ∧ (t.vane.get n).vc = false))
    (P := fun t => (t.vane.get n).vane = .braked ∧ (t.vane.get n).vc = false)
    (fun t m told => ?_) (fun t told => ?_) (fun t m ne told braked => ?_)
    (List.mem_filter.mpr ⟨mem_stationOrder k n, on⟩) ⟨⟨rfl, advisory⟩, .inl closes⟩
  · obtain ⟨⟨stop, mode⟩, vane⟩ := told
    have kept := StageKept.judgeSequence t m
    refine ⟨⟨kept.stop.trans stop, by rw [kept.station, mode]⟩, ?_⟩
    by_cases same : n = m
    · subst same
      rcases vane with closes | braked
      · exact .inr (State.judgeSequence_braked (ended stop mode) closes)
      · rw [State.judgeSequence_of_braked (ended stop mode) braked.1]
        exact .inr braked
    · have told := kept.others n same
      rcases vane with closes | braked
      · exact .inl (told.closes closes)
      · rw [told.of_braked braked.1]
        exact .inr braked
  · obtain ⟨⟨stop, mode⟩, vane⟩ := told
    rcases vane with closes | braked
    · exact State.judgeSequence_braked (ended stop mode) closes
    · rw [State.judgeSequence_of_braked (ended stop mode) braked.1]
      exact braked
  · rw [((StageKept.judgeSequence t m).others n (Ne.symm ne)).of_braked braked.1]
    exact braked

/-- Settles O56: each station's turn establishes its own part and leaves it to the turns of the others
(`foldl_establishes`). -/
theorem siteStopHoldsEveryStation : Obligations.SiteStopHoldsEveryStation := by
  unfold Obligations.SiteStopHoldsEveryStation
  refine fun s => ⟨?_, ?_⟩
  · set u : State := { s.choose.2 with sstopPin := true } with pinned
    have site := SiteKept.takeSiteStop u s.choose.1
    have work := WindWork.takeSiteStop u s.choose.1
    have stop : (u.takeSiteStop s.choose.1).siteStop = true := by rw [site.stop, u.stopTold_frame]
    refine ⟨u.takeSiteStop s.choose.1, rfl, stop, ?_, ?_, fun n on => ?_, fun n off => ?_, ?_, ?_⟩
    · rw [work.1, u.stopTold_frame]
    · rw [site.alarms _ rfl, State.stopTold, State.alarmBegins_get, if_pos rfl, Entry.begins_state]
    · obtain ⟨stage, raise, drop, vane⟩ := State.takeSiteStop_stopped u s.choose.1 (n := n) on
      refine ⟨stage, raise, drop, vane, ?_⟩
      exact if_pos stop
    · exact State.takeSiteStop_disabled u s.choose.1 off
    · exact ((Work.refl (x := ∅) u).takeSiteStop s.choose.1).talks.rx
    · obtain ⟨frame, kept⟩ := work
      have told := u.stopTold_frame
      generalize u.takeSiteStop s.choose.1 = t at frame kept
      rw [told] at frame kept
      have choices : t.choices = u.choices := by rw [frame]
      rw [choices]
      exact ⟨frame, kept⟩
  · set u : State := { s.choose.2 with sstopPin := false } with pinned
    have site := SiteKept.leaveSiteStop u s.choose.1
    have work := zoneWork_foldl zoneWork_judgeSequence u.stopLeft
      ((stationOrder s.choose.1).filter fun n => (u.station n).enabled)
    rw [← State.leaveSiteStop_eq] at work
    refine ⟨u.leaveSiteStop s.choose.1, rfl, site.stop, ?_, ?_, ?_, fun n on advisory closes => ?_, ?_⟩
    · rw [work.1]
      rfl
    · rw [site.alarms _ rfl, State.stopLeft, State.alarmEnds_get, if_pos rfl]
      rfl
    · exact ((Work.refl (x := ∅) u).leaveSiteStop s.choose.1).talks.rx
    · exact State.leaveSiteStop_braked u s.choose.1 on advisory closes
    · obtain ⟨frame, kept⟩ := work
      generalize u.leaveSiteStop s.choose.1 = t at frame kept
      have choices : t.choices = u.choices := by rw [frame]; rfl
      rw [choices]
      exact ⟨frame, kept⟩

end Sys2Proof.Machine
end

section
/-! POWER_ON (R19, R129) and RESTART (R184): the site stop over a state in which nothing is held, booked or moving. -/

namespace Sys2Proof.Machine

open Sys2Proof.Safety

/-! ### The site stop after a reset (R122, R129) -/

/-- Every station is OFFLINE with v_wind 0, no zone is held, and nothing is booked. -/
structure State.Blank (s : State) : Prop where
  offline : ∀ n, (s.ctx.get n).link = .offline
  speed : ∀ n, (s.lim.get n).vWind = 0
  free : ∀ z, s.holder z = none
  bookings : s.bookings = []

/-- A station's turn that writes its wind fields and its vane context alone. -/
structure StopKept (n : Station) (s t : State) : Prop where
  frame : t = { s with wind := t.wind, vane := t.vane }
  others : ∀ m, m ≠ n → t.wind.get m = s.wind.get m ∧ t.vane.get m = s.vane.get m

section
variable {n : Station} {s t u : State}

theorem StopKept.refl (n : Station) (s : State) : StopKept n s s := ⟨rfl, fun _ _ => ⟨rfl, rfl⟩⟩

theorem StopKept.trans (h : StopKept n s t) (k : StopKept n t u) : StopKept n s u where
  frame := by
    calc u = { t with wind := u.wind, vane := u.vane } := k.frame
      _ = { s with wind := u.wind, vane := u.vane } := by rw [h.frame]
  others := fun m ne =>
    ⟨(k.others m ne).1.trans (h.others m ne).1, (k.others m ne).2.trans (h.others m ne).2⟩

theorem StopKept.setWind (s : State) (n : Station) (w : WindCtx) : StopKept n s (s.setWind n w) :=
  ⟨rfl, fun m ne => by simp [ne]⟩

theorem StopKept.setVane (s : State) (n : Station) (c : VaneCtx) : StopKept n s (s.setVane n c) :=
  ⟨rfl, fun m ne => by simp [ne]⟩

theorem State.Blank.kept (h : s.Blank) (k : StopKept n s t) : t.Blank := by
  obtain ⟨offline, speed, free, bookings⟩ := h
  refine ⟨?_, ?_, ?_, ?_⟩ <;> rw [k.frame] <;> assumption

theorem State.Blank.othersHolding (h : s.Blank) (n : Station) : s.othersHolding n = [] := by
  simp [State.othersHolding, h.free]

theorem State.Blank.clearCondition (h : s.Blank) (n : Station) : s.clearCondition n = true :=
  State.clearCondition_iff.mpr ⟨h.speed n, fun z _ _ held => absurd (held.symm.trans (h.free z)) nofun⟩

theorem State.Blank.notify (h : s.Blank) (n : Station) (y : Notice) : s.notify n y = s := if_pos (h.offline n)

theorem State.Blank.stageToldBookings (h : s.Blank) (n : Station) (stage : Stage) :
    s.stageToldBookings n stage = s :=
  State.overBookings_of_idle fun _ mem => absurd (h.bookings ▸ mem) List.not_mem_nil

theorem State.setOverdue_same {b : Bool} (same : (s.vane.get n).overdue = b) : s.setOverdue n b = s := if_pos same

/-- A blank station that the sequence comes into force for is CLEAR at once (R132, R134). -/
theorem State.Blank.judgeSequence (h : s.Blank) (forced : s.inForce n = true) (reset : s.vane.get n = .reset) :
    StopKept n s (s.judgeSequence n) ∧
      (s.judgeSequence n).vane.get n = { VaneCtx.reset with vane := .clear, vc := true } := by
  set c := s.setVane n { s.vane.get n with vane := .clearing, vc := false } with begun
  have begins : s.judgeSequence n = c.clearNeighbours n := by
    simp only [State.judgeSequence, reset, VaneCtx.reset, forced, if_true]
    rw [begun, State.beginSequence, reset]
  have ck : StopKept n s c := .setVane s n _
  have cVane : c.vane.get n = { VaneCtx.reset with vane := .clearing } := by
    rw [begun, reset]
    simp [VaneCtx.reset]
  set d := c.setVane n { c.vane.get n with timer := .running c.plan.live.site.clearanceTimeout } with timed
  have dk : StopKept n s d := ck.trans (.setVane c n _)
  have dVane : d.vane.get n = { VaneCtx.reset with vane := .clearing, timer := .running c.plan.live.site.clearanceTimeout } := by
    rw [timed, cVane]
    simp [VaneCtx.reset]
  have clears : c.clearNeighbours n = d.judgeClear n := by
    rw [State.clearNeighbours, (h.kept ck).othersHolding n]
    refine congrArg (State.judgeClear · n) ?_
    rw [List.foldl_nil, State.startClearanceTimer, ← timed]
    exact State.setOverdue_same (by rw [dVane]; rfl)
  set e := d.setVane n { d.vane.get n with vane := .clear, timer := .stopped, vc := true } with cleared
  have eVane : e.vane.get n = { VaneCtx.reset with vane := .clear, vc := true } := by
    rw [cleared, dVane]
    simp [VaneCtx.reset]
  have judged : d.judgeClear n = e := by
    have met : (d.vane.get n).vane = .clearing ∧ d.clearCondition n = true :=
      ⟨by rw [dVane], (h.kept dk).clearCondition n⟩
    rw [State.judgeClear, if_pos met, ← cleared]
    exact State.setOverdue_same (by rw [eVane]; rfl)
  rw [begins, clears, judged]
  exact ⟨dk.trans (.setVane d n _), eVane⟩

/-- The wind fields and the vane context of a blank station that the site stop has been taken for. -/
structure State.StoppedBlank (s : State) (n : Station) : Prop where
  wind : s.wind.get n = { WindCtx.reset with stage := .shutdown }
  vane : s.vane.get n = { VaneCtx.reset with vane := .clear, vc := true }

theorem State.Blank.stopStation (h : s.Blank) (on : (s.station n).enabled = true) (stop : s.siteStop = true)
    (wind : s.wind.get n = .reset) (vane : s.vane.get n = .reset) (first : Bool) :
    StopKept n s (s.stopStation n first) ∧ (s.stopStation n first).StoppedBlank n := by
  set c := (s.setWind n (s.wind.get n).settled).setWind n { WindCtx.reset with stage := .shutdown } with staged
  have ck : StopKept n s c := (StopKept.setWind s n _).trans (.setWind _ n _)
  have blank : c.Blank := h.kept ck
  have cVane : c.vane.get n = .reset := vane
  have cWind : c.wind.get n = { WindCtx.reset with stage := .shutdown } := by simp [staged]
  have forced : c.inForce n = true := State.inForce_iff.mpr ⟨on, by rw [cWind], .inr stop⟩
  obtain ⟨kept, cleared⟩ := blank.judgeSequence forced cVane
  have told : c.tellStage n .shutdown first = c.judgeSequence n := by
    unfold State.tellStage
    split
    · rw [blank.stageToldBookings]
    · rw [(blank.kept kept).stageToldBookings]
  have change : (s.setWind n (s.wind.get n).settled).changeStage n .shutdown first = c.judgeSequence n := by
    have fields : (s.setWind n (s.wind.get n).settled).wind.get n = .reset := by
      rw [wind]
      simp [WindCtx.settled, WindCtx.reset]
    rw [State.changeStage, fields, if_neg (by simp [WindCtx.reset]), ← staged, blank.notify, told]
  have again : (c.judgeSequence n).judgeSequence n = c.judgeSequence n := by
    have still : (c.judgeSequence n).inForce n = true := by
      have work := StageKept.judgeSequence c n
      rw [State.inForce, work.station, wind_of_zoneWork (zoneWork_judgeSequence c n), work.stop]
      exact forced
    simp only [State.judgeSequence.eq_1 (c.judgeSequence n), cleared, still]
    rfl
  have result : s.stopStation n first = c.judgeSequence n := by
    rw [State.stopStation, if_pos on, change, again]
  rw [result]
  exact ⟨ck.trans kept, by rw [wind_of_zoneWork (zoneWork_judgeSequence c n), cWind], cleared⟩

end

/-- The turns of a site stop over a blank state. -/
structure BlankStop (ns : List Station) (s t : State) : Prop where
  frame : t = { s with wind := t.wind, vane := t.vane }
  others : ∀ n, n ∉ ns ∨ (s.station n).enabled = false → t.wind.get n = s.wind.get n ∧ t.vane.get n = s.vane.get n
  stopped : ∀ n ∈ ns, (s.station n).enabled = true → t.StoppedBlank n

theorem State.Blank.stopStations {k : Nat} {ns : List Station} (nodup : ns.Nodup) {s : State} (h : s.Blank)
    (stop : s.siteStop = true) (reset : ∀ n ∈ ns, s.wind.get n = .reset ∧ s.vane.get n = .reset) :
    BlankStop ns s (ns.foldl (fun s n => s.stopStation n (bookingFirst k n)) s) := by
  induction ns generalizing s with
  | nil => exact ⟨rfl, fun _ _ => ⟨rfl, rfl⟩, nofun⟩
  | cons m ns ih =>
    obtain ⟨new, nodup⟩ := List.nodup_cons.mp nodup
    obtain ⟨wind, vane⟩ := reset m (List.mem_cons_self ..)
    have turn : StopKept m s (s.stopStation m (bookingFirst k m)) ∧
        ((s.station m).enabled = false → s.stopStation m (bookingFirst k m) = s) ∧
        ((s.station m).enabled = true → (s.stopStation m (bookingFirst k m)).StoppedBlank m) := by
      cases on : (s.station m).enabled with
      | true =>
        obtain ⟨kept, stopped⟩ := h.stopStation on stop wind vane (bookingFirst k m)
        exact ⟨kept, nofun, fun _ => stopped⟩
      | false =>
        have same : s.stopStation m (bookingFirst k m) = s := if_neg (by rw [on]; nofun)
        rw [same]
        exact ⟨.refl m s, fun _ => rfl, nofun⟩
    rw [List.foldl_cons]
    generalize s.stopStation m (bookingFirst k m) = u at turn
    obtain ⟨kept, same, stopped⟩ := turn
    have ne {n : Station} (mem : n ∈ ns) : n ≠ m := by rintro rfl; exact new mem
    have live (n : Station) : u.station n = s.station n := by rw [kept.frame]; rfl
    obtain ⟨frame, others, rest⟩ := ih nodup (h.kept kept) (by rw [kept.frame, stop]) fun n mem => by
      rw [(kept.others n (ne mem)).1, (kept.others n (ne mem)).2]
      exact reset n (List.mem_cons_of_mem _ mem)
    generalize ns.foldl _ u = t at frame others rest
    refine ⟨?_, fun n out => ?_, fun n mem on => ?_⟩
    · calc t = { u with wind := t.wind, vane := t.vane } := frame
        _ = { s with wind := t.wind, vane := t.vane } := by rw [kept.frame]
    · have keeps := others n (out.imp (fun out mem => out (List.mem_cons_of_mem _ mem)) (by rw [live]; exact id))
      by_cases e : n = m
      · subst e
        rw [keeps.1, keeps.2, same (out.resolve_left fun out => out (List.mem_cons_self ..))]
        exact ⟨rfl, rfl⟩
      · rw [keeps.1, keeps.2]
        exact kept.others n e
    · rcases List.mem_cons.mp mem with rfl | mem
      · obtain ⟨wind, vane⟩ := others n (.inl new)
        exact ⟨wind.trans (stopped on).wind, vane.trans (stopped on).vane⟩
      · exact rest n mem (by rw [live, on])

/-- The site stop over a blank state writes the wind fields and the vane contexts of the enabled stations. -/
theorem State.Blank.takeSiteStop {s : State} (h : s.Blank) (k : Nat) (wind : ∀ n, s.wind.get n = .reset)
    (vane : ∀ n, s.vane.get n = .reset) : BlankStop Station.all s.stopTold (s.takeSiteStop k) := by
  have nodup : (stationOrder k).Nodup := (arrange_perm 6 k Station.all le_rfl).nodup_iff.mpr (by decide)
  have told := s.stopTold_frame
  have blank : s.stopTold.Blank := by
    obtain ⟨offline, speed, free, bookings⟩ := h
    refine ⟨?_, ?_, ?_, ?_⟩ <;> rw [told] <;> assumption
  obtain ⟨frame, others, stopped⟩ := blank.stopStations (k := k) nodup (by rw [told]) fun n _ => by
    rw [told]; exact ⟨wind n, vane n⟩
  rw [← State.takeSiteStop_eq] at frame others stopped
  exact ⟨frame, fun n out => others n (out.imp_left fun out => absurd (Station.mem_all n) out),
    fun n _ on => stopped n (mem_stationOrder k n) on⟩

/-! ### POWER_ON (R19, R20, R129) -/

/-- The state of a power-on over a plan that has been loaded, before the level of SSTOP is taken. -/
def State.loadedWith (s : State) (p : PlanUnit) : State :=
  { State.reset with
    plan := p
    zones := freshZones p.live
    siteDerate := p.live.site.siteDerate
    clock := { State.reset.clock with realign := p.live.site.realign }
    alarms := .cleared, attn := false, tx := .const .idle
    sstopPin := s.sstopPin, choices := s.choices, pending := s.pending }

theorem State.powerOn_eq (s : State) : s.powerOn =
    (if s.plan.load.invalid then (s.loadedWith s.plan.load).alarmBegins .planInvalid
      else s.loadedWith s.plan.load).takeLevel := rfl

theorem PlanStore.good_iff {p : PlanStore} : p.good = true ↔
    p.marker = false ∧ p.content.check = Config.storeCheck p.content.image p.content.revision := by
  simp [PlanStore.good, storeChecked]

theorem freshZones_emptyPlan : freshZones emptyPlan = .const none := by
  refine congrArg PerZone.mk (Vector.ext fun i bound => ?_)
  rw [Vector.getElem_ofFn, Vector.getElem_replicate, if_neg]
  rw [emptyPlan, PerZone.get_const]
  nofun

/-- The plan loaded from a good store (R19). -/
def PlanStore.loaded (p : PlanStore) : PlanUnit where
  live := p.content.image
  staged := p.content.image
  revision := p.content.revision
  pendingCommit := .absent
  store := p
  storeState := .idle
  invalid := false
  commitFailed := false
  storeFailed := false

theorem State.powerOn_good {s : State} (good : s.plan.store.good = true) :
    s.powerOn = (s.loadedWith s.plan.store.loaded).takeLevel := by
  have load : s.plan.load = s.plan.store.loaded := by
    simp only [PlanUnit.load, good, PlanStore.loaded, if_true, Bool.not_true]
  rw [State.powerOn_eq, load]
  rfl

/-- A power-on over a bad store. -/
def State.emptied (s : State) : State :=
  { State.reset with plan := { State.reset.plan with store := s.plan.store }, sstopPin := s.sstopPin,
                     choices := s.choices, pending := s.pending }

theorem State.powerOn_bad {s : State} (bad : s.plan.store.good = false) :
    s.powerOn = s.emptied.takeLevel := by
  have load : s.plan.load = { State.reset.plan with store := s.plan.store } := by
    simp only [PlanUnit.load, bad, State.reset]
    rfl
  rw [State.powerOn_eq, load]
  refine congrArg State.takeLevel ?_
  have zones : (s.loadedWith { State.reset.plan with store := s.plan.store }).zones = .const none :=
    freshZones_emptyPlan
  change ({ s.loadedWith { State.reset.plan with store := s.plan.store } with zones :=
    (s.loadedWith { State.reset.plan with store := s.plan.store }).zones }).alarmBegins .planInvalid = _
  rw [zones]
  rfl

/-- The site stop told over an entry in CLEAR, with no request being handled (R122, R188). -/
theorem State.stopTold_of_clear {s : State} (idle : s.handling = none)
    (clear : s.alarms.get .siteStop = .cleared) : s.stopTold =
      { s with
        siteStop := true
        alarms := s.alarms.set .siteStop ⟨.active, false⟩
        attn := true
        tx := s.tx.set .supervisor ((s.tx.get .supervisor).push
          (.alert ⟨.siteStop, s.clock.time, s.clock.phase⟩)) } := by
  have attention : attnOf (s.alarms.set .siteStop ⟨.active, false⟩) = true :=
    List.any_eq_true.mpr ⟨.siteStop, AlarmId.mem_all _, by rw [AlarmTable.get_set_same]; rfl⟩
  have told : s.stopTold = ({ s with siteStop := true }.setEntry .siteStop ⟨.active, false⟩).raise .supervisor
      (.alert ⟨.siteStop, s.clock.time, s.clock.phase⟩) := by
    unfold State.stopTold State.alarmBegins
    simp only [clear]
    rfl
  have free : ¬ ({ s with siteStop := true }.setEntry .siteStop ⟨.active, false⟩).handling = some .supervisor := by
    change ¬ s.handling = _
    rw [idle]
    nofun
  rw [told, State.raise, if_neg free, State.setEntry, attention]
  rfl

/-- The level of SSTOP taken over a blank state: it stays as it is, or every enabled station is stopped. -/
theorem State.Blank.takeLevel {s : State} (h : s.Blank) (pin : s.sstopPin = true) (idle : s.handling = none)
    (clear : s.alarms.get .siteStop = .cleared) (wind : s.wind = .const .reset) (vane : s.vane = .const .reset) :
    s.takeLevel = { s with
        siteStop := true
        wind := s.takeLevel.wind
        vane := s.takeLevel.vane
        alarms := s.alarms.set .siteStop ⟨.active, false⟩
        attn := true
        tx := s.tx.set .supervisor ((s.tx.get .supervisor).push
          (.alert ⟨.siteStop, s.clock.time, s.clock.phase⟩))
        choices := s.takeLevel.choices } ∧
      ∀ n, ((s.station n).enabled = true → s.takeLevel.StoppedBlank n) ∧
        ((s.station n).enabled = false →
          s.takeLevel.wind.get n = .reset ∧ s.takeLevel.vane.get n = .reset) := by
  have blank : s.choose.2.Blank := ⟨h.offline, h.speed, h.free, h.bookings⟩
  have windReset (n : Station) : s.choose.2.wind.get n = .reset := by
    change s.wind.get n = _
    rw [wind, PerStation.get_const]
  have vaneReset (n : Station) : s.choose.2.vane.get n = .reset := by
    change s.vane.get n = _
    rw [vane, PerStation.get_const]
  obtain ⟨frame, others, stopped⟩ := blank.takeSiteStop s.choose.1 windReset vaneReset
  have level : s.takeLevel = s.choose.2.takeSiteStop s.choose.1 := if_pos pin
  have told := State.stopTold_of_clear (s := s.choose.2) idle clear
  rw [level]
  generalize s.choose.2.takeSiteStop s.choose.1 = t at frame others stopped
  rw [told] at frame others stopped
  have choices : t.choices = s.choose.2.choices := by rw [frame]
  refine ⟨?_, fun n => ⟨stopped n (Station.mem_all n), fun off => ?_⟩⟩
  · rw [choices]
    exact frame
  · obtain ⟨w, v⟩ := others n (.inr off)
    exact ⟨w.trans (windReset n), v.trans (vaneReset n)⟩

theorem State.takeLevel_of_withdrawn {s : State} (pin : s.sstopPin = false) : s.takeLevel = s :=
  if_neg (by rw [pin]; nofun)

/-- A reset leaves no zone with a holder. -/
theorem freshZones_free {s : State} (p : PlanImage) (zones : s.zones = freshZones p) (z : Zone) :
    s.holder z = none := by
  rw [State.holder, State.holding, zones, freshZones_get]
  split <;> rfl

theorem State.loadedWith_blank (s : State) (p : PlanUnit) : (s.loadedWith p).Blank where
  offline := fun n => by
    change ((PerStation.const StationCtx.reset).get n).link = _
    rw [PerStation.get_const, StationCtx.reset]
  speed := fun n => by
    change ((PerStation.const LimitCtx.reset).get n).vWind = _
    rw [PerStation.get_const, LimitCtx.reset]
  free := freshZones_free p.live rfl
  bookings := rfl

theorem State.emptied_blank (s : State) : s.emptied.Blank where
  offline := fun n => by
    change ((PerStation.const StationCtx.reset).get n).link = _
    rw [PerStation.get_const, StationCtx.reset]
  speed := fun n => by
    change ((PerStation.const LimitCtx.reset).get n).vWind = _
    rw [PerStation.get_const, LimitCtx.reset]
  free := freshZones_free emptyPlan freshZones_emptyPlan.symm
  bookings := rfl

/-- Settles O58: the load is `State.powerOn_good` or `State.powerOn_bad`, and the level of SSTOP is taken over a blank
state (`State.Blank.takeLevel`). -/
theorem powerOnLoadsThePlan : Obligations.PowerOnLoadsThePlan := by
  unfold Obligations.PowerOnLoadsThePlan
  intro s
  dsimp only
  rw [← PlanStore.good_iff]
  refine ⟨fun good pin => ?_, fun bad pin => ?_, fun good pin => ?_, fun bad pin => ?_⟩
  · change Host.Outcome.next s.powerOn = _
    rw [State.powerOn_good good, State.takeLevel_of_withdrawn (s := s.loadedWith _) pin, State.loadedWith, pin]
    rfl
  · change Host.Outcome.next s.powerOn = _
    rw [State.powerOn_bad (by simpa using bad), State.takeLevel_of_withdrawn (s := s.emptied) pin, State.emptied, pin]
    rfl
  · obtain ⟨frame, stations⟩ := (s.loadedWith_blank s.plan.store.loaded).takeLevel pin rfl rfl rfl rfl
    refine ⟨_, congrArg Host.Outcome.next (State.powerOn_good good), ?_⟩
    generalize (s.loadedWith s.plan.store.loaded).takeLevel = t at frame stations
    rw [State.loadedWith, pin] at frame
    refine ⟨frame, fun n => ⟨fun on => ?_, fun off => ?_⟩⟩
    · obtain ⟨wind, vane⟩ := (stations n).1 (by rwa [frame] at on)
      exact ⟨wind, vane⟩
    · exact (stations n).2 (by rwa [frame] at off)
  · obtain ⟨frame, stations⟩ := s.emptied_blank.takeLevel pin rfl rfl rfl rfl
    refine ⟨_, congrArg Host.Outcome.next (State.powerOn_bad (by simpa using bad)), ?_⟩
    generalize s.emptied.takeLevel = t at frame stations
    rw [State.emptied, pin] at frame
    refine ⟨frame, fun n => ⟨fun on => ?_, fun off => ?_⟩⟩
    · obtain ⟨wind, vane⟩ := (stations n).1 (by rwa [frame] at on)
      exact ⟨wind, vane⟩
    · exact (stations n).2 (by rwa [frame] at off)

end Sys2Proof.Machine
end

section
/-! RESTART (R184): every block at its restart values, and the level of SSTOP taken while the command is handled. -/

namespace Sys2Proof.Machine

open Sys2Proof.Safety

/-- The awaited answer of an ENROL_NEXT goes at once (R178). -/
theorem State.answerEnrol_abandons (s : State) :
    s.answerEnrol .noSensor = { s with enrolTag := none }.send .supervisor (abandonedEnrol s) := by
  cases tag : s.enrolTag with
  | none =>
    rw [State.answerEnrol_of_none tag, abandonedEnrol, tag]
    exact (State.send_nil _ _).symm
  | some tag' =>
    rw [State.answerEnrol_of_some tag, abandonedEnrol, tag]

/-- The alert of a site stop that stands after a reset. -/
def stopAlert (s : State) : List Frame :=
  if s.sstopPin then [.alert { entry := .siteStop, time := s.clock.time, phase := s.clock.phase }] else []

/-- What the level of SSTOP makes of a blank state while a command of the supervisor is handled (R122, R129). -/
structure LevelTaken (s t : State) : Prop where
  frame : t = { s with siteStop := t.siteStop, wind := t.wind, vane := t.vane, alarms := t.alarms,
                       attn := t.attn, held := t.held, choices := t.choices }
  stop : t.siteStop = s.sstopPin
  held : t.held = s.held ++ stopAlert s
  entries : ∀ i, i ≠ .siteStop → t.alarms.get i = s.alarms.get i
  withdrawn : s.sstopPin = false → t = s
  stopped : s.sstopPin = true → ∀ n, (s.station n).enabled = true → (t.wind.get n).stage = .shutdown

theorem State.stopTold_held {s : State} (handling : s.handling = some .supervisor)
    (clear : s.alarms.get .siteStop = .cleared) : s.stopTold =
      { s with
        siteStop := true
        alarms := s.alarms.set .siteStop ⟨.active, false⟩
        attn := attnOf (s.alarms.set .siteStop ⟨.active, false⟩)
        held := s.held ++ [.alert ⟨.siteStop, s.clock.time, s.clock.phase⟩] } := by
  have told : s.stopTold = ({ s with siteStop := true }.setEntry .siteStop ⟨.active, false⟩).raise .supervisor
      (.alert ⟨.siteStop, s.clock.time, s.clock.phase⟩) := by
    unfold State.stopTold State.alarmBegins
    simp only [clear]
    rfl
  rw [told]
  exact if_pos handling

theorem State.Blank.levelTaken {s : State} (h : s.Blank) (handling : s.handling = some .supervisor)
    (clear : s.alarms.get .siteStop = .cleared) (stop : s.siteStop = false)
    (wind : s.wind = .const .reset) (vane : s.vane = .const .reset) : LevelTaken s s.takeLevel := by
  cases pin : s.sstopPin with
  | false =>
    rw [State.takeLevel_of_withdrawn pin]
    refine ⟨rfl, stop.trans pin.symm, ?_, fun _ _ => rfl, fun _ => rfl,
      fun on => absurd (pin.symm.trans on) nofun⟩
    rw [stopAlert, pin, if_neg Bool.false_ne_true, List.append_nil]
  | true =>
    have blank : s.choose.2.Blank := ⟨h.offline, h.speed, h.free, h.bookings⟩
    have told := State.stopTold_held (s := s.choose.2) handling clear
    obtain ⟨frame, -, stopped⟩ := blank.takeSiteStop s.choose.1
      (fun n => (congrArg (PerStation.get · n) wind).trans (PerStation.get_const _ n))
      fun n => (congrArg (PerStation.get · n) vane).trans (PerStation.get_const _ n)
    have level : s.takeLevel = s.choose.2.takeSiteStop s.choose.1 := if_pos pin
    rw [level]
    generalize s.choose.2.takeSiteStop s.choose.1 = t at frame stopped
    rw [told] at frame stopped
    refine ⟨?_, ?_, ?_, fun i other => ?_, fun off => absurd (pin.symm.trans off) nofun, fun _ n on => ?_⟩
    · generalize t.wind = w, t.vane = v at frame
      subst frame
      rfl
    · rw [frame, pin]
    · rw [frame, stopAlert, pin, if_pos rfl]
      rfl
    · rw [frame]
      exact AlarmTable.get_set_ne other
    · rw [(stopped n (Station.mem_all n) on).wind]

/-- The state of a RESTART before the level of SSTOP is taken. -/
def State.restarted (s : State) : State := ((s.taken .supervisor).answerEnrol .noSensor).warm

theorem State.restarted_eq (s : State) : s.restarted =
    { s with
      cycle := s.cycle.map fun c => { c with kind := .unpowered }
      plan := { s.plan with staged := s.plan.live, pendingCommit := .absent, commitFailed := false }
      ctx := .const .reset, arb := .const .reset, zones := freshZones s.plan.live, lim := .const .reset
      line := .poweredUp, sensors := .const .blank, wind := .const .reset, siteStop := false
      vane := .const .reset
      clock := { s.clock with slip := false, realign := s.plan.live.site.realign }
      siteDerate := s.plan.live.site.siteDerate
      bookings := [], nextNumber := 1, alarms := s.alarms.restarted, attn := attnOf s.alarms.restarted
      enrolTag := none, handling := some .supervisor, held := []
      tx := s.tx.set .supervisor ((abandonedEnrol s).foldl Tx.push (s.tx.get .supervisor))
      rx := s.rx.set .supervisor .hunting } := by
  rw [State.restarted, State.answerEnrol_abandons]
  rfl

theorem State.restarted_blank (s : State) : s.restarted.Blank := by
  rw [State.restarted_eq]
  refine ⟨fun n => ?_, fun n => ?_, freshZones_free s.plan.live rfl, rfl⟩
  · rw [PerStation.get_const, StationCtx.reset]
  · rw [PerStation.get_const, LimitCtx.reset]

/-- The alarm table after a restart (R191). -/
theorem AlarmTable.restarted_get (t : AlarmTable) {i : AlarmId} (invalid : i ≠ .planInvalid)
    (failed : i ≠ .storeFailed) : t.restarted.get i = .cleared := by
  cases i with
  | planInvalid => exact absurd rfl invalid
  | storeFailed => exact absurd rfl failed
  | siteStop | timeSlip | commitFailed => rfl
  | unsafeVane n | intrusion n | conflict n | clearanceOverdue n | windLost n | linkStale n =>
    exact PerStation.get_const _ n
  | sensorFailed a | sensorFault a => exact PerAddr.get_const _ a

theorem exec_restart (s : State) (tag : Nat) : exec (.restart tag) s =
    .next (s.restarted.takeLevel.replies .supervisor
      (.answerSL tag 0x3F .ok (.restarted s.plan.revision s.clock.time s.clock.timeSet))) :=
  congrArg Host.Outcome.next (command_of_work rfl)

/-- Settles O59: the restart values are written out in `State.restarted_eq`, and the level of SSTOP leaves all but
the site stop's own fields (`LevelTaken`). -/
theorem restartKeepsPlanAndTime : Obligations.RestartKeepsPlanAndTime := by
  unfold Obligations.RestartKeepsPlanAndTime
  intro s tag
  have values := s.restarted_eq
  have level := s.restarted_blank.levelTaken (by rw [values])
    (by rw [values]; exact AlarmTable.restarted_get _ nofun nofun) (by rw [values]) (by rw [values]) (by rw [values])
  refine ⟨_, exec_restart s tag, ?_⟩
  generalize s.restarted = r at values level
  obtain ⟨frame, stop, held, entries, withdrawn, stopped⟩ := level
  generalize r.takeLevel = t at frame stop held entries withdrawn stopped
  have pin : r.sstopPin = s.sstopPin := by rw [values]
  have live : r.plan.live = s.plan.live := by rw [values]
  have plan : t.plan = r.plan := by rw [frame]
  have alarms : r.alarms = s.alarms.restarted := by rw [values]
  have tx : t.tx = s.tx.set .supervisor ((abandonedEnrol s).foldl Tx.push (s.tx.get .supervisor)) := by
    rw [frame, values]
  have heldNow : t.held = if s.sstopPin then
      [.alert { entry := .siteStop, time := s.clock.time, phase := s.clock.phase }] else [] := by
    rw [held, stopAlert, values]
    rfl
  refine ⟨?_, ?_, ?_, ?_, fun n => ⟨?_, ?_, ?_⟩, fun z => ?_, ?_, fun a => ?_, ?_, ?_, ?_, stop.trans pin, ?_,
    fun off n => ?_, fun on n enabled => ?_, ?_, ?_, fun off i invalid failed => ?_, rfl, rfl, ?_, fun n => ?_, ?_⟩
  · exact plan.trans (by rw [values])
  · change t.siteDerate = _; rw [frame, values]
  · change t.clock = _; rw [frame, values]
  · change t.tickInterval = _; rw [frame, values]
  · change t.ctx.get n = _; rw [frame, values]; exact PerStation.get_const _ n
  · change t.arb.get n = _; rw [frame, values]; exact PerStation.get_const _ n
  · change t.lim.get n = _; rw [frame, values]; exact PerStation.get_const _ n
  · change t.zones.get z = _; rw [frame, values]; exact freshZones_get _ z
  · change t.line = _; rw [frame, values]
  · change t.sensors.get a = _; rw [frame, values]; exact PerAddr.get_const _ a
  · change t.enrolTag = _; rw [frame, values]
  · change t.bookings = _; rw [frame, values]
  · change t.nextNumber = _; rw [frame, values]
  · change t.sstopPin = _; rw [frame, pin]
  · have same := withdrawn (pin.trans off)
    change t.wind.get n = _ ∧ t.vane.get n = _
    rw [same, values]
    exact ⟨PerStation.get_const _ n, PerStation.get_const _ n⟩
  · refine stopped (pin.trans on) n ?_
    change (t.plan.live.stations.get n).enabled = true at enabled
    rwa [plan] at enabled
  · change t.alarms.get _ = _; rw [entries .planInvalid nofun, alarms]; rfl
  · change t.alarms.get _ = _; rw [entries .storeFailed nofun, alarms]; rfl
  · change t.alarms.get i = _
    rw [withdrawn (pin.trans off), alarms]
    exact AlarmTable.restarted_get _ invalid failed
  · change t.rx = _; rw [frame, values]
  · rw [State.replies_tx, tx]
    simp
  · rw [State.replies_tx, tx, heldNow]
    simp

end Sys2Proof.Machine
end

section
/-! A tick (R30, R55, R73, R81, R147), field by field: the second boundary, the ramp steps, and the wind cycle. -/

namespace Sys2Proof.Machine

open Sys2Proof.Safety

/-! ### Limits computed from the same fields (R73) -/

/-- A station's limits are as a computation would leave them. -/
def State.Computed (s : State) (n : Station) : Prop := s.recompute n = s

section
variable {s t u : State} {n : Station}

theorem State.recompute_eq (s : State) (n : Station) :
    s.recompute n = s.setLim n ((s.recompute n).lim.get n) := by
  obtain ⟨l, written, -⟩ := s.recompute_cases n
  rw [written]
  simp

theorem State.computed_iff : s.Computed n ↔ (s.recompute n).lim.get n = s.lim.get n := by
  refine ⟨fun same => by rw [same], fun same => ?_⟩
  rw [State.Computed, s.recompute_eq n, same]
  cases n <;> rfl

/-- The limits are computed from the live plan, the zones and the station's own fields. -/
theorem State.recompute_congr (live : t.plan.live = s.plan.live) (zones : t.zones = s.zones)
    (ctx : t.ctx.get n = s.ctx.get n) (lim : t.lim.get n = s.lim.get n) (vane : t.vane.get n = s.vane.get n) :
    (t.recompute n).lim.get n = (s.recompute n).lim.get n := by
  have station : t.station n = s.station n := by rw [State.station, live, State.station]
  have members : t.memberZones n = s.memberZones n := State.memberZones_of_live live n
  have held (z : Zone) : t.countsHeld z n = s.countsHeld z n := by
    rw [State.countsHeld, State.holds, State.holder, State.holding, zones]
    rfl
  have member (z : Zone) : t.member z n = s.member z n := by
    rw [State.member, State.zone, live]
    rfl
  have obstacles : t.obstacles n = s.obstacles n := by
    rw [State.obstacles, State.obstacles, members]
    simp only [held, member]
  have eff : t.profileInEffect n = s.profileInEffect n := by
    rw [State.profileInEffect_cases, State.profileInEffect_cases, station, ctx, lim]
  obtain off | ⟨on, unlimited | ⟨still, p, f, position, figures⟩⟩ := s.limits_cases n
  · rw [State.recompute_of_disabled (s := t) (station ▸ off), State.recompute_of_disabled off, lim]
    simp
  · rw [State.recompute_of_unlimited (s := t) (station ▸ on) (by rw [vane, ctx, eff]; exact unlimited),
      State.recompute_of_unlimited on unlimited, lim, eff]
    simp
  · rw [State.recompute_of_figures (s := t) (station ▸ on) (by rw [vane]; exact still) (by rw [ctx, position])
      (eff.trans figures), State.recompute_of_figures on still position figures, State.computedLimits,
      State.computedLimits, station, obstacles, ctx, lim]
    simp

theorem State.Computed.congr (h : s.Computed n) (live : t.plan.live = s.plan.live) (zones : t.zones = s.zones)
    (ctx : t.ctx.get n = s.ctx.get n) (lim : t.lim.get n = s.lim.get n)
    (vane : t.vane.get n = s.vane.get n) : t.Computed n := by
  rw [State.computed_iff] at h ⊢
  rw [State.recompute_congr live zones ctx lim vane, h, lim]

/-! ### The ramp steps (R81) -/

/-- The turns of other stations at a tick. -/
structure RampApart (n : Station) (s t : State) : Prop where
  frame : LimitsFrame s t
  ctx : t.ctx.get n = s.ctx.get n
  lim : t.lim.get n = s.lim.get n
  vane : t.vane.get n = s.vane.get n

theorem RampApart.refl (n : Station) (s : State) : RampApart n s s := ⟨.refl s, rfl, rfl, rfl⟩

theorem RampApart.trans (h : RampApart n s t) (k : RampApart n t u) : RampApart n s u :=
  ⟨h.frame.trans k.frame, k.ctx.trans h.ctx, k.lim.trans h.lim, k.vane.trans h.vane⟩

theorem RampApart.limitTicks {ns : List Station} (out : n ∉ ns) (s : State) :
    RampApart n s (ns.foldl State.limitTick s) := by
  induction ns generalizing s with
  | nil => exact .refl n s
  | cons m ns ih =>
    have ne : n ≠ m := fun e => out (e ▸ List.mem_cons_self ..)
    have own := OwnFrame.limitTick s m
    obtain ⟨ctx, lim, vane⟩ := own.others n ne
    exact RampApart.trans ⟨own.limits, ctx, lim, vane⟩ (ih (fun mem => out (List.mem_cons_of_mem _ mem)) _)

/-- A station's turn among the turns of a tick. -/
theorem State.limitTicks_turn (s : State) (n : Station) : ∃ u, RampApart n s u ∧
    RampApart n (u.limitTick n) (Station.all.foldl State.limitTick s) := by
  obtain ⟨before, after, split⟩ := List.append_of_mem (Station.mem_all n)
  have nodup := Station.nodup_all
  rw [split] at nodup ⊢
  obtain ⟨-, later, apart⟩ := List.nodup_append.mp nodup
  rw [List.foldl_append, List.foldl_cons]
  exact ⟨_, .limitTicks (fun mem => apart n mem n (List.mem_cons_self ..) rfl) s,
    .limitTicks (List.nodup_cons.mp later).1 _⟩

/-- The stations whose v_wind ramps at a tick (R81). -/
def State.Ramps (s : State) (n : Station) : Prop :=
  ((s.ctx.get n).link = .online ∨ (s.ctx.get n).link = .stale) ∧ (s.station n).enabled = true

theorem State.limitTick_of_ramps (h : s.Ramps n) : s.limitTick n =
    (s.setVWind n (rampStep (s.station n) (s.lim.get n).vWind (s.target n))).recompute n := if_pos h

theorem State.limitTick_of_not_ramps (h : ¬ s.Ramps n) : s.limitTick n = s := if_neg h

theorem State.limitTick_computed (h : s.Ramps n) : (s.limitTick n).Computed n := by
  rw [State.limitTick_of_ramps h]
  exact State.recompute_idem _ n

theorem State.recompute_vWind (s : State) (n : Station) :
    ((s.recompute n).lim.get n).vWind = (s.lim.get n).vWind := ((holderWork_recompute s n).2 n).2

/-- The vane context of a station whose v_wind is set (R83, R134). -/
theorem State.setVWind_vane (s : State) (n : Station) (v : Nat) : (s.setVWind n v).vane.get n =
    if (s.vane.get n).vane = .clearing ∧ (s.lim.get n).vWind ≠ 0 ∧ v = 0 ∧ s.zonesClearFor n = true then
      { s.vane.get n with vane := .clear, timer := .stopped, vc := true, overdue := false }
    else s.vane.get n := by
  set l := s.lim.get n with old
  set t := s.setLim n { l with vWind := v } with written
  have steps : s.setVWind n v = if (l.vWind = 0) = (v = 0) then t else (t.reevalPermit n).judgeClear n := rfl
  rw [steps]
  by_cases same : (l.vWind = 0) = (v = 0)
  · rw [if_pos same, if_neg]
    · rfl
    · rintro ⟨-, before, after, -⟩
      exact before (same ▸ after)
  · have permit := zoneWork_of_holderWork (holderWork_reevalPermit t n)
    have vane : (t.reevalPermit n).vane = s.vane := State.reevalPermit_vane t n
    have set : (t.lim.get n).vWind = v := by simp [t]
    have condition : (t.reevalPermit n).clearCondition n = (decide (v = 0) && s.zonesClearFor n) := by
      have zones : (t.reevalPermit n).zonesClearFor n = s.zonesClearFor n := by
        have frame := (PermitFrame.reevalPermit t n).frame
        rw [State.zonesClearFor, State.memberZones_of_live (s := s) (by rw [frame]; rfl)]
        unfold State.heldByOther State.holder State.holding
        rw [frame]
        rfl
      rw [State.clearCondition, zones, (permit.2 n).2, set]
    rw [if_neg same, State.judgeClear_vane, vane, condition]
    have before : v = 0 → l.vWind ≠ 0 := fun zero still => same (by rw [zero, still])
    by_cases zero : v = 0
    · simp [zero, before zero]
    · simp [zero]

/-- The turns of a tick for one station: its context, its v_wind, its limits and its vane. -/
structure Ramped (s t : State) (n : Station) : Prop where
  ctx : t.ctx.get n = { s.ctx.get n with mp := (t.ctx.get n).mp }
  ramps : s.Ramps n → (t.lim.get n).vWind = rampStep (s.station n) (s.lim.get n).vWind (s.target n)
  rests : ¬ s.Ramps n → t.lim.get n = s.lim.get n
  computed : s.Ramps n → t.Computed n
  vane : t.vane.get n =
    if (s.vane.get n).vane = .clearing ∧ (s.lim.get n).vWind ≠ 0 ∧ (t.lim.get n).vWind = 0 ∧
        s.zonesClearFor n = true then
      { s.vane.get n with vane := .clear, timer := .stopped, vc := true, overdue := false }
    else s.vane.get n

theorem Ramped.limitTick (s : State) (n : Station) : Ramped s (s.limitTick n) n where
  ctx := (OwnFrame.limitTick s n).own
  ramps := fun ramps => by
    rw [State.limitTick_of_ramps ramps, State.recompute_vWind, State.setVWind_vWind]
  rests := fun rests => by rw [State.limitTick_of_not_ramps rests]
  computed := State.limitTick_computed
  vane := by
    by_cases ramps : s.Ramps n
    · rw [State.limitTick_of_ramps ramps, State.recompute_vane, State.recompute_vWind, State.setVWind_vWind,
        State.setVWind_vane]
    · rw [State.limitTick_of_not_ramps ramps, if_neg]
      rintro ⟨-, before, after, -⟩
      exact before after

/-- The turns of the others change nothing that a station's turn reads. -/
theorem Ramped.before {w : State} (h : RampApart n s w) (k : Ramped w t n) : Ramped s t n := by
  obtain ⟨frame, ctx, lim, vane⟩ := h
  have station : w.station n = s.station n := by rw [frame]; rfl
  have ramps : w.Ramps n ↔ s.Ramps n := by rw [State.Ramps, ctx, station, State.Ramps]
  have target : w.target n = s.target n := by rw [frame]; rfl
  have zones : w.zonesClearFor n = s.zonesClearFor n := by rw [frame]; rfl
  refine ⟨?_, fun on => ?_, fun off => ?_, fun on => k.computed (ramps.mpr on), ?_⟩
  · rw [← ctx]; exact k.ctx
  · rw [k.ramps (ramps.mpr on), station, lim, target]
  · rw [k.rests (mt ramps.mp off), lim]
  · have own := k.vane
    rwa [vane, lim, zones] at own

theorem Ramped.after {w : State} (h : Ramped s t n) (k : RampApart n t w) : Ramped s w n := by
  obtain ⟨frame, ctx, lim, vane⟩ := k
  refine ⟨?_, fun on => ?_, fun off => ?_, fun on => ?_, ?_⟩
  · rw [ctx]; exact h.ctx
  · rw [lim]; exact h.ramps on
  · rw [lim]; exact h.rests off
  · exact (h.computed on).congr (by rw [frame]) (by rw [frame]) ctx lim vane
  · rw [vane, lim]; exact h.vane

/-- The state of a tick whose report timers have counted (R30). -/
def State.reportsCounted (s : State) : State := { s with ctx := s.ctx.map StationCtx.tick }

theorem Ramped.tickEvent (s : State) (n : Station) : Ramped s.reportsCounted s.tickEvent n := by
  obtain ⟨u, before, after⟩ := s.reportsCounted.limitTicks_turn n
  exact (Ramped.before before (.limitTick u n)).after after

end

/-! ### The second boundary (R55, R57, R120, R135, R165) -/

/-- A zone's timers at a second boundary: the release dwell counts while the holder is ONLINE. -/
def ZoneDyn.counted (ctx : PerStation StationCtx) (d : ZoneDyn) : ZoneDyn :=
  { d with entry := d.entry.count,
           dwell := if d.hold.any fun h => (ctx.get h.station).link == .online then d.dwell.count else d.dwell }

theorem State.countZone_eq (s : State) (z : Zone) : s.countZone z = s.modZone z (ZoneDyn.counted s.ctx) := by
  unfold State.countZone
  congr 1
  funext d
  cases hold : d.hold <;> simp [ZoneDyn.counted, hold]

/-- A second boundary at the Zone Arbiter. -/
def State.zonesCounted (s : State) : State := Zone.all.foldl State.countZone s

theorem State.zonesCounted_get (s : State) (z : Zone) :
    s.zonesCounted.zones.get z = (s.zones.get z).map (ZoneDyn.counted s.ctx) := by
  unfold State.zonesCounted
  obtain ⟨-, all⟩ := State.foldl_zones_get (R := fun s t : State => t.ctx = s.ctx) (f := State.countZone)
    (fun _ => rfl) (fun h k => k.trans h) (fun s z => by rw [s.countZone_eq z, s.modZone_frame z])
    (fun s z y ne => by rw [s.countZone_eq z, State.modZone_get_ne ne]) Zone.nodup_all s
  obtain ⟨u, ctx, same, counted⟩ := all z (Zone.mem_all z)
  rw [counted, u.countZone_eq z, State.modZone_get, if_pos rfl, same, ctx]

/-- The wind fields of a station at a second boundary (R120). -/
def WindCtx.counted (r : StationRec) (now : Nat) (w : WindCtx) : WindCtx :=
  { w with dropDue := w.dropDue || (r.enabled && w.dropStart.any fun start => decide (r.dropDwell ≤ now - start)) }

theorem State.countDrop_eq (s : State) (n : Station) : s.countDrop n =
    s.setWind n ((s.wind.get n).counted (s.station n) s.clock.time) := by
  have stays (same : (s.wind.get n).counted (s.station n) s.clock.time = s.wind.get n) :
      s = s.setWind n ((s.wind.get n).counted (s.station n) s.clock.time) := by
    rw [same]
    cases n <;> rfl
  unfold State.countDrop
  extract_lets w
  split
  case h_1 k start =>
    have counted : w.counted (s.station n) s.clock.time = { w with
        dropDue := w.dropDue || ((s.station n).enabled && decide ((s.station n).dropDwell ≤ s.clock.time - k)) } := by
      rw [WindCtx.counted, start]
      rfl
    split
    case isTrue due =>
      obtain ⟨on, run⟩ := due
      refine congrArg (s.setWind n) (Eq.trans ?_ counted.symm)
      rw [on, decide_eq_true run, Bool.true_and, Bool.or_true]
    case isFalse early =>
      refine stays (counted.trans ?_)
      rw [show ((s.station n).enabled && decide ((s.station n).dropDwell ≤ s.clock.time - k)) = false by
        simpa using early, Bool.or_false]
  case h_2 stopped =>
    refine stays ?_
    change w.counted _ _ = w
    have idle : (w.dropStart.any fun start =>
        decide ((s.station n).dropDwell ≤ s.clock.time - start)) = false := by rw [stopped]; rfl
    rw [WindCtx.counted, idle, Bool.and_false, Bool.or_false]

/-- A second boundary writes the wind fields of the stations one by one. -/
theorem State.foldl_countDrop {ns : List Station} (nodup : ns.Nodup) (s : State) :
    ns.foldl State.countDrop s = { s with wind := (ns.foldl State.countDrop s).wind } ∧
      ∀ n, (ns.foldl State.countDrop s).wind.get n =
        if n ∈ ns then (s.wind.get n).counted (s.station n) s.clock.time else s.wind.get n := by
  induction ns generalizing s with
  | nil => exact ⟨rfl, fun _ => rfl⟩
  | cons m ns ih =>
    obtain ⟨new, nodup⟩ := List.nodup_cons.mp nodup
    obtain ⟨frame, own⟩ := ih nodup (s.countDrop m)
    rw [List.foldl_cons]
    generalize ns.foldl State.countDrop (s.countDrop m) = t at frame own
    rw [s.countDrop_eq m] at frame own
    refine ⟨frame, fun n => ?_⟩
    have same : (s.setWind m ((s.wind.get m).counted (s.station m) s.clock.time)).station n = s.station n := rfl
    have now : (s.setWind m ((s.wind.get m).counted (s.station m) s.clock.time)).clock = s.clock := rfl
    rw [own n, same, now]
    by_cases e : n = m
    · subst e
      simp [new]
    · simp [e]

theorem Window.count_eq (w : Window) (now : Nat) : w.count now = countedWindow now w := by
  unfold Window.count countedWindow
  cases w.extension with
  | none => rfl
  | some k => rfl

/-- What a tick has counted before the ramp steps: the phase, and at a second boundary the time and all that counts
with it. -/
structure TickCounted (s u : State) (phase time : Nat) : Prop where
  frame : u = { s with clock := { s.clock with phase := phase, time := time }, tickInterval := tickLength,
                       ctx := u.ctx, zones := u.zones, vane := u.vane, wind := u.wind, plan := u.plan,
                       bookings := u.bookings }
  live : u.plan.live = s.plan.live
  ctx : ∀ n, u.ctx.get n = { s.ctx.get n with
    linkDwell := if phase = 0 then (s.ctx.get n).linkDwell.count else (s.ctx.get n).linkDwell }
  vane : ∀ n, u.vane.get n = { s.vane.get n with
    timer := if phase = 0 then (s.vane.get n).timer.count else (s.vane.get n).timer }
  wind : ∀ n, u.wind.get n =
    if phase = 0 then (s.wind.get n).counted (s.station n) time else s.wind.get n
  holder : ∀ z, u.holder z = s.holder z

theorem TickCounted.atTick {s : State} {phase : Nat} (inside : phase ≠ 0) :
    TickCounted s (s.atTick phase false) phase s.clock.time where
  frame := rfl
  live := rfl
  ctx := fun n => by rw [if_neg inside]; rfl
  vane := fun n => by rw [if_neg inside]; rfl
  wind := fun n => by rw [if_neg inside]; rfl
  holder := fun _ => rfl

/-- A second boundary at the Station Unit and the Shutdown Unit (R31, R135). -/
def State.timersCounted (s : State) : State :=
  { s with ctx := s.ctx.map StationCtx.boundary, vane := s.vane.map VaneCtx.count }

theorem State.countedBoundary_eq (s : State) :
    s.countedBoundary = Station.all.foldl State.countDrop s.timersCounted.zonesCounted := rfl

theorem State.zonesCounted_frame (s : State) : s.zonesCounted = { s with zones := s.zonesCounted.zones } :=
  foldl_related (R := fun s t : State => t = { s with zones := t.zones }) (fun _ => rfl)
    (fun {s t u} h k => by
      calc u = { t with zones := u.zones } := k
        _ = { s with zones := u.zones } := by rw [h])
    (f := State.countZone) (fun s z => by rw [s.countZone_eq z]; exact s.modZone_frame z _) s Zone.all

theorem State.countedBoundary_frame (s : State) : s.countedBoundary =
    { s.timersCounted with zones := s.timersCounted.zonesCounted.zones, wind := s.countedBoundary.wind } := by
  have zones := s.timersCounted.zonesCounted_frame
  have wind := (State.foldl_countDrop Station.nodup_all s.timersCounted.zonesCounted).1
  rw [← State.countedBoundary_eq] at wind
  generalize s.timersCounted.zonesCounted = t at zones wind
  generalize s.countedBoundary = u at wind
  calc u = { t with wind := u.wind } := wind
    _ = { s.timersCounted with zones := t.zones, wind := u.wind } := by rw [zones]

theorem State.countedBoundary_wind (s : State) (n : Station) : s.countedBoundary.wind.get n =
    (s.wind.get n).counted (s.station n) s.clock.time := by
  have zones := s.timersCounted.zonesCounted_frame
  have own := (State.foldl_countDrop Station.nodup_all s.timersCounted.zonesCounted).2 n
  rw [← State.countedBoundary_eq, if_pos (Station.mem_all n)] at own
  generalize s.timersCounted.zonesCounted = t at zones own
  rw [own, zones]
  rfl

theorem State.countedBoundary_zones (s : State) (z : Zone) : s.countedBoundary.zones.get z =
    (s.zones.get z).map (ZoneDyn.counted (s.ctx.map StationCtx.boundary)) := by
  have own := s.timersCounted.zonesCounted_get z
  have frame := s.countedBoundary_frame
  generalize s.timersCounted.zonesCounted = t at own frame
  rw [frame]
  exact own

/-- The release dwell of a zone counts by the holder's link, which a second boundary leaves. -/
theorem ZoneDyn.counted_boundary (ctx : PerStation StationCtx) :
    ZoneDyn.counted (ctx.map StationCtx.boundary) = ZoneDyn.counted ctx := by
  funext d
  simp [ZoneDyn.counted, StationCtx.boundary]

section
variable (s : State)

/-- The end of a second boundary: the Plan Unit and the windows have counted. -/
theorem State.secondBoundary_counted : s.secondBoundary =
    { s.secondPassed.countedBoundary with
      plan := s.plan.boundary (nextSecond s.clock.time)
      bookings := s.bookings.map fun b : Booking => b.count (nextSecond s.clock.time) } := by
  have frame := s.secondPassed.countedBoundary_frame
  rw [State.secondBoundary_eq]
  generalize s.secondPassed.countedBoundary = t at frame
  have plan : t.plan = s.plan := by rw [frame]; rfl
  have time : t.clock.time = nextSecond s.clock.time := by rw [frame]; rfl
  have bookings : t.bookings = s.bookings := by rw [frame]; rfl
  change { t with plan := t.plan.boundary t.clock.time,
                  bookings := t.bookings.map fun b : Booking => b.count t.clock.time } = _
  rw [plan, time, bookings]

theorem State.secondBoundary_ctx (n : Station) :
    s.secondBoundary.ctx.get n = (s.ctx.get n).boundary := by
  have frame := s.secondPassed.countedBoundary_frame
  rw [s.secondBoundary_counted]
  generalize s.secondPassed.countedBoundary = t at frame
  rw [frame]
  exact PerStation.get_map _ _ _

theorem State.secondBoundary_vane (n : Station) :
    s.secondBoundary.vane.get n = (s.vane.get n).count := by
  have frame := s.secondPassed.countedBoundary_frame
  rw [s.secondBoundary_counted]
  generalize s.secondPassed.countedBoundary = t at frame
  rw [frame]
  exact PerStation.get_map _ _ _

theorem State.secondBoundary_wind (n : Station) : s.secondBoundary.wind.get n =
    (s.wind.get n).counted (s.station n) (nextSecond s.clock.time) := by
  have own := s.secondPassed.countedBoundary_wind n
  rw [s.secondBoundary_counted]
  generalize s.secondPassed.countedBoundary = t at own
  exact own

theorem State.secondBoundary_zones (z : Zone) :
    s.secondBoundary.zones.get z = (s.zones.get z).map (ZoneDyn.counted s.ctx) := by
  have own := s.secondPassed.countedBoundary_zones z
  rw [s.secondBoundary_counted, ← ZoneDyn.counted_boundary]
  generalize s.secondPassed.countedBoundary = t at own
  exact own

theorem State.secondBoundary_tablePlan :
    s.secondBoundary.plan = s.plan.boundary (nextSecond s.clock.time) ∧
      s.secondBoundary.bookings = s.bookings.map fun b : Booking => b.count (nextSecond s.clock.time) := by
  rw [s.secondBoundary_counted]
  exact ⟨rfl, rfl⟩

end

/-- A second boundary writes the clock, the contexts, the zones, the vanes, the wind fields, the plan and the
bookings. -/
def BoundaryFrame (s t : State) : Prop :=
  t = { s with clock := t.clock, ctx := t.ctx, zones := t.zones, vane := t.vane, wind := t.wind,
               plan := t.plan, bookings := t.bookings }

theorem BoundaryFrame.trans {s t u : State} (h : BoundaryFrame s t) (k : BoundaryFrame t u) :
    BoundaryFrame s u := by
  calc u = { t with clock := u.clock, ctx := u.ctx, zones := u.zones, vane := u.vane, wind := u.wind,
                    plan := u.plan, bookings := u.bookings } := k
    _ = { s with clock := u.clock, ctx := u.ctx, zones := u.zones, vane := u.vane, wind := u.wind,
                 plan := u.plan, bookings := u.bookings } := by rw [h]

theorem BoundaryFrame.secondBoundary (s : State) : BoundaryFrame s s.secondBoundary := by
  have frame := s.secondPassed.countedBoundary_frame
  rw [s.secondBoundary_counted]
  generalize s.secondPassed.countedBoundary = t at frame
  have counted : BoundaryFrame s t := by
    unfold BoundaryFrame
    generalize s.secondPassed.timersCounted.zonesCounted.zones = zs, t.wind = w at frame
    subst frame
    rfl
  exact counted.trans rfl

theorem TickCounted.boundary (s : State) :
    TickCounted s (s.atTick 0 false).secondBoundary 0 (nextSecond s.clock.time) where
  frame := by
    have clock : (s.atTick 0 false).secondBoundary.clock = { s.clock with
        phase := 0, time := nextSecond s.clock.time } := (SiteKept.secondBoundary (s.atTick 0 false)).clock
    rw [← clock]
    exact BoundaryFrame.secondBoundary (s.atTick 0 false)
  live := by
    rw [((s.atTick 0 false).secondBoundary_tablePlan).1]
    exact PlanUnit.boundary_live _ _
  ctx := (s.atTick 0 false).secondBoundary_ctx
  vane := (s.atTick 0 false).secondBoundary_vane
  wind := (s.atTick 0 false).secondBoundary_wind
  holder := fun z => by
    rw [State.holder, State.holding, (s.atTick 0 false).secondBoundary_zones]
    change (((s.zones.get z).map _).bind _).map _ = ((s.zones.get z).bind (·.hold)).map (·.station)
    cases s.zones.get z <;> rfl

end Sys2Proof.Machine
end

section
/-! TICK (R147): the boundary, the ramp steps and the wind cycle together. -/

namespace Sys2Proof.Machine

open Sys2Proof.Safety

section
variable {s u : State} {phase time : Nat} (h : TickCounted s u phase time)
include h

theorem TickCounted.station (n : Station) : u.reportsCounted.station n = s.station n := by
  change u.station n = _
  rw [State.station, h.live, State.station]

theorem TickCounted.ramps_iff (n : Station) : u.reportsCounted.Ramps n ↔ s.Ramps n := by
  have link : (u.reportsCounted.ctx.get n).link = (s.ctx.get n).link := by
    change ((u.ctx.map StationCtx.tick).get n).link = _
    rw [PerStation.get_map, StationCtx.tick, h.ctx n]
  rw [State.Ramps, link, h.station, State.Ramps]

theorem TickCounted.target (n : Station) : u.reportsCounted.target n = s.target n := by
  have stage : (u.reportsCounted.wind.get n).stage = (s.wind.get n).stage := by
    change (u.wind.get n).stage = _
    rw [h.wind n]
    split <;> rfl
  have stop : u.reportsCounted.siteStop = s.siteStop := by
    change u.siteStop = _
    rw [h.frame]
  have derate : u.reportsCounted.siteDerate = s.siteDerate := by
    change u.siteDerate = _
    rw [h.frame]
  rw [State.target, h.station, stage, stop, derate, State.target]

theorem TickCounted.zonesClearFor (n : Station) : u.reportsCounted.zonesClearFor n = s.zonesClearFor n := by
  have members : u.reportsCounted.memberZones n = s.memberZones n :=
    State.memberZones_of_live (t := u.reportsCounted) h.live n
  have held (z : Zone) : u.reportsCounted.heldByOther z n = s.heldByOther z n := by
    have holder : u.reportsCounted.holder z = s.holder z := h.holder z
    rw [State.heldByOther, holder, State.heldByOther]
  rw [State.zonesClearFor, members, State.zonesClearFor]
  simp only [held]

theorem TickCounted.lim : u.reportsCounted.lim = s.lim := by
  change u.lim = _
  rw [h.frame]

theorem TickCounted.reports (n : Station) : u.reportsCounted.ctx.get n = { s.ctx.get n with
    reportTimer := (s.ctx.get n).reportTimer.count
    linkDwell := if phase = 0 then (s.ctx.get n).linkDwell.count else (s.ctx.get n).linkDwell } := by
  change (u.ctx.map _).get n = _
  rw [PerStation.get_map, StationCtx.tick, h.ctx n]

end

/-- The state of a tick before the wind cycle goes on. -/
def State.counting (s : State) (phase : Nat) : State :=
  if phase = 0 then (s.atTick 0 false).secondBoundary else s.atTick phase false

theorem State.tick_of_settled {s : State} (settled : s.takeDue = s) : s.tick =
    (s.counting ((s.clock.phase + 1) % 20)).tickEvent.tickCycle := by
  unfold State.tick State.counting
  rw [settled]
  change s.takeTick _ _ = _
  rw [State.takeTick_eq]
  by_cases zero : (s.clock.phase + 1) % 20 = 0
  · simp [zero]
  · simp [zero]

theorem TickCounted.counting (s : State) (phase : Nat) :
    TickCounted s (s.counting phase) phase (if phase = 0 then nextSecond s.clock.time else s.clock.time) := by
  unfold State.counting
  by_cases zero : phase = 0
  · rw [if_pos zero, if_pos zero, zero]
    exact .boundary s
  · rw [if_neg zero, if_neg zero]
    exact .atTick zero

theorem State.counting_between {s : State} {phase : Nat} (inside : phase ≠ 0) :
    (s.counting phase).zones = s.zones ∧ (s.counting phase).bookings = s.bookings ∧
      (s.counting phase).plan = s.plan := by
  rw [State.counting, if_neg inside]
  exact ⟨rfl, rfl, rfl⟩

/-- A wind cycle starts (R91). -/
theorem State.startCycle_age (s : State) : ∃ c, s.startCycle.cycle = some c ∧ c.age = 0 := by
  by_cases off : s.line.state = .off
  · rw [State.startCycle_of_off s off]
    exact ⟨_, rfl, rfl⟩
  · cases commands : s.line.commands with
    | nil =>
      rw [State.startCycle_of_nil s off commands]
      exact ⟨_, rfl, rfl⟩
    | cons c cs =>
      rw [State.startCycle_of_cons s off commands, State.sendCommand_cycle]
      exact ⟨_, rfl, rfl⟩

/-- The wind cycle's step at a tick leaves what the stations' turns have made. -/
theorem State.tickCycle_between {s : State} (inside : s.clock.phase % 5 ≠ 0) :
    s.tickCycle = { s with cycle := s.cycle.map fun c => { c with age := c.age + 1 } } := by
  rw [State.tickCycle, startsCycle, if_neg (by simpa using inside)]

theorem State.tickCycle_start {s : State} (start : s.clock.phase % 5 = 0) (free : s.cycle = none) :
    s.tickCycle = s.startCycle := by
  rw [State.tickCycle, startsCycle, if_pos (by simpa using start), free]

/-- A tick with nothing left due, in its three parts. -/
structure Ticked (s c e t : State) (phase : Nat) : Prop where
  counted : TickCounted s c phase (if phase = 0 then nextSecond s.clock.time else s.clock.time)
  limits : LimitsFrame c e
  ramped : ∀ n, Ramped c.reportsCounted e n
  cycle : CycleFrame e t

section
variable {s c e t : State} {phase : Nat} (h : Ticked s c e t phase)
include h

theorem Ticked.frame : t = { s with
    clock := { s.clock with
      phase := phase, time := if phase = 0 then nextSecond s.clock.time else s.clock.time }
    tickInterval := tickLength, ctx := t.ctx, zones := c.zones, vane := t.vane, wind := c.wind, plan := c.plan
    bookings := c.bookings, lim := t.lim, cycle := t.cycle, line := t.line, sensors := t.sensors
    alarms := t.alarms, attn := t.attn, held := t.held, tx := t.tx } := by
  obtain ⟨⟨frame, -, -, -, -, -⟩, limits, -, cycle⟩ := h
  have ctx : t.ctx = e.ctx := by rw [cycle]
  have lim : t.lim = e.lim := by rw [cycle]
  have vane : t.vane = e.vane := by rw [cycle]
  rw [ctx, lim, vane]
  rw [cycle]
  rw [limits]
  rw [frame]

end

end Sys2Proof.Machine
end

section
/-! O48: what a tick with nothing left due leaves behind. -/

namespace Sys2Proof.Machine

open Sys2Proof.Safety

section
variable {s c e t : State} {phase : Nat} (h : Ticked s c e t phase)
include h

theorem Ticked.ctx (n : Station) : t.ctx.get n = { s.ctx.get n with
    reportTimer := (s.ctx.get n).reportTimer.count
    linkDwell := if phase = 0 then (s.ctx.get n).linkDwell.count else (s.ctx.get n).linkDwell
    mp := (t.ctx.get n).mp } := by
  have same : t.ctx = e.ctx := by rw [h.cycle]
  rw [same, (h.ramped n).ctx, h.counted.reports n]

theorem Ticked.vWind (n : Station) : (t.lim.get n).vWind =
    if ((s.ctx.get n).link = .online ∨ (s.ctx.get n).link = .stale) ∧ (s.station n).enabled = true then
      rampStep (s.station n) (s.lim.get n).vWind (s.target n)
    else (s.lim.get n).vWind := by
  have same : t.lim = e.lim := by rw [h.cycle]
  have turn := h.ramped n
  rw [same]
  by_cases ramps : s.Ramps n
  · rw [turn.ramps ((h.counted.ramps_iff n).mpr ramps), h.counted.station, h.counted.lim, h.counted.target]
    exact (if_pos ramps).symm
  · rw [turn.rests (mt (h.counted.ramps_iff n).mp ramps), h.counted.lim]
    exact (if_neg ramps).symm

theorem Ticked.recompute (n : Station) (ramps : s.Ramps n) : t.recompute n = t :=
  ((h.ramped n).computed ((h.counted.ramps_iff n).mpr ramps)).congr
    (by rw [h.cycle]) (by rw [h.cycle]) (by rw [h.cycle]) (by rw [h.cycle]) (by rw [h.cycle])

theorem Ticked.vane (n : Station) : t.vane.get n =
    if (s.vane.get n).vane = .clearing ∧ (s.lim.get n).vWind ≠ 0 ∧ (t.lim.get n).vWind = 0 ∧
        s.zonesClearFor n = true then
      { s.vane.get n with vane := .clear, timer := .stopped, vc := true, overdue := false }
    else { s.vane.get n with
      timer := if phase = 0 then (s.vane.get n).timer.count else (s.vane.get n).timer } := by
  have lim : t.lim = e.lim := by rw [h.cycle]
  have same : t.vane = e.vane := by rw [h.cycle]
  have before : c.reportsCounted.vane.get n = { s.vane.get n with
      timer := if phase = 0 then (s.vane.get n).timer.count else (s.vane.get n).timer } := h.counted.vane n
  have own := (h.ramped n).vane
  rw [before, h.counted.lim, h.counted.zonesClearFor] at own
  rw [same, lim]
  exact own

theorem Ticked.wind (n : Station) : t.wind.get n = { s.wind.get n with
    dropDue := (s.wind.get n).dropDue || (decide (phase = 0) && (s.station n).enabled &&
      (s.wind.get n).dropStart.any fun start => decide ((s.station n).dropDwell ≤
        (if phase = 0 then nextSecond s.clock.time else s.clock.time) - start)) } := by
  have same : t.wind = c.wind := by rw [h.frame]
  rw [same, h.counted.wind n]
  by_cases zero : phase = 0
  · simp [zero, WindCtx.counted]
  · simp [zero]

end

/-! ### The parts of a second boundary and of the wind cycle -/

theorem Booking.count_eq (b : Booking) (now : Nat) : b.count now = { b with state := (b.count now).state } := by
  unfold Booking.count
  split <;> rfl

theorem PlanUnit.boundary_eq (p : PlanUnit) (now : Nat) :
    p.boundary now = { p with pendingCommit := (p.boundary now).pendingCommit } := by
  unfold PlanUnit.boundary
  split
  · split <;> rfl
  all_goals rfl

/-- The second boundary of a tick, as the tick leaves it. -/
theorem State.counting_boundary (s : State) :
    (∀ z, (s.counting 0).zones.get z = (s.zones.get z).map (ZoneDyn.counted s.ctx)) ∧
      (s.counting 0).bookings = (s.bookings.map fun b : Booking => b.count (nextSecond s.clock.time)) ∧
      (s.counting 0).plan = s.plan.boundary (nextSecond s.clock.time) := by
  rw [State.counting, if_pos rfl]
  have tablePlan := (s.atTick 0 false).secondBoundary_tablePlan
  exact ⟨(s.atTick 0 false).secondBoundary_zones, tablePlan.2, tablePlan.1⟩

/-- Settles O48: the second boundary, the stations' turns and the wind cycle's step, in the order of the tick. -/
theorem tickCountsAndRamps : Obligations.TickCountsAndRamps := by
  refine ⟨⟨rfl, rfl, fun _ => rfl⟩, fun s settled => ?_⟩
  dsimp only
  rw [← nextSecond_eq]
  have ticked : Ticked s (s.counting ((s.clock.phase + 1) % 20))
      (s.counting ((s.clock.phase + 1) % 20)).tickEvent
      (s.counting ((s.clock.phase + 1) % 20)).tickEvent.tickCycle ((s.clock.phase + 1) % 20) :=
    ⟨.counting s _, .tickEvent _, .tickEvent _, .tickCycle _⟩
  have step := State.tick_of_settled settled
  have between := @State.tickCycle_between (s.counting ((s.clock.phase + 1) % 20)).tickEvent
  have start := @State.tickCycle_start (s.counting ((s.clock.phase + 1) % 20)).tickEvent
  have age := (s.counting ((s.clock.phase + 1) % 20)).tickEvent.startCycle_age
  have inside := @State.counting_between s ((s.clock.phase + 1) % 20)
  have boundary := s.counting_boundary
  generalize (s.clock.phase + 1) % 20 = phase at *
  generalize counted : s.counting phase = c at ticked step between start age inside
  have atBoundary : phase = 0 → c = s.counting 0 := fun zero => by rw [← counted, zero]
  clear counted
  generalize s.counting 0 = c₀ at boundary atBoundary
  generalize c.tickEvent = e at ticked step between start age
  generalize e.startCycle = f at start age
  generalize e.tickCycle = t at ticked step between start
  have frame := ticked.frame
  have onto : e = { c with ctx := e.ctx, lim := e.lim, vane := e.vane, alarms := e.alarms, attn := e.attn,
                           held := e.held, tx := e.tx } := ticked.limits
  have base := ticked.counted.frame
  have phases : e.clock.phase = phase := by rw [onto, base]
  have cycle : e.cycle = s.cycle := by rw [onto, base]
  have line : e.line = s.line := by rw [onto, base]
  have sensors : e.sensors = s.sensors := by rw [onto, base]
  have zones : t.zones = c.zones := by rw [frame]
  have bookings : t.bookings = c.bookings := by rw [frame]
  have plan : t.plan = c.plan := by rw [frame]
  refine ⟨t, congrArg Host.Outcome.next step, by rw [frame], by rw [frame]; rfl, ticked.ctx, ticked.vWind,
    fun n up on => ticked.recompute n ⟨up, on⟩, ticked.vane, ticked.wind, fun inside' => ?_, fun zero => ?_,
    fun other => ?_, fun starts free => ?_, by rw [frame], by rw [frame], by rw [frame], by rw [frame]⟩
  · rw [zones, bookings, plan]
    exact inside inside'
  · obtain ⟨counted, listed, planned⟩ := boundary
    rw [zones, bookings, plan, atBoundary zero, if_pos zero]
    refine ⟨counted, ?_, ?_⟩
    · rw [listed]
      refine List.map_congr_left fun b _ => (b.count_eq _).trans
        (congrArg (fun state => ({ b with state } : Booking)) ?_)
      cases state : b.state <;> simp [Booking.count, state, Window.count_eq]
    · rw [planned, PlanUnit.boundary_eq]
      refine congrArg (fun pendingCommit => ({ s.plan with pendingCommit } : PlanUnit)) ?_
      cases pending : s.plan.pendingCommit with
      | atTime target due =>
        by_cases reached : target ≤ nextSecond s.clock.time <;> simp [PlanUnit.boundary, pending, reached]
      | absent | atMark => simp [PlanUnit.boundary, pending]
  · rw [between (by rw [phases]; exact other)]
    exact ⟨line, sensors, by rw [← cycle]⟩
  · rw [start (by rw [phases]; exact starts) (by rw [cycle]; exact free)]
    exact age

end Sys2Proof.Machine
end

section
/-! Work that sheds: claims are served and bookings end, but nothing opens. It is what a commit, a stage of SHUTDOWN
and a clearance do to the zones, the bookings and the alarm entries of the stations (R13, R133, R167). -/

namespace Sys2Proof.Machine

open Sys2Proof.Safety

/-! ### The relation -/

/-- An edit of a zone's record by work that sheds: the swept set, the holder and its entry timer stay, waiters may
go, and a fresh record stays fresh. -/
structure ZoneDyn.Shed (d e : ZoneDyn) : Prop where
  swept : e.swept = d.swept
  waiting : ∀ n ∈ e.waiting, n ∈ d.waiting
  held : ∀ h, d.hold = some h → e.entry = d.entry ∧ ∃ kind, e.hold = some { h with kind := kind }
  fresh : d = .fresh → e = .fresh

theorem ZoneDyn.Shed.refl (d : ZoneDyn) : d.Shed d := ⟨rfl, fun _ => id, fun h hold => ⟨rfl, h.kind, hold⟩, id⟩

theorem ZoneDyn.Shed.trans {d e f : ZoneDyn} (h : d.Shed e) (k : e.Shed f) : d.Shed f where
  swept := k.swept.trans h.swept
  waiting := fun n mem => h.waiting n (k.waiting n mem)
  held := fun j hold => by
    obtain ⟨entry, kind, hold⟩ := h.held j hold
    obtain ⟨entry', kind', hold'⟩ := k.held _ hold
    exact ⟨entry'.trans entry, kind', hold'⟩
  fresh := fun e => k.fresh (h.fresh e)

/-- Bookings that a piece of work does not end: zones may pass to them. -/
structure Keeping where
  of : Booking → Prop
  passed : ∀ {b c : Booking}, b.Passed c → of b → of c

/-- The alarm entries of a station that shedding work begins nothing in. -/
def AlarmId.calm : AlarmId → Bool
  | .unsafeVane _ | .intrusion _ | .clearanceOverdue _ | .windLost _ | .linkStale _ => true
  | _ => false

/-- No conflict has been latched for a station (R60). -/
def State.Calm (s : State) (n : Station) : Prop :=
  (s.arb.get n).conflict = false ∧ s.alarms.get (.conflict n) = .cleared

/-- What shedding work does. -/
structure Shed (K : Keeping) (s t : State) : Prop where
  live : t.plan.live = s.plan.live
  missing : ∀ z, s.zones.get z = none → t.zones.get z = none
  record : ∀ z d, s.zones.get z = some d → ∃ e, t.zones.get z = some e ∧ d.Shed e
  lim : ∀ n, (s.station n).enabled = false → s.lim.get n = .reset → t.lim.get n = .reset
  /-- A booking is as it was, or has been re-armed at its end. -/
  origin : ∀ c ∈ t.bookings, ∃ b ∈ s.bookings, b.number = c.number ∧ b.station = c.station ∧
    (b.Passed c ∨ c.state = .pending ∧ ¬ K.of b)
  stays : ∀ b, K.of b → s.booking? b.number = some b → ∃ c, t.booking? b.number = some c ∧ b.Passed c
  numbers : (t.bookings.map (·.number)).Sublist (s.bookings.map (·.number))
  ended : ∀ n, (∀ b ∈ s.bookings, b.station = n → K.of b) →
    (t.ctx.get n).lastEnded = (s.ctx.get n).lastEnded
  entries : ∀ i, i.calm = true → s.alarms.get i = .cleared → t.alarms.get i = .cleared
  calm : ∀ n, (∀ z, t.holder z ≠ some n) → s.Calm n → t.Calm n

section
variable {K : Keeping} {s t u : State}

theorem Shed.station (h : Shed K s t) (n : Station) : t.station n = s.station n := by
  rw [State.station, h.live, State.station]

theorem Shed.holder (h : Shed K s t) {z : Zone} {n : Station} (held : s.holder z = some n) :
    t.holder z = some n := by
  obtain ⟨d, k, record, hold, own⟩ : ∃ d k, s.zones.get z = some d ∧ d.hold = some k ∧ k.station = n := by
    simpa [State.holder, State.holding, Option.bind_eq_some_iff] using held
  obtain ⟨e, record', shed⟩ := h.record z d record
  obtain ⟨-, kind, hold'⟩ := shed.held k hold
  simp [State.holder, State.holding, record', hold', own]

/-- A write of none of these fields. -/
theorem Shed.write (live : t.plan.live = s.plan.live := by rfl) (zones : t.zones = s.zones := by rfl)
    (lim : ∀ n, (s.station n).enabled = false → s.lim.get n = .reset → t.lim.get n = .reset := by exact fun _ _ => id)
    (bookings : t.bookings = s.bookings := by rfl)
    (ended : ∀ n, (t.ctx.get n).lastEnded = (s.ctx.get n).lastEnded := by exact fun _ => rfl)
    (entries : ∀ i, i.calm = true → s.alarms.get i = .cleared → t.alarms.get i = .cleared := by
      exact fun _ _ => id)
    (calm : ∀ n, (∀ z, t.holder z ≠ some n) → s.Calm n → t.Calm n := by exact fun _ _ => id) :
    Shed K s t where
  live := live
  missing := fun z none => by rw [zones, none]
  record := fun z d record => ⟨d, by rw [zones, record], .refl d⟩
  lim := lim
  origin := fun c mem => ⟨c, bookings ▸ mem, rfl, rfl, .inl (.refl c)⟩
  stays := fun b _ found => ⟨b, by rw [State.booking?_of_bookings bookings, found], .refl b⟩
  numbers := by rw [bookings]
  ended := fun n _ => ended n
  entries := entries
  calm := calm

theorem Shed.refl (s : State) : Shed K s s := .write

theorem Shed.trans (h : Shed K s t) (k : Shed K t u) : Shed K s u where
  live := k.live.trans h.live
  missing := fun z none => k.missing z (h.missing z none)
  record := fun z d record => by
    obtain ⟨e, record, first⟩ := h.record z d record
    obtain ⟨f, record, second⟩ := k.record z e record
    exact ⟨f, record, first.trans second⟩
  lim := fun n off reset => k.lim n (by rw [h.station, off]) (h.lim n off reset)
  origin := fun c mem => by
    obtain ⟨b, mem, number, station, was⟩ := k.origin c mem
    obtain ⟨a, mem, number', station', was'⟩ := h.origin b mem
    refine ⟨a, mem, number'.trans number, station'.trans station, ?_⟩
    rcases was' with kept | ⟨pending, freed⟩
    · exact was.imp kept.trans fun ⟨pending, freed⟩ => ⟨pending, fun own => freed (K.passed kept own)⟩
    · refine .inr ⟨?_, freed⟩
      rcases was with kept | ⟨pending', -⟩
      · obtain same | ⟨w, -, opened, -⟩ := kept.state
        · exact same.trans pending
        · simp [Booking.window?, pending] at opened
      · exact pending'
  stays := fun b own found => by
    obtain ⟨c, found, kept⟩ := h.stays b own found
    obtain ⟨d, found, kept'⟩ := k.stays c (K.passed kept own) (kept.number ▸ found)
    exact ⟨d, kept.number ▸ found, kept.trans kept'⟩
  numbers := k.numbers.trans h.numbers
  ended := fun n own => by
    refine (k.ended n fun c mem station => ?_).trans (h.ended n own)
    obtain ⟨b, mem, -, same, kept | ⟨-, freed⟩⟩ := h.origin c mem
    · exact K.passed kept (own b mem (same.trans station))
    · exact absurd (own b mem (same.trans station)) freed
  entries := fun i calm cleared => k.entries i calm (h.entries i calm cleared)
  calm := fun n none calm => k.calm n none (h.calm n (fun z held => none z (k.holder held)) calm)

/-- The number of a booking in the table comes from the table before. -/
theorem Shed.booking?_none (h : Shed K s t) {num : Nat} (none : s.booking? num = none) :
    t.booking? num = Option.none := by
  by_contra found
  obtain ⟨c, found⟩ := Option.ne_none_iff_exists'.mp found
  obtain ⟨b, mem, number, -⟩ := h.origin c (State.mem_of_booking? found)
  have own : s.booking? num ≠ Option.none := by
    rw [Ne, ← Option.not_isSome_iff_eq_none, not_not, State.booking?_isSome]
    exact List.mem_map.mpr ⟨b, mem, number.trans (State.number_of_booking? found)⟩
  exact own none

/-- No two bookings have the same number (R154). -/
def State.Numbered (s : State) : Prop := (s.bookings.map (·.number)).Nodup

theorem Shed.numbered (h : Shed K s t) (distinct : s.Numbered) : t.Numbered := distinct.sublist h.numbers

theorem find?_number_of_mem {bs : List Booking} (distinct : (bs.map (·.number)).Nodup) {b : Booking}
    (mem : b ∈ bs) : bs.find? (·.number = b.number) = some b := by
  induction bs with
  | nil => cases mem
  | cons c bs ih =>
    obtain ⟨new, distinct⟩ := List.nodup_cons.mp distinct
    rw [List.find?_cons]
    rcases List.mem_cons.mp mem with rfl | mem
    · simp
    · have ne : c.number ≠ b.number := fun same => new (List.mem_map.mpr ⟨b, mem, same.symm⟩)
      simpa [ne] using ih distinct mem

theorem State.Numbered.booking? (h : s.Numbered) {b : Booking} (mem : b ∈ s.bookings) :
    s.booking? b.number = some b := find?_number_of_mem h mem

theorem State.Numbered.of_kept (kept : bookingTableKept s = true) : s.Numbered :=
  (bookingTableKept_iff.mp kept).ascending.imp fun lt => Nat.ne_of_lt lt

end

/-- A station that holds no zone is in no conflict. -/
theorem State.conflictNow_of_holds_none {s : State} {n : Station} (none : ∀ z, s.holder z ≠ some n) :
    s.conflictNow n = false := by
  simp [State.conflictNow, State.holds, none]

section Operations

variable {K : Keeping} {s₀ s : State} (h : Shed K s₀ s)
include h

theorem Shed.ite {c : Prop} [Decidable c] {t : State} (ht : Shed K s₀ t) :
    Shed K s₀ (if c then s else t) := by
  split
  · exact h
  · exact ht

theorem Shed.foldl {β : Type} {f : State → β → State}
    (keeps : ∀ {s : State} (b : β), Shed K s₀ s → Shed K s₀ (f s b)) (bs : List β) :
    Shed K s₀ (bs.foldl f s) := by
  induction bs generalizing s with
  | nil => exact h
  | cons b bs ih => exact ih (keeps b h)

theorem Shed.modZone (z : Zone) {f : ZoneDyn → ZoneDyn}
    (shed : ∀ d, s.zones.get z = some d → d.Shed (f d)) : Shed K s₀ (s.modZone z f) := by
  have frame := s.modZone_frame z f
  have step : Shed K s (s.modZone z f) :=
    { live := by rw [frame]
      missing := fun y none => by
        rw [State.modZone_get]
        split
        · next same => subst same; rw [none]; rfl
        · exact none
      record := fun y d record => by
        rw [State.modZone_get]
        split
        · next same => subst same; exact ⟨f d, by rw [record]; rfl, shed d record⟩
        · exact ⟨d, record, .refl d⟩
      lim := fun _ _ reset => by rw [frame]; exact reset
      origin := fun c mem => ⟨c, by rw [frame] at mem; exact mem, rfl, rfl, .inl (.refl c)⟩
      stays := fun b _ found =>
        ⟨b, by rw [State.booking?_of_bookings (s := s) (by rw [frame]), found], .refl b⟩
      numbers := by rw [frame]
      ended := fun n _ => by rw [frame]
      entries := fun i _ cleared => by rw [frame]; exact cleared
      calm := fun n _ calm => by rw [State.Calm, frame]; exact calm }
  exact h.trans step

/-! ### Frames, permits and the vane -/

theorem Shed.frames {t : State} (frame : AlarmFrame s t)
    (entries : ∀ i, i.calm = true → s.alarms.get i = .cleared → t.alarms.get i = .cleared)
    (calm : ∀ n, (∀ z, t.holder z ≠ some n) → s.Calm n → t.Calm n) : Shed K s₀ t :=
  h.trans (.write (by rw [frame]) (by rw [frame]) (fun _ _ => by rw [frame]; exact id) (by rw [frame])
    (fun _ => by rw [frame]) entries calm)

theorem Shed.raise (l : Link) (f : Frame) : Shed K s₀ (s.raise l f) := by
  have frame : s.raise l f = { s with held := (s.raise l f).held, tx := (s.raise l f).tx } := by
    rcases s.raise_cases l f with ⟨-, e⟩ | ⟨-, e⟩
    · rw [e]
    · rw [e]; rfl
  exact h.trans (.write (by rw [frame]) (by rw [frame]) (fun _ _ => by rw [frame]; exact id) (by rw [frame])
    (fun _ => by rw [frame]) (fun _ _ => by rw [frame]; exact id) (fun _ _ => by rw [frame]; exact id))

theorem Shed.notify (n : Station) (y : Notice) : Shed K s₀ (s.notify n y) := .ite h (h.raise _ _)

theorem Shed.recompute (n : Station) : Shed K s₀ (s.recompute n) := by
  have frame := (PermitFrame.recompute s n).frame
  have ctx : (s.recompute n).ctx = s.ctx := by
    obtain ⟨l, e, -⟩ := s.recompute_cases n
    rw [e]; rfl
  refine h.trans (.write (by rw [frame]) (by rw [frame]) (fun m off reset => ?_) (by rw [frame])
    (fun _ => by rw [ctx]) (fun _ _ => by rw [frame]; exact id) (fun _ _ => by rw [frame]; exact id))
  by_cases same : m = n
  · subst same
    rw [State.recompute_of_disabled off, reset]
    simp [LimitCtx.reset]
  · rw [((PermitFrame.recompute s n).others m same).2, reset]

theorem Shed.reevalPermit (n : Station) : Shed K s₀ (s.reevalPermit n) := by
  rcases s.reevalPermit_cases n with ⟨-, e⟩ | ⟨-, e⟩ <;> rw [e]
  · exact h
  · have set : Shed K s₀ (s.setCtx n { s.ctx.get n with mp := s.permit n }) := by
      refine h.trans (.write (ended := fun m => ?_))
      by_cases same : m = n
      · subst same; simp
      · simp [same]
    exact set.recompute n

/-- A condition of a calm entry ends. -/
theorem Shed.alarmEnds {i : AlarmId} (calm : i.calm = true := by rfl) : Shed K s₀ (s.alarmEnds i) := by
  refine h.frames (.alarmEnds s i) (fun j _ cleared => ?_) (fun n _ still => ⟨still.1, ?_⟩)
  · rw [State.alarmEnds_get]
    split
    · next same => rw [← same, cleared]; rfl
    · exact cleared
  · rw [State.alarmEnds_get, if_neg (by rintro rfl; cases calm)]
    exact still.2

theorem Shed.setVane (n : Station) (c : VaneCtx) : Shed K s₀ (s.setVane n c) := h.trans .write

theorem Shed.setWind (n : Station) (w : WindCtx) : Shed K s₀ (s.setWind n w) := h.trans .write

/-- Clearance overdue becomes absent (R135). -/
theorem Shed.overdueEnds (n : Station) : Shed K s₀ (s.setOverdue n false) :=
  .ite h (Shed.alarmEnds (s := s.setVane n _) (i := .clearanceOverdue n) (h.setVane n _))

theorem Shed.judgeClear (n : Station) : Shed K s₀ (s.judgeClear n) :=
  .ite ((h.setVane n _).overdueEnds n) h

theorem Shed.judgeSwingLine (n : Station) (z : Zone) : Shed K s₀ (s.judgeSwingLine n z) :=
  .ite (h.setVane n _) h

theorem Shed.holderTold (z : Zone) : Shed K s₀ (s.holderTold z) :=
  h.foldl (fun n h => (h.judgeClear n).judgeSwingLine n z) _

/-! ### The latches of the Zone Arbiter (R59, R60, R68) -/

theorem Shed.reevalConflict (n : Station) : Shed K s₀ (s.reevalConflict n) := by
  set told := (s.setArb n { s.arb.get n with conflict := s.conflictNow n }).alarmIs (.conflict n)
    (s.conflictNow n) with eq
  have frame : AlarmFrame (s.setArb n { s.arb.get n with conflict := s.conflictNow n }) told :=
    AlarmFrame.alarmIs _ _ _
  have split : s.reevalConflict n =
      if s.conflictNow n = (s.arb.get n).conflict then s else told.reevalPermit n := rfl
  rw [split]
  by_cases same : s.conflictNow n = (s.arb.get n).conflict
  · rw [if_pos same]
    exact h
  · rw [if_neg same]
    refine Shed.reevalPermit (h.trans (.write (by rw [frame]; rfl) (by rw [frame]; rfl)
      (fun _ _ => by rw [frame]; exact id) (by rw [frame]; rfl) (fun _ => by rw [frame]; rfl)
      (fun i calm cleared => ?_) (fun m none still => ?_))) n
    · rw [eq, State.alarmIs_get, if_neg (by rintro rfl; cases calm)]
      exact cleared
    · have none' : ∀ z, s.holder z ≠ some m := fun z => by
        have := none z
        rwa [State.holder, State.holding, frame] at this
      have ne : m ≠ n := by
        rintro rfl
        exact same ((State.conflictNow_of_holds_none none').trans still.1.symm)
      refine ⟨?_, ?_⟩
      · rw [frame]
        simpa [ne] using still.1
      · rw [eq, State.alarmIs_get, if_neg (by simpa using ne)]
        exact still.2

theorem Shed.recoveryTest (n : Station) : Shed K s₀ (s.recoveryTest n) := by
  have set : Shed K s₀ (s.setArb n { s.arb.get n with intrusion := false, recovery := false }) := by
    refine h.trans (.write (calm := fun m _ still => ⟨?_, still.2⟩))
    by_cases same : m = n
    · subst same; simpa using still.1
    · simpa [same] using still.1
  exact .ite ((set.alarmEnds (i := .intrusion n)).reevalPermit n) h

theorem Shed.holderChanged (z : Zone) : Shed K s₀ (s.holderChanged z) :=
  (h.holderTold z).foldl (fun n h => h.reevalConflict n) _

/-! ### Zones passed on (R52) -/

theorem Shed.bookingPassed (num : Nat) (z : Zone) : Shed K s₀ (s.bookingPassed num z) := by
  cases found : s.booking? num with
  | none =>
    rw [show s.bookingPassed num z = s by rw [State.bookingPassed, found]]
    exact h
  | some b =>
    have own := State.number_of_booking? found
    rw [show s.bookingPassed num z = s.putBooking (b.pass z) by rw [State.bookingPassed, found]]
    refine h.trans
      { (Shed.refl (K := K) s : Shed K s s) with
        numbers := by rw [State.putBooking_numbers]
        origin := fun c mem => ?_
        stays := fun c keep there => ?_ }
    · rcases State.mem_putBooking mem with rfl | ⟨mem, -⟩
      · exact ⟨b, State.mem_of_booking? found, (b.passed_pass z).number.symm,
          by rw [(b.passed_pass z).fields], .inl (b.passed_pass z)⟩
      · exact ⟨c, mem, rfl, rfl, .inl (.refl c)⟩
    · rw [State.putBooking_booking?]
      split
      case isTrue same =>
        have number : c.number = num := same.trans ((b.passed_pass z).number.trans own)
        rw [number, found] at there
        obtain rfl := Option.some.inj there
        exact ⟨_, by rw [number, found]; rfl, b.passed_pass z⟩
      case isFalse => exact ⟨c, there, .refl c⟩

theorem Shed.granted (z : Zone) (n : Station) (kind : GrantKind) : Shed K s₀ (s.granted z n kind) :=
  ((h.notify n _).holderChanged z).recoveryTest n

/-- A zone without a holder is given to a station, when something has claimed it. -/
theorem Shed.give (z : Zone) (k : Holding) (entry : Timer) {d : ZoneDyn} (record : s.zones.get z = some d)
    (free : d.hold = none) (claimed : d ≠ .fresh) : Shed K s₀ (s.modZone z fun d => d.give k entry) :=
  h.modZone z fun e same => by
    obtain rfl := Option.some.inj (record.symm.trans same)
    exact ⟨rfl, fun n mem => List.mem_of_mem_erase mem, fun j hold => absurd (free.symm.trans hold) nofun,
      fun fresh => absurd fresh claimed⟩

theorem Shed.serve (z : Zone) : Shed K s₀ (s.serve z) := by
  cases s.served z with
  | kept same => rwa [same]
  | ordinary d n rest record free _ waiting _ same =>
    rw [same]
    exact (h.give z _ _ record free (by rintro rfl; cases waiting)).granted z n _
  | booked d num b record free reserved _ _ _ same =>
    rw [same]
    exact ((h.give z _ _ record free (by rintro rfl; cases reserved)).granted z b.station _).bookingPassed num z

theorem Shed.serveMemberZones (n : Station) : Shed K s₀ (s.serveMemberZones n) := h.foldl (fun z h => h.serve z) _

/-! ### The end of a booking (R64, R171) -/

theorem Shed.liftReservations (zs : List Zone) : Shed K s₀ (s.liftReservations zs) :=
  (h.foldl (f := fun s z => s.modZone z fun d => { d with reservation := none })
    (fun z h => h.modZone z fun d _ => ⟨rfl, fun _ => id, fun k hold => ⟨rfl, k.kind, hold⟩,
      by rintro rfl; rfl⟩) zs).foldl (fun z h => h.serve z) zs

theorem Shed.endZone (b : Booking) (z : Zone) : Shed K s₀ (State.endZone b s z) := by
  refine h.modZone z fun d _ => ⟨?_, ?_, fun k hold => ?_, ?_⟩
  · dsimp only
    split
    · split <;> rfl
    · rfl
  · dsimp only
    split
    · split <;> exact fun n mem => List.mem_of_mem_erase mem
    · exact fun n mem => List.mem_of_mem_erase mem
  · dsimp only
    rw [hold]
    dsimp only
    split
    · exact ⟨rfl, _, rfl⟩
    · exact ⟨rfl, k.kind, rfl⟩
  · rintro rfl
    rfl

theorem Shed.liftedEnd (b : Booking) : Shed K s₀ (s.liftedEnd b) := by
  have zones : Shed K s₀ (b.zones.foldl (State.endZone b) s) := h.foldl (fun z h => h.endZone b z) _
  unfold State.liftedEnd
  extract_lets ended
  exact .ite zones ((zones.liftReservations _).serveMemberZones _)

end Operations

end Sys2Proof.Machine
end

section
/-! Work that sheds, in the blocks: the end of a booking, a stage of SHUTDOWN, a clearance, and the parts of a commit. -/

namespace Sys2Proof.Machine

open Sys2Proof.Safety

/-! ### The end of a booking (R64, R171) -/

theorem seekSlot_station {others : List Booking} {now period : Nat} {b c : Booking} {k : Nat}
    (fuel skips : Nat) (h : seekSlot others now period fuel b skips = some (c, k)) :
    c.station = b.station := by
  induction fuel generalizing b skips with
  | zero => cases h
  | succ fuel ih =>
    rw [seekSlot] at h
    split at h
    · cases h
    · split at h
      · exact ih (b := { b with start := b.start + period }) (skips + 1) h
      · cases h; rfl

theorem State.rearm_station {s : State} {b c : Booking} {e : Ending} (h : (s.rearm b e).1 = some c) :
    c.station = b.station := by
  unfold State.rearm at h
  split at h
  case h_1 =>
    split at h
    · cases h
    · split at h
      · cases h
      · extract_lets first at h
        split at h
        case h_1 d k slot =>
          cases h
          exact (seekSlot_station 8 0 slot :)
        case h_2 => cases h
  case h_2 => cases h

/-- Zones that pass to other bookings leave each booking's number and station in the table. -/
theorem State.liftedEnd_origin {s : State} {b c : Booking} (mem : c ∈ (s.liftedEnd b).bookings) :
    ∃ d ∈ s.bookings, d.Passed c := PassesOnly.liftedEnd s b c mem

theorem State.endBooking_booking?_ne (s : State) {b : Booking} {e : Ending} {num : Nat} (ne : num ≠ b.number) :
    (s.endBooking b e).booking? num = (s.liftedEnd b).booking? num := by
  rw [State.endBooking_eq]
  split
  case h_1 c armed =>
    rw [State.putBooking_booking?, if_neg (by rwa [State.rearm_number armed]),
      State.booking?_of_bookings (s.reportedEnd_bookings b e)]
  case h_2 =>
    have same : ((s.reportedEnd b e).dropBooking b.number).booking? num = (s.reportedEnd b e).booking? num := by
      simp only [State.booking?, State.dropBooking, State.setBookings_bookings, List.find?_filter]
      congr 1
      funext c
      by_cases own : c.number = num <;> simp [own, ne]
    rw [same, State.booking?_of_bookings (s.reportedEnd_bookings b e)]

section Operations

variable {K : Keeping} {s₀ s : State} (h : Shed K s₀ s)
include h

theorem Shed.endBooking {b : Booking} (found : s.booking? b.number = some b) (freed : ¬ K.of b) (e : Ending) :
    Shed K s₀ (s.endBooking b e) := by
  have lifted : Shed K s (s.liftedEnd b) := (Shed.refl s).liftedEnd b
  have frame : s.endBooking b e = { s.liftedEnd b with
      ctx := (s.endBooking b e).ctx, bookings := (s.endBooking b e).bookings, attn := (s.endBooking b e).attn,
      alarms := (s.reportedEnd b e).alarms, held := (s.endBooking b e).held, tx := (s.endBooking b e).tx } := by
    have told := s.reportedEnd_frame b e
    rw [State.endBooking_eq]
    generalize s.reportedEnd b e = t at told
    split <;> (rw [told]; rfl)
  have alarms : (s.reportedEnd b e).alarms = (s.liftedEnd b).alarms := by
    have raised (t : State) (l : Link) (f : Frame) : (t.raise l f).alarms = t.alarms := by
      rcases t.raise_cases l f with ⟨-, e⟩ | ⟨-, e⟩
      · rw [e]
      · rw [e]; rfl
    unfold State.reportedEnd
    extract_lets t r
    rw [raised, State.notify]
    split
    · rfl
    · rw [raised]; rfl
  rw [alarms] at frame
  refine h.trans ⟨?_, fun z none => ?_, fun z d record => ?_, fun n off reset => ?_, fun c mem => ?_,
    fun c keep there => ?_, ((Claims.refl s).endBooking b e).bookings_numbers, fun n own => ?_, fun i calm cleared => ?_, fun n none calm => ?_⟩
  · rw [frame]; exact lifted.live
  · rw [frame]; exact lifted.missing z none
  · rw [frame]; exact lifted.record z d record
  · rw [frame]; exact lifted.lim n off reset
  · have others {c : Booking} (mem : c ∈ (s.reportedEnd b e).bookings) :
        ∃ d ∈ s.bookings, d.number = c.number ∧ d.station = c.station ∧
          (d.Passed c ∨ c.state = .pending ∧ ¬ K.of d) := by
      obtain ⟨d, mem, passed⟩ := State.liftedEnd_origin (s.reportedEnd_bookings b e ▸ mem)
      exact ⟨d, mem, passed.number.symm, by rw [passed.fields], .inl passed⟩
    rw [State.endBooking_eq] at mem
    split at mem
    case h_1 r armed =>
      obtain rfl | ⟨mem, -⟩ := State.mem_putBooking mem
      · exact ⟨b, State.mem_of_booking? found, (State.rearm_number armed).symm,
          (State.rearm_station armed).symm, .inr ⟨State.rearm_state armed, freed⟩⟩
      · exact others mem
    case h_2 => exact others (List.mem_filter.mp mem).1
  · have ne : c.number ≠ b.number := fun same => by
      rw [same, found] at there
      obtain rfl := Option.some.inj there
      exact freed keep
    rw [State.endBooking_booking?_ne s ne]
    exact lifted.stays c keep there
  · have ne : n ≠ b.station := fun same => freed (own b (State.mem_of_booking? found) same.symm)
    have other : (s.endBooking b e).ctx.get n = (s.liftedEnd b).ctx.get n := by
      have told := (s.reportedEnd_frame b e).ctx
      rw [State.endBooking_eq]
      split
      · simp [told, ne]
      · simp [told, ne]
    rw [other]
    exact lifted.ended n own
  · rw [frame]; exact lifted.entries i calm cleared
  · rw [State.Calm, frame]
    refine lifted.calm n (fun z held => none z ?_) calm
    rw [frame]; exact held

/-! ### Stages and clearances (R133, R167) -/

/-- A turn over bookings of the table, where each turn of a booking sheds. -/
theorem Shed.overBookings {f : State → Booking → State}
    (keeps : ∀ {t : State} {b : Booking}, t.booking? b.number = some b → Shed K s₀ t → Shed K s₀ (f t b))
    (sel : Nat → Bool) : Shed K s₀ (s.overBookings sel f) := by
  refine h.foldl (fun {t} num ht => ?_) _
  split
  case h_1 b found => exact keeps (State.number_of_booking? found ▸ found) ht
  case h_2 => exact ht

/-- At SHUTDOWN the bookings in window end (R167). -/
theorem Shed.stageToldBookings (n : Station)
    (may : ∀ {t : State} {b : Booking}, Shed K s₀ t → t.booking? b.number = some b → b.inWindow = true → ¬ K.of b) :
    Shed K s₀ (s.stageToldBookings n .shutdown) := by
  refine h.overBookings (fun {t b} found ht => ?_) _
  have ends (state : b.window?.isSome = true) : Shed K s₀ (t.endBooking b .abortedWind) :=
    ht.endBooking found (may ht found state) _
  cases state : b.state <;> simp only [State.bookingStageTold, state]
  case blocked w => exact ends (by simp [Booking.window?, state])
  case active w => exact ends (by simp [Booking.window?, state])
  all_goals exact ht

theorem Shed.abortForClearance (distinct : s₀.Numbered) (k : Station) (z : Zone)
    (may : ∀ {b : Booking}, b ∈ s.bookings → b.inWindow = true → b.station = k → z ∈ b.zones → ¬ K.of b) :
    Shed K s₀ (s.abortForClearance k z) := by
  unfold State.abortForClearance
  split
  case h_1 b found =>
    have mem := List.mem_of_find?_eq_some found
    obtain ⟨⟨station, window⟩, named⟩ : (b.station = k ∧ b.inWindow = true) ∧ z ∈ b.zones := by
      simpa using List.find?_some found
    exact h.endBooking ((h.numbered distinct).booking? mem) (may mem window station named) _
  case h_2 => exact h

theorem Shed.requestClearance (distinct : s₀.Numbered) (v : Station) (zh : Zone × Station)
    (may : ∀ {b : Booking}, b ∈ s.bookings → b.inWindow = true → b.station = zh.2 → zh.1 ∈ b.zones → ¬ K.of b) :
    Shed K s₀ (State.requestClearance v s zh) := (h.abortForClearance distinct _ _ may).notify _ _

end Operations

/-- Bookings that shedding work ends when it ends those in window. -/
structure EndsWindows (K : Keeping) (s₀ : State) : Prop where
  distinct : s₀.Numbered
  may : ∀ {t : State} {b : Booking}, Shed K s₀ t → b ∈ t.bookings → b.inWindow = true → ¬ K.of b

section Operations

variable {K : Keeping} {s₀ s : State} (h : Shed K s₀ s) (w : EndsWindows K s₀)
include h w

theorem Shed.neighboursAsked (v : Station) : Shed K s₀ (s.neighboursAsked v) :=
  h.foldl (fun zh h => h.requestClearance w.distinct v zh fun mem window _ _ => w.may h mem window) _

theorem Shed.clearNeighbours (v : Station) : Shed K s₀ (s.clearNeighbours v) :=
  (((h.neighboursAsked w v).setVane v _).overdueEnds v).judgeClear v

theorem Shed.judgeSequence (v : Station) : Shed K s₀ (s.judgeSequence v) := by
  have ends : Shed K s₀ (s.endSequence v) := ((h.setVane v _).overdueEnds v).serveMemberZones v
  unfold State.judgeSequence
  split
  · exact .ite ((h.setVane v _).clearNeighbours w v) h
  · exact .ite h ends
  · exact .ite h ends
  · exact h

/-- The turn of one station at SHUTDOWN (R124, R131, R167). -/
theorem Shed.shutdown (n : Station) (first : Bool) : Shed K s₀ (s.changeStage n .shutdown first) := by
  have set : Shed K s₀ ((s.setWind n { s.wind.get n with stage := .shutdown }).notify n
    (.wind .shutdown (s.wind.get n).stage)) := (h.setWind n _).notify n _
  have told {t : State} (ht : Shed K s₀ t) : Shed K s₀ (t.stageToldBookings n .shutdown) :=
    ht.stageToldBookings n fun ht found window => w.may ht (State.mem_of_booking? found) window
  exact .ite h (.ite ((told set).judgeSequence w n) (told (set.judgeSequence w n)))

/-! ### The parts of a commit (R127, R143, R174) -/

theorem Shed.commitWind (disabled enabled : List Station) (k : Nat) :
    Shed K s₀ (s.commitWind disabled enabled k) := by
  unfold State.commitWind
  extract_lets blanked
  have blankedShed : Shed K s₀ blanked := h.foldl (f := fun s n => s.setWind n .reset) (fun n h => h.setWind n _) _
  exact .ite (blankedShed.foldl (fun n h => h.shutdown w n _) _) blankedShed

theorem Shed.commitVane (n : Station) : Shed K s₀ (s.commitVane n) := by
  unfold State.commitVane
  extract_lets judged c
  have judgedShed : Shed K s₀ judged := (h.judgeSequence w n).judgeClear n
  exact .ite (judgedShed.setVane n _) judgedShed

theorem Shed.commitShutdown (disabled : List Station) (k : Nat) : Shed K s₀ (s.commitShutdown disabled k) :=
  (h.foldl (f := fun s n => s.setVane n .reset) (fun n h => h.setVane n _) disabled).foldl
    (fun n h => h.commitVane w n) _

end Operations

section Operations

variable {K : Keeping} {s₀ s : State} (h : Shed K s₀ s)
include h

theorem Shed.commitBookings
    (may : ∀ {t : State} {b : Booking}, Shed K s₀ t → t.booking? b.number = some b → t.bookingStranded b = true → ¬ K.of b) :
    Shed K s₀ s.commitBookings := by
  refine h.overBookings (fun {t b} found ht => ?_) _
  by_cases stranded : t.bookingStranded b = true
  · rw [if_pos stranded]
    exact ht.endBooking found (may ht found stranded) _
  · rw [if_neg stranded]
    exact ht

/-- v_wind of an enabled station is set, or the limits of another are reset (R82, R85). -/
theorem Shed.setVWind (n : Station) (v : Nat) (on : (s.station n).enabled = true ∨ v = 0) :
    Shed K s₀ (s.setVWind n v) := by
  have set : Shed K s₀ (s.setLim n { s.lim.get n with vWind := v }) := by
    refine h.trans (.write (lim := fun m off reset => ?_))
    by_cases same : m = n
    · subst same
      rcases on with on | zero
      · rw [on] at off; cases off
      · simp [reset, zero, LimitCtx.reset]
    · simpa [same] using reset
  exact .ite set ((set.reevalPermit n).judgeClear n)

theorem Shed.commitSpeed (disabled : List Station) (n : Station) : Shed K s₀ (State.commitSpeed disabled s n) := by
  unfold State.commitSpeed
  split
  · refine (h.setVWind n 0 (.inr rfl)).trans (.write (lim := fun m _ reset => ?_))
    by_cases same : m = n
    · subst same; simp
    · simpa [same] using reset
  · split
    case isTrue slower => exact h.setVWind n _ (.inl slower.2)
    case isFalse => exact h

theorem Shed.commitLimits (disabled : List Station) : Shed K s₀ (s.commitLimits disabled) :=
  (h.foldl (fun n h => h.commitSpeed disabled n) Station.all).foldl (fun n h => h.recompute n) _

theorem Shed.reevalPermits : Shed K s₀ (Station.all.foldl State.reevalPermit s) :=
  h.foldl (fun n h => h.reevalPermit n) _

end Operations

end Sys2Proof.Machine
end

section
/-! What a commit leaves of the zones, the stations and the bookings (R12, R13). -/

namespace Sys2Proof.Machine

open Sys2Proof.Safety

/-! ### Work beside the wind fields and v_wind -/

/-- Work on the zones and the bookings beside the wind fields and the limits. -/
def LimitWork (s t : State) : Prop :=
  t = { s with ctx := t.ctx, arb := t.arb, zones := t.zones, lim := t.lim, wind := t.wind, vane := t.vane,
               bookings := t.bookings, alarms := t.alarms, attn := t.attn,
               handling := t.handling, held := t.held, tx := t.tx, rx := t.rx } ∧
  ∀ m, t.ctx.get m = { s.ctx.get m with mp := (t.ctx.get m).mp, lastEnded := (t.ctx.get m).lastEnded }

theorem LimitWork.refl (s : State) : LimitWork s s := ⟨rfl, fun _ => rfl⟩

theorem LimitWork.trans {s t u : State} (h : LimitWork s t) (k : LimitWork t u) : LimitWork s u := by
  obtain ⟨first, firstCtx⟩ := h
  obtain ⟨second, secondCtx⟩ := k
  refine ⟨?_, fun m => by rw [secondCtx m, firstCtx m]⟩
  calc u = { t with ctx := u.ctx, arb := u.arb, zones := u.zones, lim := u.lim, wind := u.wind, vane := u.vane,
                    bookings := u.bookings, alarms := u.alarms, attn := u.attn,
                    handling := u.handling, held := u.held, tx := u.tx, rx := u.rx } := second
    _ = { s with ctx := u.ctx, arb := u.arb, zones := u.zones, lim := u.lim, wind := u.wind, vane := u.vane,
                 bookings := u.bookings, alarms := u.alarms, attn := u.attn,
                 handling := u.handling, held := u.held, tx := u.tx, rx := u.rx } := by rw [first]

theorem LimitWork.foldl {β : Type} {f : State → β → State} (h : ∀ s n, LimitWork s (f s n)) (s : State)
    (ns : List β) : LimitWork s (ns.foldl f s) := foldl_related .refl .trans h s ns

theorem WindWork.limits {s t : State} (h : WindWork s t) : LimitWork s t := by
  obtain ⟨frame, kept⟩ := h
  exact ⟨by rw [frame], fun m => (kept m).1⟩

theorem LimitWork.of_zoneWork {s t : State} (h : zoneWork s t) : LimitWork s t := by
  obtain ⟨frame, kept⟩ := h
  exact ⟨by rw [frame], fun m => (kept m).1⟩

theorem LimitWork.setVWind (s : State) (n : Station) (v : Nat) : LimitWork s (s.setVWind n v) := by
  have set : LimitWork s (s.setLim n { s.lim.get n with vWind := v }) := ⟨rfl, fun _ => rfl⟩
  unfold State.setVWind
  extract_lets l t
  split
  · exact set
  · exact set.trans ((of_zoneWork (zoneWork_of_holderWork (holderWork_reevalPermit t n))).trans
      (of_zoneWork (zoneWork_of_holderWork (holderWork_judgeClear _ n))))

theorem LimitWork.commitSpeed (disabled : List Station) (s : State) (n : Station) :
    LimitWork s (State.commitSpeed disabled s n) := by
  unfold State.commitSpeed
  split
  · exact (LimitWork.setVWind s n 0).trans ⟨rfl, fun _ => rfl⟩
  · split
    · exact .setVWind s n _
    · exact .refl s

/-! ### The parts of a commit, one by one -/

theorem zoneWork_recompute (s : State) (n : Station) : zoneWork s (s.recompute n) :=
  zoneWork_of_holderWork (holderWork_recompute s n)

theorem zoneWork_reevalPermit (s : State) (n : Station) : zoneWork s (s.reevalPermit n) :=
  zoneWork_of_holderWork (holderWork_reevalPermit s n)

/-- The Booking Engine's part of a commit is work on claims (R174). -/
theorem Claims.commitBookings (s : State) : Claims s s.commitBookings :=
  (Claims.refl s).overBookings (fun b h => .ite (h.endBooking b _) h) _

/-- The Shutdown Unit's turn of one station (R143). -/
theorem zoneWork_commitVane (s : State) (n : Station) : zoneWork s (s.commitVane n) := by
  unfold State.commitVane
  extract_lets judged c
  have told : zoneWork s judged :=
    zoneWork_trans (zoneWork_judgeSequence s n) (zoneWork_of_holderWork (holderWork_judgeClear _ n))
  split
  · exact zoneWork_trans told (zoneWork_of_holderWork (holderWork_setVane _ _ _))
  · exact told

theorem TurnKept.commitVane (s : State) (n : Station) : TurnKept n s (s.commitVane n) := by
  unfold State.commitVane
  extract_lets judged c
  have told : TurnKept n s judged := (TurnKept.judgeSequence s n).trans (ClaimsKept.judgeClear _ n).turn
  split
  · exact told.trans (.setVane _ n _)
  · exact told

section
variable {s : State} {n : Station}

/-- A station that a commit disables loses its wind fields and keeps them so (R127). -/
theorem State.commitWind_wind {disabled enabled : List Station} (mem : n ∈ disabled) (out : n ∉ enabled) (k : Nat) :
    (s.commitWind disabled enabled k).wind.get n = .reset := by
  unfold State.commitWind
  extract_lets blanked
  have blank : blanked.wind.get n = .reset := by
    refine foldl_establishes (f := fun s n => s.setWind n .reset) (I := fun _ => True)
      (P := fun t => t.wind.get n = .reset) (fun _ _ _ => trivial) (fun t _ => by simp)
      (fun t m ne _ reset => by simpa [ne.symm] using reset) (List.mem_append_left enabled mem) trivial
  split
  · have turns (ns : List Station) (fresh : n ∉ ns) (t : State) :
        (ns.foldl (fun s n => s.changeStage n .shutdown (bookingFirst k n)) t).wind.get n = t.wind.get n := by
      induction ns generalizing t with
      | nil => rfl
      | cons m ns ih =>
        rw [List.foldl_cons, ih (fun mem => fresh (List.mem_cons_of_mem _ mem))]
        exact (StageKept.changeStage t m _ _).wind n fun same => fresh (same ▸ List.mem_cons_self ..)
    rw [turns _ (fun mem => out (by simpa using (List.mem_filter.mp mem).2)), blank]
  · exact blank

/-- The limits of a station that a commit disables are reset (R85). -/
theorem State.commitSpeed_reset {disabled : List Station} (mem : n ∈ disabled) :
    (State.commitSpeed disabled s n).lim.get n = .reset := by
  rw [State.commitSpeed, if_pos (by simpa using mem)]
  simp

theorem State.setVWind_vWind_ne {m : Station} (ne : m ≠ n) (v : Nat) :
    ((s.setVWind m v).lim.get n).vWind = (s.lim.get n).vWind := by
  unfold State.setVWind
  extract_lets l t
  have set : (t.lim.get n).vWind = (s.lim.get n).vWind := by simp [t, ne.symm]
  split
  · exact set
  · exact ((holderWork_trans (holderWork_reevalPermit t m) (holderWork_judgeClear _ m)).2 n).2.trans set

/-- The speed a commit leaves an enabled station (R82, R87). -/
theorem State.commitSpeed_vWind {disabled : List Station} (out : n ∉ disabled) (on : (s.station n).enabled = true) :
    ((State.commitSpeed disabled s n).lim.get n).vWind = min (s.lim.get n).vWind (s.station n).vRated := by
  rw [State.commitSpeed, if_neg (by simpa using out)]
  by_cases slower : (s.station n).vRated < (s.lim.get n).vWind
  · rw [if_pos ⟨slower, on⟩, State.setVWind_vWind]
    omega
  · rw [if_neg (fun both => slower both.1)]
    omega

theorem State.commitSpeed_vWind_ne {disabled : List Station} {m : Station} (ne : m ≠ n) :
    ((State.commitSpeed disabled s m).lim.get n).vWind = (s.lim.get n).vWind := by
  unfold State.commitSpeed
  split
  · simp [ne.symm, State.setVWind_vWind_ne ne]
  · split
    · exact State.setVWind_vWind_ne ne _
    · rfl

theorem State.commitSpeed_station (disabled : List Station) (s : State) (m n : Station) :
    (State.commitSpeed disabled s m).station n = s.station n := by
  rw [State.station, (LimitWork.commitSpeed disabled s m).1]
  rfl

theorem State.recomputes_vWind (s : State) (ns : List Station) (n : Station) :
    ((ns.foldl State.recompute s).lim.get n).vWind = (s.lim.get n).vWind :=
  ((foldl_related zoneWork_refl zoneWork_trans zoneWork_recompute s ns).2 n).2

theorem State.commitLimits_vWind {disabled : List Station} (out : n ∉ disabled) (on : (s.station n).enabled = true) :
    ((s.commitLimits disabled).lim.get n).vWind = min (s.lim.get n).vWind (s.station n).vRated := by
  unfold State.commitLimits
  extract_lets t
  rw [State.recomputes_vWind]
  refine foldl_establishes (f := State.commitSpeed disabled)
    (I := fun t => t.station n = s.station n ∧ ((t.lim.get n).vWind = (s.lim.get n).vWind ∨
      (t.lim.get n).vWind = min (s.lim.get n).vWind (s.station n).vRated))
    (P := fun t => (t.lim.get n).vWind = min (s.lim.get n).vWind (s.station n).vRated)
    (fun t m told => ?_) (fun t told => ?_) (fun t m ne told bound => ?_) (Station.mem_all n) ⟨rfl, .inl rfl⟩
  · obtain ⟨same, speed⟩ := told
    refine ⟨by rw [State.commitSpeed_station, same], ?_⟩
    by_cases own : m = n
    · subst own
      right
      rw [State.commitSpeed_vWind out (by rw [same, on]), same]
      omega
    · rwa [State.commitSpeed_vWind_ne own]
  · obtain ⟨same, speed⟩ := told
    rw [State.commitSpeed_vWind out (by rw [same, on]), same]
    omega
  · rw [State.commitSpeed_vWind_ne ne, bound]

theorem State.commitLimits_reset {disabled : List Station} (mem : n ∈ disabled) (off : (s.station n).enabled = false) :
    (s.commitLimits disabled).lim.get n = .reset := by
  unfold State.commitLimits
  extract_lets t
  have reset : (t.station n).enabled = false ∧ t.lim.get n = .reset := by
    refine foldl_establishes (f := State.commitSpeed disabled) (I := fun t => (t.station n).enabled = false)
      (P := fun t => (t.station n).enabled = false ∧ t.lim.get n = .reset) (fun t m off => ?_) (fun t off => ?_)
      (fun t m ne off reset => ?_) (Station.mem_all n) off
    · rw [State.commitSpeed_station]; exact off
    · exact ⟨by rw [State.commitSpeed_station]; exact off, State.commitSpeed_reset mem⟩
    · exact ⟨by rw [State.commitSpeed_station]; exact off,
        ((Shed.refl (K := ⟨fun _ => False, fun _ => id⟩) t).commitSpeed disabled m).lim n off reset.2⟩
  exact ((Shed.refl (K := ⟨fun _ => False, fun _ => id⟩) t).foldl (fun m h => h.recompute m) _).lim n reset.1 reset.2

/-- The vane context of a station that a commit disables is reset (R143). -/
theorem State.commitShutdown_vane {disabled : List Station} (mem : n ∈ disabled)
    (off : (s.station n).enabled = false) (k : Nat) : (s.commitShutdown disabled k).vane.get n = .reset := by
  unfold State.commitShutdown
  extract_lets t
  have reset : t.vane.get n = .reset := by
    refine foldl_establishes (f := fun s n => s.setVane n .reset) (I := fun _ => True)
      (P := fun t => t.vane.get n = .reset) (fun _ _ _ => trivial) (fun t _ => by simp)
      (fun t m ne _ reset => by simpa [ne.symm] using reset) mem trivial
  have plan : t.plan = s.plan :=
    foldl_related (R := fun s t : State => t.plan = s.plan) (fun _ => rfl) (fun h k => k.trans h)
      (f := fun s n => s.setVane n .reset) (fun _ _ => rfl) s disabled
  have turns (ns : List Station) (fresh : n ∉ ns) (t : State) (reset : t.vane.get n = .reset) :
      (ns.foldl State.commitVane t).vane.get n = .reset := by
    induction ns generalizing t with
    | nil => exact reset
    | cons m ns ih =>
      refine ih (fun mem => fresh (List.mem_cons_of_mem _ mem)) _ ?_
      rw [((TurnKept.commitVane t m).others n fun same => fresh (same ▸ List.mem_cons_self ..)).of_braked
        (by rw [reset]; rfl), reset]
  refine turns _ (fun mem => ?_) t reset
  have on : (t.station n).enabled = true := by simpa using (List.mem_filter.mp mem).2
  rw [State.station, plan] at on
  rw [State.station] at off
  rw [off] at on
  cases on

end

end Sys2Proof.Machine
end

section
/-! A commit that takes effect, from the zones created afresh to the permits (R12). -/

namespace Sys2Proof.Machine

open Sys2Proof.Safety

/-- Nothing is kept. -/
def Keeping.nothing : Keeping := ⟨fun _ => False, fun _ => id⟩

/-! ### The disabled stations before the blocks are told (R41, R191) -/

theorem State.foldl_setEntry_get (is : List AlarmId) (e : Entry) (s : State) (j : AlarmId) :
    (is.foldl (fun s i => s.setEntry i e) s).alarms.get j = if j ∈ is then e else s.alarms.get j := by
  induction is generalizing s with
  | nil => simp
  | cons i is ih =>
    rw [List.foldl_cons, ih]
    by_cases later : j ∈ is
    · simp [later]
    · have entered : (s.setEntry i e).alarms.get j = if j = i then e else s.alarms.get j := AlarmTable.get_set _ i j _
      rw [if_neg later, entered]
      simp [later]

/-- The six entries of a station (R185). -/
def entriesOf (n : Station) : List AlarmId :=
  [.unsafeVane n, .intrusion n, .conflict n, .clearanceOverdue n, .windLost n, .linkStale n]

theorem State.commitStation_get (s : State) (n : Station) (i : AlarmId) :
    (s.commitStation n).alarms.get i = if i ∈ (entriesOf n) then .cleared else s.alarms.get i :=
  State.foldl_setEntry_get (entriesOf n) .cleared (s.setCtx n (s.ctx.get n).disable) i

theorem State.commitStation_ctx (s : State) (n m : Station) :
    (s.commitStation n).ctx.get m = if m = n then (s.ctx.get m).disable else s.ctx.get m := by
  change ((s.ctx.set n (s.ctx.get n).disable).get m) = _
  by_cases same : m = n
  · subst same; simp
  · simp [same]

/-- A station that a commit has disabled: its context and its entries are reset. -/
structure State.Disabled (s : State) (n : Station) : Prop where
  position : (s.ctx.get n).position = none
  rise : (s.ctx.get n).rise = none
  profile : (s.ctx.get n).profile = none
  entries : ∀ i ∈ (entriesOf n), s.alarms.get i = .cleared

theorem State.commitStation_disabled (s : State) (n : Station) : (s.commitStation n).Disabled n := by
  refine ⟨?_, ?_, ?_, fun i mem => by rw [State.commitStation_get, if_pos mem]⟩ <;>
    rw [State.commitStation_ctx, if_pos rfl] <;> rfl

theorem State.Disabled.commitStation {s : State} {n : Station} (h : s.Disabled n) (m : Station) :
    (s.commitStation m).Disabled n := by
  by_cases same : n = m
  · subst same
    exact s.commitStation_disabled n
  · have ctx : (s.commitStation m).ctx.get n = s.ctx.get n := by rw [State.commitStation_ctx, if_neg same]
    refine ⟨by rw [ctx, h.position], by rw [ctx, h.rise], by rw [ctx, h.profile], fun i mem => ?_⟩
    rw [State.commitStation_get]
    split
    · rfl
    · exact h.entries i mem

section
variable (s : State)

/-- The zones that a commit changes are written after the contexts. -/
theorem State.committedZones_kept : s.committedZones =
    { s.disabledByStaged.foldl State.commitStation s.replaceLive with zones := s.committedZones.zones } :=
  foldl_related (R := fun s t : State => t = { s with zones := t.zones }) (fun _ => rfl)
    (fun {s t u} h k => by
      calc u = { t with zones := u.zones } := k
        _ = { s with zones := u.zones } := by rw [h])
    (f := State.recreateZone) (fun _ _ => rfl) _ _

theorem State.committedZones_disabled {n : Station} (mem : n ∈ s.disabledByStaged) : s.committedZones.Disabled n := by
  have disabled : (s.disabledByStaged.foldl State.commitStation s.replaceLive).Disabled n :=
    foldl_establishes (f := State.commitStation) (I := fun _ => True) (P := fun t => t.Disabled n)
      (fun _ _ _ => trivial) (fun t _ => t.commitStation_disabled n)
      (fun t m _ _ told => told.commitStation m) mem trivial
  have kept := s.committedZones_kept
  generalize s.disabledByStaged.foldl State.commitStation s.replaceLive = t at disabled kept
  obtain ⟨position, rise, profile, entries⟩ := disabled
  refine ⟨?_, ?_, ?_, fun i mem => ?_⟩ <;> rw [kept]
  exacts [position, rise, profile, entries i mem]

theorem State.committedZones_lastEnded (n : Station) :
    (s.committedZones.ctx.get n).lastEnded = (s.ctx.get n).lastEnded := by
  have stations : ((s.disabledByStaged.foldl State.commitStation s.replaceLive).ctx.get n).lastEnded =
      (s.ctx.get n).lastEnded :=
    foldl_related (R := fun s t : State => (t.ctx.get n).lastEnded = (s.ctx.get n).lastEnded) (fun _ => rfl)
      (fun h k => k.trans h) (fun t m => by rw [State.commitStation_ctx]; split <;> rfl) s.replaceLive _
  have kept := s.committedZones_kept
  generalize s.disabledByStaged.foldl State.commitStation s.replaceLive = t at stations kept
  rw [kept]
  exact stations

/-- The state in which the Zone Arbiter has reset the disabled stations' latches (R69). -/
def State.committedLatches : State := s.disabledByStaged.foldl (fun s n => s.setArb n .reset) s.committedZones

theorem State.committedLatches_frame : s.committedLatches = { s.committedZones with arb := s.committedLatches.arb } :=
  foldl_related (R := fun s t : State => t = { s with arb := t.arb }) (fun _ => rfl)
    (fun {s t u} h k => by
      calc u = { t with arb := u.arb } := k
        _ = { s with arb := u.arb } := by rw [h])
    (f := fun s n => s.setArb n .reset) (fun _ _ => rfl) _ _

theorem State.committedLatches_calm {n : Station} (mem : n ∈ s.disabledByStaged) : s.committedLatches.Calm n := by
  have arb : (s.committedLatches.arb.get n).conflict = false :=
    foldl_establishes (f := fun s n => s.setArb n .reset) (I := fun _ => True)
      (P := fun t : State => (t.arb.get n).conflict = false) (fun _ _ _ => trivial) (fun t _ => by simp; rfl)
      (fun t m ne _ reset => by simpa [ne.symm] using reset) mem trivial
  refine ⟨arb, ?_⟩
  rw [s.committedLatches_frame]
  exact (s.committedZones_disabled mem).entries _ (by simp [entriesOf])

/-- The state in which the Booking Engine and the Wind Stage Unit are told of a commit. -/
def State.committedArbiter : State := Station.all.foldl State.reevalConflict s.committedLatches

theorem State.committedStages_eq (k : Nat) : s.committedStages k =
    s.committedArbiter.commitBoth s.disabledByStaged s.enabledByStaged k := rfl

/-! ### Shedding work to the end of a commit -/

variable {s}

theorem Shed.committedArbiter {K : Keeping} : Shed K s.committedLatches s.committedArbiter :=
  (Shed.refl _).foldl (fun n h => h.reevalConflict n) _

/-- What follows the telling of the stages sheds. -/
theorem Shed.commitRest {K : Keeping} {s₀ : State} {k : Nat} (h : Shed K s₀ (s.committedStages k))
    (w : EndsWindows K s₀) : Shed K s₀ (s.commitEffect k) := by
  rw [State.commitEffect_eq]
  exact ((h.commitLimits _).commitShutdown w _ k).reevalPermits

/-- A commit sheds from the reset of the latches on. -/
theorem Shed.commitEffect (distinct : s.committedLatches.Numbered) (k : Nat) :
    Shed .nothing s.committedLatches (s.commitEffect k) := by
  have w : EndsWindows .nothing s.committedLatches := ⟨distinct, fun _ _ _ => id⟩
  have stages : Shed .nothing s.committedLatches (s.committedStages k) := by
    rw [State.committedStages_eq, State.commitBoth]
    exact .ite ((Shed.committedArbiter.commitBookings fun _ _ _ => id).commitWind w _ _ k)
      ((Shed.committedArbiter.commitWind w _ _ k).commitBookings fun _ _ _ => id)
  exact stages.commitRest w

theorem LimitWork.committedLatches : LimitWork s.committedZones s.committedLatches :=
  LimitWork.foldl (f := fun s n => s.setArb n .reset) (fun _ _ => ⟨rfl, fun _ => rfl⟩) _ _

theorem WindWork.of_zoneWork {s t : State} (h : zoneWork s t) : WindWork s t := by
  rw [WindWork, wind_of_zoneWork h]
  exact h

theorem WindWork.folds {β : Type} {f : State → β → State} (h : ∀ s n, WindWork s (f s n)) (s : State)
    (ns : List β) : WindWork s (ns.foldl f s) := foldl_related .refl .trans h s ns

theorem WindWork.commitWind (s : State) (disabled enabled : List Station) (k : Nat) :
    WindWork s (s.commitWind disabled enabled k) := by
  have blanked : WindWork s ((disabled ++ enabled).foldl (fun s n => s.setWind n .reset) s) :=
    .folds (f := fun s n => s.setWind n .reset) (fun t n => (StageKept.setWind t n _).work) _ _
  unfold State.commitWind
  extract_lets t
  split
  · exact blanked.trans (.folds (fun t n => (StageKept.changeStage t n _ _).work) _ _)
  · exact blanked

theorem WindWork.committedStages (s : State) (k : Nat) : WindWork s.committedZones (s.committedStages k) := by
  have latches : WindWork s.committedZones s.committedLatches :=
    .folds (f := fun s n => s.setArb n .reset) (fun t n => .of_zoneWork (zoneWork_of_holderWork (holderWork_setArb t n _)))
      _ _
  have arbiter : WindWork s.committedLatches s.committedArbiter :=
    .folds (fun t n => .of_zoneWork (zoneWork_of_holderWork (holderWork_reevalConflict t n))) _ _
  have bookings (t : State) : WindWork t t.commitBookings := .of_zoneWork (Claims.commitBookings t).zoneWork
  refine (latches.trans arbiter).trans ?_
  rw [State.committedStages_eq, State.commitBoth]
  split
  · exact (bookings _).trans (.commitWind _ _ _ k)
  · exact (WindWork.commitWind _ _ _ k).trans (bookings _)

theorem LimitWork.commitLimits (s : State) (disabled : List Station) : LimitWork s (s.commitLimits disabled) :=
  (LimitWork.foldl (LimitWork.commitSpeed disabled) s Station.all).trans
    (.foldl (fun t n => .of_zoneWork (zoneWork_recompute t n)) _ _)

/-- The Shutdown Unit and the permits come last. -/
theorem zoneWork_committedShutdown (s : State) (k : Nat) :
    zoneWork ((s.committedStages k).commitLimits s.disabledByStaged) (s.commitEffect k) := by
  rw [State.commitEffect_eq]
  exact zoneWork_trans (zoneWork_trans
    (foldl_related zoneWork_refl zoneWork_trans (f := fun s n => s.setVane n .reset)
      (fun t n => zoneWork_of_holderWork (holderWork_setVane t n _)) _ _)
    (foldl_related zoneWork_refl zoneWork_trans zoneWork_commitVane _ _))
    (foldl_related zoneWork_refl zoneWork_trans zoneWork_reevalPermit _ _)

theorem LimitWork.commitEffect (s : State) (k : Nat) : LimitWork s.committedZones (s.commitEffect k) :=
  ((WindWork.committedStages s k).limits.trans (.commitLimits _ _)).trans (.of_zoneWork (zoneWork_committedShutdown s k))

end

end Sys2Proof.Machine
end

section
/-! The bookings a commit strands (R13, R174), and O25 and O26. -/

namespace Sys2Proof.Machine

open Sys2Proof.Safety

theorem Booking.Passed.of_pending {b c : Booking} (h : b.Passed c) (pending : b.state = .pending) : c = b := by
  obtain same | ⟨w, -, opened, -⟩ := h.state
  · rw [h.fields, same]
  · simp [Booking.window?, pending] at opened

/-- The bookings with a number are kept. -/
def Keeping.numbered (num : Nat) : Keeping := ⟨fun b => b.number = num, fun h own => h.number.trans own⟩

/-- The bookings of a station are kept. -/
def Keeping.station (n : Station) : Keeping :=
  ⟨fun b => b.station = n, fun h own => by rw [h.fields]; exact own⟩

/-- The PENDING booking with a number is kept. -/
def Keeping.pending (num : Nat) : Keeping :=
  ⟨fun b => b.number = num ∧ b.state = .pending, fun h own => by rw [h.of_pending own.2]; exact own⟩

/-- A turn of R174. -/
def State.commitBooking (s : State) (b : Booking) : State :=
  if s.bookingStranded b then s.endBooking b .cancelledPlan else s

theorem State.commitBookings_eq (s : State) : s.commitBookings = s.overBookings (fun _ => true) State.commitBooking := rfl

section
variable {K : Keeping} {s t : State}

/-- Turns of R174 shed. -/
theorem Shed.commitNumbers (nums : List Nat)
    (may : ∀ {t : State} {b : Booking}, Shed K s t → t.booking? b.number = some b → b.number ∈ nums → ¬ K.of b) :
    Shed K s (nums.foldl (State.stepNumber State.commitBooking) s) := by
  have fold (ks : List Nat) (within : ∀ k ∈ ks, k ∈ nums) (t : State) (ht : Shed K s t) :
      Shed K s (ks.foldl (State.stepNumber State.commitBooking) t) := by
    induction ks generalizing t with
    | nil => exact ht
    | cons k ks ih =>
      refine ih (fun j mem => within j (List.mem_cons_of_mem _ mem)) _ ?_
      unfold State.stepNumber
      split
      case h_1 b found =>
        have own := State.number_of_booking? found
        rw [← own] at found
        refine Shed.ite (ht.endBooking found (may ht found ?_) _) ht
        rw [own]
        exact within k (List.mem_cons_self ..)
      case h_2 => exact ht
  exact fold nums (fun _ => id) s (.refl s)

theorem Shed.bookingStranded (h : Shed K s t) (b : Booking) : t.bookingStranded b = s.bookingStranded b := by
  rw [State.bookingStranded, State.bookingStranded]
  simp only [State.station, State.zone, State.isMember, State.member, h.live]

theorem Shed.no_station (h : Shed K s t) {n : Station} (none : ∀ b ∈ s.bookings, b.station ≠ n) :
    ∀ b ∈ t.bookings, b.station ≠ n := fun c mem => by
  obtain ⟨b, mem, -, station, -⟩ := h.origin c mem
  exact station ▸ none b mem

/-- A station without bookings keeps its last ended booking (R38). -/
theorem EndsWindows.of_no_station (distinct : s.Numbered) {n : Station} (none : ∀ b ∈ s.bookings, b.station ≠ n) :
    EndsWindows (.station n) s := ⟨distinct, fun h mem _ own => h.no_station none _ mem own⟩

/-- The booking with a number has ended with an outcome, and its station has no other. -/
structure State.EndedAlone (s : State) (b : Booking) (e : Ending) : Prop where
  outcome : (s.ctx.get b.station).lastEnded = some ⟨b.number, e⟩
  none : ∀ c ∈ s.bookings, c.station ≠ b.station

theorem State.EndedAlone.shed {b : Booking} {e : Ending} (h : s.EndedAlone b e) (k : Shed (.station b.station) s t) :
    t.EndedAlone b e :=
  ⟨(k.ended _ fun _ _ own => own).trans h.outcome, k.no_station h.none⟩

/-- The end of a stranded booking in the turns of R174. -/
theorem State.commitBookings_ends {b : Booking} (found : s.booking? b.number = some b)
    (stranded : s.bookingStranded b = true) :
    s.commitBookings.booking? b.number = none ∧
      ((∀ c ∈ s.bookings, c.number ≠ b.number → c.station ≠ b.station) →
        s.commitBookings.EndedAlone b .cancelledPlan) := by
  have pending : b.state = .pending := by
    have := (Bool.and_eq_true _ _ ▸ (show _ = true from stranded)).1
    simpa using this
  have own : b.number ∈ (s.bookings.map (·.number)).filter fun _ => true :=
    List.mem_filter.mpr ⟨List.mem_map.mpr ⟨b, State.mem_of_booking? found, rfl⟩, rfl⟩
  rw [State.commitBookings_eq, State.overBookings_eq]
  obtain ⟨first, rest, split, fresh⟩ := List.eq_append_cons_of_mem own
  rw [split, List.foldl_append, List.foldl_cons]
  have before : Shed (.numbered b.number) s (first.foldl (State.stepNumber State.commitBooking) s) :=
    .commitNumbers first fun _ _ mem same => fresh (same ▸ mem)
  generalize first.foldl (State.stepNumber State.commitBooking) s = u at before
  obtain ⟨c, there, passed⟩ := before.stays b rfl found
  rw [passed.of_pending pending] at there
  have turn : State.stepNumber State.commitBooking u b.number = u.endBooking b .cancelledPlan := by
    simp only [State.stepNumber, there, State.commitBooking, before.bookingStranded, stranded, if_true]
  obtain ⟨gone, outcome, -⟩ := State.endBooking_ended (s := u) (b := b) (e := .cancelledPlan) rfl
  have ends : Shed .nothing u (u.endBooking b .cancelledPlan) := (Shed.refl u).endBooking there id _
  rw [turn]
  generalize u.endBooking b .cancelledPlan = v at gone outcome ends
  refine ⟨(Shed.commitNumbers (K := .nothing) rest fun _ _ _ => id).booking?_none gone, fun alone => ?_⟩
  have none : ∀ c ∈ v.bookings, c.station ≠ b.station := fun c mem => by
    obtain ⟨d, mem', number, station, -⟩ := ends.origin c mem
    obtain ⟨a, mem', number', station', -⟩ := before.origin d mem'
    rw [← station, ← station']
    refine alone a mem' fun same => ?_
    have isSome : (v.booking? b.number).isSome = true :=
      State.booking?_isSome.mpr (List.mem_map.mpr ⟨c, mem, (number'.trans number).symm.trans same⟩)
    rw [gone] at isSome
    cases isSome
  exact State.EndedAlone.shed ⟨outcome, none⟩ (.commitNumbers rest fun ht there _ own =>
    ht.no_station none _ (State.mem_of_booking? there) own)

end

/-! ### The whole commit -/

section
variable {s : State} {k : Nat} {b : Booking}

theorem State.committedLatches_bookings (s : State) : s.committedLatches.bookings = s.bookings := by
  rw [s.committedLatches_frame, (CommitFrame.committedZones s).frame]

theorem State.committedLatches_numbered (kept : bookingTableKept s = true) : s.committedLatches.Numbered := by
  rw [State.Numbered, s.committedLatches_bookings]
  exact State.Numbered.of_kept kept

theorem State.committedLatches_live (s : State) : s.committedLatches.plan.live = s.plan.staged := by
  rw [s.committedLatches_frame]
  exact s.committedZones_live

/-- A PENDING booking that the staged plan strands ends CANCELLED(PLAN) (R13, R174). -/
theorem State.commitEffect_strands (kept : bookingTableKept s = true) (found : s.booking? b.number = some b)
    (stranded : s.committedLatches.bookingStranded b = true) :
    (s.commitEffect k).booking? b.number = none ∧
      ((∀ c ∈ s.bookings, c ≠ b → c.station ≠ b.station) →
        ((s.commitEffect k).ctx.get b.station).lastEnded = some ⟨b.number, .cancelledPlan⟩) := by
  have distinct := State.committedLatches_numbered kept
  have pending : b.state = .pending := by
    have := (Bool.and_eq_true _ _ ▸ (show _ = true from stranded)).1
    simpa using this
  have w : EndsWindows (.pending b.number) s.committedLatches :=
    ⟨distinct, fun _ _ window own => by simp [Booking.inWindow, Booking.window?, own.2] at window⟩
  have arbiter : Shed (.pending b.number) s.committedLatches s.committedArbiter := .committedArbiter
  have here : s.committedLatches.booking? b.number = some b := by
    rw [State.booking?_of_bookings s.committedLatches_bookings, found]
  /- The Booking Engine's part, wherever it begins. -/
  have ends {t : State} (h : Shed (.pending b.number) s.committedLatches t) :
      t.commitBookings.booking? b.number = none ∧ ((∀ c ∈ s.bookings, c ≠ b → c.station ≠ b.station) →
        t.commitBookings.EndedAlone b .cancelledPlan) := by
    obtain ⟨c, there, passed⟩ := h.stays b ⟨rfl, pending⟩ here
    rw [passed.of_pending pending] at there
    obtain ⟨gone, alone⟩ := State.commitBookings_ends there (h.bookingStranded b ▸ stranded)
    refine ⟨gone, fun only => alone fun c mem other => ?_⟩
    obtain ⟨d, mem, number, station, -⟩ := h.origin c mem
    rw [s.committedLatches_bookings] at mem
    exact station ▸ only d mem (fun same => other (by rw [← number, same]))
  /- What follows it. -/
  have later {t u : State} (gone : t.booking? b.number = none)
      (alone : (∀ c ∈ s.bookings, c ≠ b → c.station ≠ b.station) → t.EndedAlone b .cancelledPlan)
      (h : ∀ {K : Keeping}, EndsWindows K t → Shed K t u) (numbered : t.Numbered) :
      u.booking? b.number = none ∧ ((∀ c ∈ s.bookings, c ≠ b → c.station ≠ b.station) →
        (u.ctx.get b.station).lastEnded = some ⟨b.number, .cancelledPlan⟩) :=
    ⟨(h (K := .nothing) ⟨numbered, fun _ _ _ => id⟩).booking?_none gone, fun only =>
      ((alone only).shed (h (.of_no_station numbered (alone only).none))).outcome⟩
  have numbered {t : State} (h : Shed .nothing s.committedLatches t) : t.Numbered := h.numbered distinct
  have nothing : EndsWindows .nothing s.committedLatches := ⟨distinct, fun _ _ _ => id⟩
  have stages := s.committedStages_eq k
  rw [State.commitBoth] at stages
  split at stages
  · obtain ⟨gone, alone⟩ := ends arbiter
    refine later gone alone (fun {K} w => ?_)
      (numbered (Shed.committedArbiter.commitBookings fun _ _ _ => id))
    refine Shed.commitRest (stages ▸ ?_) w
    exact (Shed.refl _).commitWind w _ _ k
  · obtain ⟨gone, alone⟩ := ends (arbiter.commitWind w s.disabledByStaged s.enabledByStaged k)
    refine later gone alone (fun {K} w => ?_)
      (numbered ((Shed.committedArbiter.commitWind nothing _ _ k).commitBookings fun _ _ _ => id))
    refine Shed.commitRest (stages ▸ ?_) w
    exact .refl _

end

end Sys2Proof.Machine
end

section
/-! O25 and O26: a commit that takes effect. -/

namespace Sys2Proof.Machine

open Sys2Proof.Safety

theorem LimitsFrame.commitSpeed (disabled : List Station) (s : State) (n : Station) :
    LimitsFrame s (State.commitSpeed disabled s n) := by
  unfold State.commitSpeed
  split
  · exact ((OwnFrame.setVWind s n 0).trans (.setLim _ n _)).limits
  · split
    · exact (OwnFrame.setVWind s n _).limits
    · exact .refl s

theorem LimitsFrame.commitLimits (s : State) (disabled : List Station) : LimitsFrame s (s.commitLimits disabled) :=
  (foldl_related .refl .trans (LimitsFrame.commitSpeed disabled) s Station.all).trans
    (foldl_related .refl .trans (fun t n => (OwnFrame.of_permit (PermitFrame.recompute t n)).limits) _ _)

section
variable {s : State} {k : Nat} {n : Station}

theorem State.mem_disabledByStaged (on : (s.station n).enabled = true)
    (off : (s.plan.staged.stations.get n).enabled = false) : n ∈ s.disabledByStaged :=
  List.mem_filter.mpr ⟨Station.mem_all n, by rw [on, off]; rfl⟩

theorem State.not_mem_disabledByStaged (on : (s.plan.staged.stations.get n).enabled = true) :
    n ∉ s.disabledByStaged := fun mem => by
  have := (List.mem_filter.mp mem).2
  rw [on] at this
  simp at this

theorem State.committedStages_station (s : State) (k : Nat) (n : Station) :
    (s.committedStages k).station n = s.plan.staged.stations.get n := by
  have live : (s.committedStages k).plan.live = s.plan.staged := by
    rw [(WindWork.committedStages s k).1]
    exact s.committedZones_live
  rw [State.station, live]

/-- The Shutdown Unit and the permits shed. -/
theorem Shed.committedShutdown (kept : bookingTableKept s = true) (k : Nat) :
    Shed .nothing ((s.committedStages k).commitLimits s.disabledByStaged) (s.commitEffect k) := by
  have distinct := State.committedLatches_numbered kept
  have w : EndsWindows .nothing s.committedLatches := ⟨distinct, fun _ _ _ => id⟩
  have stages : Shed .nothing s.committedLatches (s.committedStages k) := by
    rw [State.committedStages_eq, State.commitBoth]
    exact .ite ((Shed.committedArbiter.commitBookings fun _ _ _ => id).commitWind w _ _ k)
      ((Shed.committedArbiter.commitWind w _ _ k).commitBookings fun _ _ _ => id)
  have limits := (stages.commitLimits s.disabledByStaged).numbered distinct
  rw [State.commitEffect_eq]
  generalize (s.committedStages k).commitLimits s.disabledByStaged = t at limits
  exact ((Shed.refl t).commitShutdown ⟨limits, fun _ _ _ => id⟩ _ k).reevalPermits

/-- A station that a commit disables has its reset values (R85, R127, R143). -/
theorem State.commitEffect_reset (kept : bookingTableKept s = true) (on : (s.station n).enabled = true)
    (off : (s.plan.staged.stations.get n).enabled = false) (k : Nat) :
    (s.commitEffect k).wind.get n = .reset ∧ (s.commitEffect k).vane.get n = .reset ∧
      (s.commitEffect k).lim.get n = .reset := by
  have mem := State.mem_disabledByStaged on off
  have out : n ∉ s.enabledByStaged := fun mem => by
    have := (List.mem_filter.mp mem).2
    rw [on] at this
    simp at this
  have stages : (s.committedStages k).wind.get n = .reset := by
    rw [State.committedStages_eq, State.commitBoth]
    split
    · exact State.commitWind_wind mem out k
    · rw [wind_of_zoneWork (Claims.commitBookings _).zoneWork]
      exact State.commitWind_wind mem out k
  have station : (s.committedStages k).station n = s.plan.staged.stations.get n := s.committedStages_station k n
  have limits := LimitsFrame.commitLimits (s.committedStages k) s.disabledByStaged
  have reset := State.commitLimits_reset (s := s.committedStages k) mem (by rw [station, off])
  have shed := Shed.committedShutdown (k := k) kept
  have wind := wind_of_zoneWork (zoneWork_committedShutdown s k)
  have last := s.commitEffect_eq k
  generalize (s.committedStages k).commitLimits s.disabledByStaged = t at limits reset shed wind last
  have off' : (t.station n).enabled = false := by
    rw [State.station, limits]
    exact (congrArg _ station).trans off
  refine ⟨?_, ?_, shed.lim n off' reset⟩
  · rw [wind, limits]
    exact stages
  · have permits (u : State) : (Station.all.foldl State.reevalPermit u).vane = u.vane :=
      foldl_related (R := fun s t : State => t.vane = s.vane) (fun _ => rfl) (fun h k => k.trans h)
        State.reevalPermit_vane u Station.all
    rw [last, permits]
    exact State.commitShutdown_vane mem off' k

/-- The speed that a commit leaves an enabled station (R82, R87). -/
theorem State.commitEffect_vWind (on : (s.plan.staged.stations.get n).enabled = true) (k : Nat) :
    ((s.commitEffect k).lim.get n).vWind = min (s.lim.get n).vWind (s.plan.staged.stations.get n).vRated := by
  have before : ((s.committedStages k).lim.get n).vWind = (s.lim.get n).vWind := by
    rw [((WindWork.committedStages s k).2 n).2]
    exact congrArg (fun l : PerStation LimitCtx => (l.get n).vWind) (by rw [(CommitFrame.committedZones s).frame])
  rw [((zoneWork_committedShutdown s k).2 n).2, State.commitLimits_vWind (State.not_mem_disabledByStaged on)
    (by rw [State.committedStages_station, on]), before, State.committedStages_station]

/-- What a commit leaves of a disabled station's context and entries (R41, R191). -/
theorem State.commitEffect_disabled (kept : bookingTableKept s = true) (on : (s.station n).enabled = true)
    (off : (s.plan.staged.stations.get n).enabled = false) (k : Nat) :
    (((s.commitEffect k).ctx.get n).position = none ∧ ((s.commitEffect k).ctx.get n).rise = none ∧
        ((s.commitEffect k).ctx.get n).profile = none) ∧
      (∀ i ∈ entriesOf n, i.calm = true → (s.commitEffect k).alarms.get i = .cleared) ∧
      ((∀ z, (s.commitEffect k).holder z ≠ some n) → (s.commitEffect k).alarms.get (.conflict n) = .cleared) := by
  have mem := State.mem_disabledByStaged on off
  obtain ⟨position, rise, profile, entries⟩ := s.committedZones_disabled mem
  have ctx := (LimitWork.commitEffect s k).2 n
  have shed := Shed.commitEffect (State.committedLatches_numbered kept) k
  have same : s.committedLatches.alarms = s.committedZones.alarms := by rw [s.committedLatches_frame]
  refine ⟨?_, fun i own calm => shed.entries i calm (by rw [same]; exact entries i own),
    fun none => (shed.calm n none (s.committedLatches_calm mem)).2⟩
  rw [ctx]
  exact ⟨position, rise, profile⟩

/-- What a commit leaves of the zones (R13, R69). -/
theorem State.commitEffect_zones (kept : bookingTableKept s = true) (k : Nat) (z : Zone) :
    (s.zoneChanged z = true → (s.commitEffect k).zones.get z =
      if (s.plan.staged.zones.get z).enabled then some .fresh else none) ∧
    (s.zoneChanged z = false → (s.zones.get z = none → (s.commitEffect k).zones.get z = none) ∧
      ∀ d, s.zones.get z = some d → ∃ e, (s.commitEffect k).zones.get z = some e ∧ d.Shed e) := by
  have shed := Shed.commitEffect (State.committedLatches_numbered kept) k
  have zones : s.committedLatches.zones = s.committedZones.zones := by rw [s.committedLatches_frame]
  have first := s.committedZones_get z
  rw [← zones] at first
  refine ⟨fun changed => ?_, fun unchanged => ?_⟩
  · rw [if_pos changed] at first
    split at first
    · next on =>
      obtain ⟨e, record, edit⟩ := shed.record z _ first
      rw [record, if_pos on, edit.fresh rfl]
    · next off => rw [if_neg off, shed.missing z first]
  · rw [if_neg (by rw [unchanged]; nofun)] at first
    exact ⟨fun gone => shed.missing z (first.trans gone), fun d record => shed.record z d (first.trans record)⟩

/-- A booking the staged plan strands (R13). -/
theorem State.committedLatches_strands {b : Booking} (pending : b.state = .pending)
    (lost : (s.plan.staged.stations.get b.station).enabled = false ∨
      ∃ z ∈ b.zones, (s.plan.staged.zones.get z).enabled = false ∨
        memberOf (s.plan.staged.zones.get z) b.station = none) :
    s.committedLatches.bookingStranded b = true := by
  unfold State.bookingStranded State.isMember State.member State.station State.zone
  rw [s.committedLatches_live, pending]
  simpa using lost

/-- A commit takes effect (R12, R13). -/
theorem committed_commitEffect (kept : bookingTableKept s = true)
    (permits : ∀ n, permitFollows (s.commitEffect k) n = true) : committed s (s.commitEffect k) := by
  have site := SiteKept.commitEffect s k
  have frame := (LimitWork.commitEffect s k).1
  have first := (CommitFrame.committedZones s).frame
  have zones := State.commitEffect_zones kept k
  have reset (n : Station) (on : (s.station n).enabled = true)
      (off : (s.plan.staged.stations.get n).enabled = false) := State.commitEffect_reset kept on off k
  have disabled (n : Station) (on : (s.station n).enabled = true)
      (off : (s.plan.staged.stations.get n).enabled = false) := State.commitEffect_disabled kept on off k
  have speeds (n : Station) (on : (s.plan.staged.stations.get n).enabled = true) :=
    State.commitEffect_vWind (s := s) on k
  have strands (b : Booking) (found : s.booking? b.number = some b)
      (stranded : s.committedLatches.bookingStranded b = true) :=
    State.commitEffect_strands (k := k) kept found stranded
  generalize s.commitEffect k = t at permits site frame zones reset disabled speeds strands
  have line : t.line = s.committedZones.line := by rw [frame]
  have sensors : t.sensors = s.committedZones.sensors := by rw [frame]
  have cycle : t.cycle = s.committedZones.cycle := by rw [frame]
  have pin : t.sstopPin = s.committedZones.sstopPin := by rw [frame]
  have tag : t.enrolTag = s.committedZones.enrolTag := by rw [frame]
  rw [first] at line sensors cycle pin tag
  refine ⟨site.plan, site.derate, site.clock, fun z => (zones z).1, fun n on off => ?_,
    fun z unchanged => ?_, speeds, fun b found pending lost =>
      strands b found (State.committedLatches_strands pending lost), ?_, ?_, permits, line, sensors, cycle, site.stop, pin,
    site.number, tag⟩
  · obtain ⟨⟨position, rise, profile⟩, entries, conflict⟩ := disabled n on off
    obtain ⟨wind, vane, lim⟩ := reset n on off
    refine ⟨position, rise, profile, wind, vane, lim, fun i mem => ?_, conflict⟩
    have six : i ∈ entriesOf n ∧ i.calm = true := by
      simp only [List.mem_cons, List.not_mem_nil, or_false] at mem
      rcases mem with rfl | rfl | rfl | rfl | rfl <;> exact ⟨by simp [entriesOf], rfl⟩
    exact entries i six.1 six.2
  · obtain ⟨gone, edits⟩ := (zones z).2 unchanged
    refine ⟨gone, fun d record => ?_⟩
    obtain ⟨e, record, edit⟩ := edits d record
    exact ⟨e, record, edit.swept, edit.waiting, edit.held⟩
  · rw [site.alarms _ rfl]
    simp [State.replaceLive, State.handOnSettings, State.alarmEnds, State.setEntry, AlarmTable.get_set_ne]
    rfl
  · rw [site.alarms _ rfl]
    simp [State.replaceLive, State.handOnSettings, State.alarmEnds, State.setEntry, AlarmTable.get_set_ne]
    rfl

theorem committed_commitNow (kept : bookingTableKept s = true) : committed s s.commitNow :=
  committed_commitEffect (s := s.choose.2) (k := s.choose.1) kept (permitFollows_commitNow s)

/-- The frames that follow a commit are no part of what it has done. -/
theorem committed_frames {t u : State} (h : committed s t)
    (frame : u = { t with handling := u.handling, held := u.held, tx := u.tx }) : committed s u := by
  generalize u.handling = handling, u.held = held, u.tx = tx at frame
  subst frame
  exact h

end

/-- A commit that takes effect talks as work does. -/
theorem Talks.commitNow (s : State) : Talks s s.commitNow := by
  have first : Talks s.choose.2 s.choose.2.committedZones := by
    have frame := (CommitFrame.committedZones s.choose.2).frame
    exact .of_eq (by rw [frame]) (by rw [frame]) (by rw [frame]) (by rw [frame])
  exact (Talks.of_eq (t := s.choose.2)).trans
    (first.trans (s.choose.2.commitEffect_of_committedZones s.choose.1).talks)

section
variable {s : State} (passes : s.crossCheck = none) (free : s.inUseCheck = none)
include passes free

theorem State.commitChecked_now :
    s.commitChecked .now = (s.commitNow, .ok, .revision s.commitNow.plan.revision) := by
  simp [State.commitChecked, passes, free]

theorem State.commitChecked_atMark : s.commitChecked .atMark =
    (s.setPlan { s.plan with pendingCommit := .atMark }, .ok, .revision s.plan.revision) := by
  simp [State.commitChecked, passes, free]

theorem State.commitChecked_atTime (target : Nat) : s.commitChecked (.atTime target) =
    (s.setPlan { s.plan with pendingCommit := .atTime target false }, .ok, .revision s.plan.revision) := by
  simp [State.commitChecked, passes, free]

end

section
variable {s : State} (idle : s.plan.pendingCommit = .absent) (target : Nat)
include idle

theorem State.commit_now : s.commit 0 target = s.commitChecked .now := by
  simp [State.commit, State.commitPending, idle, readCommitMode]

theorem State.commit_atMark : s.commit 1 target = s.commitChecked .atMark := by
  simp [State.commit, State.commitPending, idle, readCommitMode]

theorem State.commit_atTime (set : s.clock.timeSet = true) (ahead : s.clock.time < target)
    (fits : target ≤ maxTime) : s.commit 2 target = s.commitChecked (.atTime target) := by
  simp [State.commit, State.commitPending, idle, readCommitMode, fits, set, Nat.not_le.mpr ahead]

end

/-- Settles O25: the blocks' parts of the commit, each kept by those that follow. -/
theorem commitTakesEffectOrWaits : Obligations.CommitTakesEffectOrWaits := by
  unfold Obligations.CommitTakesEffectOrWaits
  intro s tag target absent passes free pend
  refine ⟨fun kept => ?_, ?_, fun set ahead fits => ?_⟩
  · have work : (s.taken .supervisor).commit 0 target = ((s.taken .supervisor).commitNow, .ok,
        .revision (s.taken .supervisor).commitNow.plan.revision) :=
      (State.commit_now (s := s.taken .supervisor) absent target).trans
        (State.commitChecked_now (s := s.taken .supervisor) passes free)
    have revision : (s.taken .supervisor).commitNow.plan.revision = (s.plan.revision + 1) % 65536 := by
      rw [State.commitNow_plan]
      rfl
    have effect : committed s (s.taken .supervisor).commitNow := committed_commitNow (s := s.taken .supervisor) kept
    have talks : Talks (s.taken .supervisor) (s.taken .supervisor).commitNow := .commitNow _
    generalize (s.taken .supervisor).commitNow = u at effect talks work revision
    rw [← revision]
    exact ⟨_, congrArg Host.Outcome.next (command_of_work (work := fun s => s.commit 0 target) work),
      committed_frames effect rfl, answered_of_talks talks _⟩
  · exact congrArg Host.Outcome.next (command_of_work (work := fun s => s.commit 1 target)
      ((State.commit_atMark (s := s.taken .supervisor) absent target).trans
        (State.commitChecked_atMark (s := s.taken .supervisor) passes free)))
  · exact congrArg Host.Outcome.next (command_of_work (work := fun s => s.commit 2 target)
      ((State.commit_atTime (s := s.taken .supervisor) absent target set ahead fits).trans
        (State.commitChecked_atTime (s := s.taken .supervisor) passes free target)))

/-- Settles O26: the moment is a commit that takes effect, or the abandoning of it. -/
theorem atTimeCommitTakesEffectOrIsAbandoned : Obligations.AtTimeCommitTakesEffectOrIsAbandoned := by
  unfold Obligations.AtTimeCommitTakesEffectOrIsAbandoned
  intro s target due
  have moment : s.atTimeMoment = s.commitMoment := by
    unfold State.atTimeMoment
    rw [due]
  have run : exec .atTimeCommitMoment s = .next s.commitMoment := congrArg Host.Outcome.next moment
  refine ⟨fun passes kept => ?_, fun fails => ?_⟩
  · rw [State.commitMoment_of_passes passes] at run
    have talks := Talks.commitNow s
    exact ⟨_, run, committed_commitNow kept, talks.handling, talks.rx⟩
  · rw [State.commitMoment_of_fails fails] at run
    exact run

end Sys2Proof.Machine
end

section
/-! The end of the booking a station has in window, among work that ends bookings in window alone (R133, R167). -/

namespace Sys2Proof.Machine

open Sys2Proof.Safety

/-- The bookings of a station outside their window are kept. -/
def Keeping.idle (n : Station) : Keeping :=
  ⟨fun b => b.station = n ∧ b.inWindow = false, fun h own => ⟨by rw [h.fields]; exact own.1, h.inWindow.trans own.2⟩⟩

theorem EndsWindows.idle {s : State} (distinct : s.Numbered) (n : Station) : EndsWindows (.idle n) s :=
  ⟨distinct, fun _ _ window own => by rw [own.2] at window; cases window⟩

theorem Booking.inWindow_of_pending {b : Booking} (pending : b.state = .pending) : b.inWindow = false := by
  simp [Booking.inWindow, Booking.window?, pending]

/-- A booking has ended with an outcome, and no other of its station is in window. -/
structure State.Ended (s : State) (b : Booking) (e : Ending) : Prop where
  gone : s.booking? b.number = none
  outcome : (s.ctx.get b.station).lastEnded = some ⟨b.number, e⟩
  quiet : ∀ c ∈ s.bookings, c.station = b.station → c.inWindow = false

/-- No booking of a station is in window, and none comes into it. -/
theorem Shed.quiet {K : Keeping} {s t : State} (h : Shed K s t) {n : Station}
    (quiet : ∀ c ∈ s.bookings, c.station = n → c.inWindow = false) :
    ∀ c ∈ t.bookings, c.station = n → c.inWindow = false := fun c mem own => by
  obtain ⟨b, mem, -, station, passed | ⟨pending, -⟩⟩ := h.origin c mem
  · rw [passed.inWindow]
    exact quiet b mem (station.trans own)
  · exact Booking.inWindow_of_pending pending

theorem State.Ended.shed {s t : State} {b : Booking} {e : Ending} (h : s.Ended b e)
    (k : Shed (.idle b.station) s t) : t.Ended b e where
  gone := k.booking?_none h.gone
  outcome := (k.ended _ fun c mem own => ⟨own, h.quiet c mem own⟩).trans h.outcome
  quiet := k.quiet h.quiet

/-- An outcome re-arms no series: it is none that does, or the booking is no REPEAT booking (R171). -/
def Booking.EndsWhole (b : Booking) (e : Ending) : Prop :=
  ∀ p l k, b.mode = .repeating p l k → e.rearms = false ∨ l = some 1

section
variable {s : State} {b : Booking} {e : Ending}

theorem State.endBooking_whole (whole : b.EndsWhole e) :
    (s.endBooking b e).booking? b.number = none ∧
      ((s.endBooking b e).ctx.get b.station).lastEnded = some ⟨b.number, e⟩ := by
  obtain ⟨x, ended⟩ := State.rearm_ended (s := s.liftedEnd b) whole
  refine ⟨?_, by rw [State.endBooking_lastEnded, ended]⟩
  have dropped : s.endBooking b e = (s.reportedEnd b e).dropBooking b.number := by rw [State.endBooking_eq, ended]
  rw [dropped]
  exact State.dropBooking_booking?_same _ _

theorem Talks.liftedEnd (s : State) (b : Booking) : Talks s (s.liftedEnd b) := by
  have zones : Work ∅ s (b.zones.foldl (State.endZone b) s) := (Work.refl s).foldl (fun z h => h.endZone b z) _
  unfold State.liftedEnd
  extract_lets ended
  exact (Work.ite zones ((zones.liftReservations _).serveMemberZones _)).talks

/-- The notice of an end that re-arms nothing (R172). -/
theorem State.endBooking_tells (whole : b.EndsWhole e) (free : s.handling = none)
    (linked : (s.ctx.get b.station).link ≠ .offline) :
    ∃ fs series, (s.endBooking b e).tx.get (.crane b.station) =
      (fs ++ [.notice (.bookingEnded b.number e series)]).foldl Tx.push (s.tx.get (.crane b.station)) := by
  obtain ⟨x, ended⟩ := State.rearm_ended (s := s.liftedEnd b) whole
  have lifted := Talks.liftedEnd s b
  obtain ⟨fs, sent, -⟩ := lifted.sent (.crane b.station)
  have link : ((s.liftedEnd b).ctx.get b.station).link ≠ .offline := by
    rw [((zoneWork_liftedEnd s b).2 b.station).1]
    exact linked
  have same : (s.endBooking b e).tx = (s.reportedEnd b e).tx := by
    rw [State.endBooking_eq]
    split <;> rfl
  refine ⟨fs, x, ?_⟩
  rw [same, State.reportedEnd, ended, List.foldl_append, ← sent]
  have idle := lifted.handling.trans free
  generalize s.liftedEnd b = t at link idle
  have notified : (t.setCtx b.station { t.ctx.get b.station with lastEnded := some ⟨b.number, e⟩ }).notify
      b.station (.bookingEnded b.number e x) =
      (t.setCtx b.station { t.ctx.get b.station with lastEnded := some ⟨b.number, e⟩ }).send
        (.crane b.station) [.notice (.bookingEnded b.number e x)] := by
    rw [State.notify, if_neg (by simpa using link)]
    exact if_neg (by rw [State.setCtx_handling, idle]; nofun)
  change (State.raise (State.notify _ _ _) _ _).tx.get _ = _
  dsimp only
  rw [notified, State.raise, if_neg (by change t.handling ≠ _; rw [idle]; nofun)]
  simp [State.send]

end

/-- A booking of the table is the one of its station in window. -/
structure State.Alone (s : State) (b : Booking) : Prop where
  distinct : s.Numbered
  mem : b ∈ s.bookings
  window : b.inWindow = true
  alone : ∀ c ∈ s.bookings, c.station = b.station → c.inWindow = true → c = b

/-- What keeps the frames sent on each link and the links, beside the shedding. -/
structure TalksOn (s t : State) : Prop extends Talks s t where
  link : ∀ n, (t.ctx.get n).link = (s.ctx.get n).link

theorem TalksOn.trans {s t u : State} (h : TalksOn s t) (k : TalksOn t u) : TalksOn s u :=
  ⟨h.toTalks.trans k.toTalks, fun n => (k.link n).trans (h.link n)⟩

theorem TalksOn.of_zoneWork {s t : State} (talks : Talks s t) (work : zoneWork s t) : TalksOn s t :=
  ⟨talks, fun n => by rw [(work.2 n).1]⟩

theorem TalksOn.of_windWork {s t : State} (talks : Talks s t) (work : WindWork s t) : TalksOn s t :=
  ⟨talks, fun n => by rw [(work.2 n).1]⟩

theorem TalksOn.endBooking (s : State) (b : Booking) (e : Ending) : TalksOn s (s.endBooking b e) :=
  .of_zoneWork ((Work.refl (x := ∅) s).endBooking b e).talks (zoneWork_endBooking s b e)

/-- A booking stands from `s` to `u`. -/
structure Stands (b : Booking) (s u : State) : Prop where
  shed : Shed (.numbered b.number) s u
  talks : TalksOn s u

/-- A booking has ended with an outcome between `s` and `u`, and its station has been told. -/
structure EndsSince (b : Booking) (e : Ending) (s u : State) : Prop where
  ended : u.Ended b e
  talks : TalksOn s u
  distinct : u.Numbered
  told : s.handling = none → (s.ctx.get b.station).link ≠ .offline →
    ∃ (fs : List Frame) (series : Series), Frame.notice (.bookingEnded b.number e series) ∈ fs ∧
      u.tx.get (.crane b.station) = fs.foldl Tx.push (s.tx.get (.crane b.station))

section
variable {s t u : State} {b c : Booking} {e : Ending}

theorem EndsSince.shed (h : EndsSince b e s t) (k : Shed (.idle b.station) t u) (talks : TalksOn t u) :
    EndsSince b e s u where
  ended := h.ended.shed k
  talks := h.talks.trans talks
  distinct := k.numbered h.distinct
  told := fun free linked => by
    obtain ⟨fs, series, mem, sent⟩ := h.told free linked
    obtain ⟨more, later, -⟩ := talks.sent (.crane b.station)
    exact ⟨fs ++ more, series, List.mem_append_left _ mem, by rw [later, sent, List.foldl_append]⟩

/-- The booking in the table that a standing one has become. -/
theorem Stands.booking? (h : Stands b s u) (alone : s.Alone b) :
    ∃ c, u.booking? b.number = some c ∧ b.Passed c :=
  h.shed.stays b rfl (alone.distinct.booking? alone.mem)

/-- A booking in window of a standing booking's station is that one. -/
theorem Stands.only (h : Stands b s u) (alone : s.Alone b) (mem : c ∈ u.bookings) (own : c.station = b.station)
    (window : c.inWindow = true) : c.number = b.number := by
  obtain ⟨d, mem, number, station, passed | ⟨pending, -⟩⟩ := h.shed.origin c mem
  · rw [← number, alone.alone d mem (station.trans own) (passed.inWindow.symm.trans window)]
  · rw [Booking.inWindow_of_pending pending] at window
    cases window

/-- A standing booking ends. -/
theorem Stands.endBooking (h : Stands b s u) (alone : s.Alone b) (found : u.booking? b.number = some c)
    (passed : b.Passed c) (whole : b.EndsWhole e) : EndsSince b e s (u.endBooking c e) := by
  have number := passed.number
  have station : c.station = b.station := by rw [passed.fields]
  have whole : c.EndsWhole e := by
    rw [Booking.EndsWhole, passed.fields]
    exact whole
  obtain ⟨gone, outcome⟩ := State.endBooking_whole (s := u) whole
  rw [number] at gone
  rw [station, number] at outcome
  refine ⟨⟨gone, outcome, fun d mem own => ?_⟩, h.talks.trans (.endBooking u c e),
    ((Shed.refl (K := .nothing) u).endBooking (number ▸ found) id e).numbered (h.shed.numbered alone.distinct),
    fun free linked => ?_⟩
  · rcases State.mem_endBooking mem with ⟨-, pending⟩ | ⟨other, a, mem, was⟩
    · exact Booking.inWindow_of_pending pending
    · refine Bool.eq_false_iff.mpr fun window => other ?_
      rw [number, was.number]
      exact h.only alone mem (by rw [was.fields] at own; exact own) (was.inWindow.symm.trans window)
  · have link : (u.ctx.get c.station).link ≠ .offline := by
      rw [station, h.talks.link]
      exact linked
    obtain ⟨fs, series, sent⟩ := State.endBooking_tells (s := u) whole (h.talks.handling.trans free) link
    rw [station, number] at sent
    obtain ⟨before, earlier, -⟩ := h.talks.sent (.crane b.station)
    exact ⟨before ++ (fs ++ [.notice (.bookingEnded b.number e series)]), series, by simp,
      by simp only [sent, earlier, List.foldl_append]⟩

/-- Another booking than a standing one ends. -/
theorem Stands.endOther (h : Stands b s u) (found : u.booking? c.number = some c) (other : c.number ≠ b.number) :
    Stands b s (u.endBooking c e) := ⟨h.shed.endBooking found other e, h.talks.trans (.endBooking u c e)⟩

end

end Sys2Proof.Machine
end

section
/-! O55: the fall, the clearance timer and the start of the sequence (R120, R132 to R135). -/

namespace Sys2Proof.Machine

open Sys2Proof.Safety

/-! ### Clearance requests (R133, R168) -/

section
variable {s t u : State} {b : Booking} {v : Station}

theorem TalksOn.abortForClearance (s : State) (k : Station) (z : Zone) : TalksOn s (s.abortForClearance k z) :=
  .of_zoneWork ((Work.refl (x := ∅) s).abortForClearance k z).talks ((Claims.refl s).abortForClearance k z).zoneWork

theorem TalksOn.requestClearance (s : State) (v : Station) (zh : Zone × Station) :
    TalksOn s (State.requestClearance v s zh) :=
  .of_zoneWork ((Work.refl (x := ∅) s).requestClearance v zh).talks ((Claims.refl s).requestClearance v zh).zoneWork

theorem TalksOn.requests (s : State) (v : Station) (zhs : List (Zone × Station)) :
    TalksOn s (zhs.foldl (State.requestClearance v) s) :=
  .of_zoneWork ((Work.refl (x := ∅) s).foldl (fun zh h => h.requestClearance v zh) zhs).talks
    ((Claims.refl s).foldl (fun zh h => h.requestClearance v zh) zhs).zoneWork

/-- A clearance request ends the booking of the holder in window that names the zone, and leaves another. -/
theorem Stands.abortForClearance (h : Stands b s u) (alone : s.Alone b) (k : Station) (z : Zone) :
    (¬ (k = b.station ∧ z ∈ b.zones) ∧ Stands b s (u.abortForClearance k z)) ∨
      EndsSince b .abortedClearance s (u.abortForClearance k z) := by
  obtain ⟨c, found, passed⟩ := h.booking? alone
  have whole : b.EndsWhole .abortedClearance := fun _ _ _ _ => .inl rfl
  cases hit : u.bookings.find? fun b => b.station == k && b.inWindow && b.zones.contains z with
  | none =>
    have same : u.abortForClearance k z = u := by rw [State.abortForClearance, hit]
    rw [same]
    refine .inl ⟨fun ⟨station, named⟩ => ?_, h⟩
    have no := List.find?_eq_none.mp hit c (State.mem_of_booking? found)
    rw [passed.inWindow, alone.window, passed.fields, station] at no
    simp [named] at no
  | some d =>
    have mem := List.mem_of_find?_eq_some hit
    obtain ⟨⟨station, window⟩, named⟩ : (d.station = k ∧ d.inWindow = true) ∧ z ∈ d.zones := by
      simpa using List.find?_some hit
    have there := (h.shed.numbered alone.distinct).booking? mem
    have ends : u.abortForClearance k z = u.endBooking d .abortedClearance := by rw [State.abortForClearance, hit]
    rw [ends]
    by_cases own : d.number = b.number
    · rw [own, found] at there
      obtain rfl := Option.some.inj there
      exact .inr (h.endBooking alone found passed whole)
    · refine .inl ⟨fun ⟨same, _⟩ => own (h.only alone mem (station.trans same) window), h.endOther there own⟩

theorem Stands.notify (h : Stands b s u) (n : Station) (y : Notice) : Stands b s (u.notify n y) :=
  ⟨h.shed.notify n y, h.talks.trans (.of_zoneWork (.notify u n y) (zoneWork_of_holderWork (holderWork_notify u n y)))⟩

theorem Shed.requests {K : Keeping} (h : Shed K s u) (w : EndsWindows K s) (v : Station) (zhs : List (Zone × Station)) :
    Shed K s (zhs.foldl (State.requestClearance v) u) :=
  h.foldl (fun zh h => h.requestClearance w.distinct v zh fun mem window _ _ => w.may h mem window) zhs

theorem EndsSince.requests {e : Ending} (h : EndsSince b e s u) (v : Station) (zhs : List (Zone × Station)) :
    EndsSince b e s (zhs.foldl (State.requestClearance v) u) :=
  h.shed ((Shed.refl u).requests (.idle h.distinct _) v zhs) (.requests u v zhs)

/-- After requests a booking stands, or it has ended ABORTED(CLEARANCE). -/
theorem Stands.requests (h : Stands b s u) (alone : s.Alone b) (v : Station) (zhs : List (Zone × Station)) :
    Stands b s (zhs.foldl (State.requestClearance v) u) ∨
      EndsSince b .abortedClearance s (zhs.foldl (State.requestClearance v) u) := by
  induction zhs generalizing u with
  | nil => exact .inl h
  | cons zh zhs ih =>
    rcases h.abortForClearance alone zh.2 zh.1 with ⟨-, stands⟩ | ended
    · exact ih (stands.notify _ _)
    · have notified : EndsSince b .abortedClearance s (State.requestClearance v u zh) :=
        ended.shed ((Shed.refl _).notify _ _) (.of_zoneWork (.notify _ _ _) (zoneWork_of_holderWork (holderWork_notify _ _ _)))
      exact .inr (notified.requests v zhs)

/-- A notice goes out on the link of a station that is not OFFLINE. -/
theorem State.notify_sent {n : Station} (linked : (s.ctx.get n).link ≠ .offline) (free : s.handling = none) (y : Notice) :
    (s.notify n y).tx.get (.crane n) = (s.tx.get (.crane n)).push (.notice y) := by
  rw [State.notify, if_neg linked, State.raise, if_neg (by rw [free]; nofun)]
  simp [State.send]

/-- The state in which a holder is sent its clearance request: its booking in window has ended. -/
structure Requested (v : Station) (z : Zone) (h : Station) (s w t : State) : Prop where
  ends : ∀ b, s.Alone b → b.station = h → z ∈ b.zones → EndsSince b .abortedClearance s w
  before : TalksOn s w
  sent : s.handling = none → (s.ctx.get h).link ≠ .offline → ∃ more, t.tx.get (.crane h) =
    (Frame.notice (.clearRequest z v) :: more).foldl Tx.push (w.tx.get (.crane h))
  shed : w.Numbered → ∀ {n : Station}, Shed (.idle n) w t
  after : TalksOn w t

theorem Requested.later {z : Zone} {h : Station} {w : State} (r : Requested v z h s w t)
    (shed : t.Numbered → ∀ {n : Station}, Shed (.idle n) t u) (talks : TalksOn t u) : Requested v z h s w u where
  ends := r.ends
  before := r.before
  sent := fun free linked => by
    obtain ⟨more, sent⟩ := r.sent free linked
    obtain ⟨rest, later, -⟩ := talks.sent (.crane h)
    exact ⟨more ++ rest, by rw [later, sent, ← List.foldl_append, List.cons_append]⟩
  shed := fun distinct {n} => (r.shed distinct).trans (shed ((r.shed distinct (n := n)).numbered distinct))
  after := r.after.trans talks

/-- Each holder is sent its clearance request. -/
theorem Requested.of_mem {zhs : List (Zone × Station)} {z : Zone} {h : Station} (mem : (z, h) ∈ zhs) (s : State)
    (v : Station) : ∃ w, Requested v z h s w (zhs.foldl (State.requestClearance v) s) := by
  obtain ⟨first, rest, rfl⟩ := List.append_of_mem mem
  rw [List.foldl_append, List.foldl_cons]
  have earlier := TalksOn.requests s v first
  have stands {b : Booking} (alone : s.Alone b) := (⟨.refl s, ⟨.refl s, fun _ => rfl⟩⟩ : Stands b s s).requests alone v first
  generalize first.foldl (State.requestClearance v) s = u at earlier stands
  have abort := TalksOn.abortForClearance u h z
  have first : Requested v z h s (u.abortForClearance h z) (State.requestClearance v u (z, h)) :=
    { ends := fun b alone station named => by
        rcases stands alone with standing | ended
        · rcases standing.abortForClearance alone h z with ⟨other, -⟩ | ended
          · exact absurd ⟨station.symm, named⟩ other
          · exact ended
        · exact ended.shed ((Shed.refl u).abortForClearance ended.distinct h z
            fun mem window _ _ => (EndsWindows.idle ended.distinct _).may (.refl u) mem window) abort
      before := earlier.trans abort
      sent := fun free linked => by
        refine ⟨[], State.notify_sent ?_ ?_ _⟩
        · rw [(earlier.trans abort).link]; exact linked
        · exact (earlier.trans abort).handling.trans free
      shed := fun _ {_} => (Shed.refl _).notify _ _
      after := .of_zoneWork (.notify _ _ _) (zoneWork_of_holderWork (holderWork_notify _ _ _)) }
  exact ⟨_, first.later (fun distinct {n} => (Shed.refl _).requests (.idle distinct n) v rest) (.requests _ v rest)⟩

/-- What the neighbours' requests are followed by. -/
theorem Requested.clearNeighbours {z : Zone} {h : Station} (mem : (z, h) ∈ s.othersHolding v) :
    ∃ w, Requested v z h s w (s.clearNeighbours v) := by
  obtain ⟨w, requested⟩ := Requested.of_mem mem s v
  have asked : s.clearNeighbours v =
      (((s.othersHolding v).foldl (State.requestClearance v) s).startClearanceTimer v).judgeClear v := rfl
  rw [asked]
  generalize (s.othersHolding v).foldl (State.requestClearance v) s = u at requested
  refine ⟨w, requested.later (fun _ {n} => ((((Shed.refl u).setVane v _).overdueEnds v).judgeClear v)) ?_⟩
  have work : Work ∅ u ((u.startClearanceTimer v).judgeClear v) := ((Work.refl u).startClearanceTimer v).judgeClear v
  refine .of_zoneWork work.talks (zoneWork_trans (zoneWork_trans (zoneWork_of_holderWork (holderWork_setVane _ _ _))
    (zoneWork_of_holderWork (holderWork_setOverdue _ _ _))) (zoneWork_of_holderWork (holderWork_judgeClear _ _)))

theorem State.mem_othersHolding {z : Zone} {h : Station} (mem : z ∈ s.memberZones v) (held : s.holder z = some h)
    (ne : h ≠ v) : (z, h) ∈ s.othersHolding v :=
  List.mem_filterMap.mpr ⟨z, mem, by simp [held, ne]⟩

theorem State.othersHolding_of_clear (clear : s.clearCondition v = true) : s.othersHolding v = [] := by
  refine List.filterMap_eq_nil_iff.mpr fun z mem => ?_
  obtain ⟨-, own⟩ := State.clearCondition_iff.mp clear
  cases held : s.holder z with
  | none => rfl
  | some h => simp [own z mem h held]

/-- A station whose clear condition is met becomes CLEAR as its sequence begins (R132, R134). -/
theorem State.clearNeighbours_vane_met (clearing : (s.vane.get v).vane = .clearing)
    (met : s.clearCondition v = true) : (s.clearNeighbours v).vane.get v =
      { s.vane.get v with vane := .clear, timer := .stopped, vc := true, overdue := false } := by
  have alone : s.clearNeighbours v = (s.startClearanceTimer v).judgeClear v := by
    rw [State.clearNeighbours, State.othersHolding_of_clear met]
    rfl
  have started : (s.startClearanceTimer v).vane.get v = { s.vane.get v with
      timer := .running s.plan.live.site.clearanceTimeout, overdue := false } := by
    rw [State.startClearanceTimer, State.setOverdue_vane, if_pos rfl]
    simp
  have work : holderWork s (s.startClearanceTimer v) :=
    holderWork_trans (holderWork_setVane s v _) (holderWork_setOverdue _ v false)
  have still : (s.startClearanceTimer v).clearCondition v = true := by
    obtain ⟨speed, own⟩ := State.clearCondition_iff.mp met
    have live : (s.startClearanceTimer v).plan.live = s.plan.live := by rw [work.1]
    refine State.clearCondition_iff.mpr ⟨(work.2 v).2.trans speed, fun z mem h held => own z ?_ h ?_⟩
    · rwa [State.memberZones_of_live live] at mem
    · rwa [State.holder, State.holding, zones_of_holderWork work] at held
  rw [alone, State.judgeClear_vane, started, if_pos ⟨rfl, clearing, still⟩]

end

end Sys2Proof.Machine
end

section
/-! O55: the parts and their assembly. -/

namespace Sys2Proof.Machine

open Sys2Proof.Safety

section
variable {s : State} {n : Station}

/-! ### The fall (R120) -/

/-- The wind fields of a station that falls (R120). -/
def WindCtx.fallen (w : WindCtx) (now : Nat) : WindCtx :=
  { w with stage := w.stage.below, dropStart := if w.stage.below = .normal then none else some now, dropDue := false }

theorem State.fall_wind (due : (s.wind.get n).dropDue = true) (first : Bool) :
    (s.fall n first).wind = s.wind.set n ((s.wind.get n).fallen s.clock.time) := by
  refine PerStation.eq_of_get fun m => ?_
  unfold State.fall
  extract_lets w
  rw [if_pos due]
  by_cases own : m = n
  · subst own
    rw [State.changeStage_wind]
    simp [w, WindCtx.fallen]
  · rw [(StageKept.changeStage _ n _ first).wind m own]
    simp [own]

theorem StageKept.fall (s : State) (n : Station) (first : Bool) : StageKept n s (s.fall n first) := by
  unfold State.fall
  extract_lets w
  split
  · exact (StageKept.setWind s n _).trans (.changeStage _ n _ first)
  · exact .refl n s

/-! ### The clearance timer (R135) -/

theorem State.expireClearance_due (due : (s.vane.get n).timer = .due) :
    s.expireClearance n = (s.setVane n { s.vane.get n with timer := .stopped }).setOverdue n true := if_pos due

theorem State.setOverdue_begins (present : (s.vane.get n).overdue = false) :
    (s.setOverdue n true).alarms.get (.clearanceOverdue n) = (s.alarms.get (.clearanceOverdue n)).begins := by
  unfold State.setOverdue
  extract_lets c
  rw [if_neg (by rw [show c.overdue = false from present]; nofun), State.alarmIs_get, if_pos rfl]
  rfl

/-! ### The passage to CLEAR (R134) -/

/-- A CLEARING station that is told of a change of holder with its clear condition met becomes CLEAR. -/
theorem State.holderTold_clear {z : Zone} (mem : n ∈ s.members z) (clearing : (s.vane.get n).vane = .clearing)
    (met : s.clearCondition n = true) :
    ((s.holderTold z).vane.get n).vane = .clear ∧ ((s.holderTold z).vane.get n).vc = true := by
  have same {t u : State} (h : VaneFrame t u) : u.clearCondition n = t.clearCondition n := by rw [h]; rfl
  have turn (t : State) (m : Station) : VaneFrame t ((t.judgeClear m).judgeSwingLine m z) :=
    (VaneFrame.judgeClear t m).trans (.judgeSwingLine _ m z)
  have others (t : State) (m : Station) (ne : m ≠ n) :
      ((t.judgeClear m).judgeSwingLine m z).vane.get n = t.vane.get n := by
    have swing (u : State) : (u.judgeSwingLine m z).vane.get n = u.vane.get n := by
      unfold State.judgeSwingLine
      extract_lets c
      split
      · simp [ne.symm]
      · rfl
    rw [swing, State.judgeClear_vane, if_neg fun both => ne both.1.symm]
  have establish (t : State) (clearing : (t.vane.get n).vane = .clearing) (met : t.clearCondition n = true) :
      (((t.judgeClear n).judgeSwingLine n z).vane.get n).vane = .clear ∧
        (((t.judgeClear n).judgeSwingLine n z).vane.get n).vc = true := by
    have clear : (t.judgeClear n).vane.get n =
        { t.vane.get n with vane := .clear, timer := .stopped, vc := true, overdue := false } := by
      rw [State.judgeClear_vane, if_pos ⟨rfl, clearing, met⟩]
    have line : (t.judgeClear n).judgeSwingLine n z = t.judgeClear n :=
      if_neg fun both => by rw [clear] at both; exact absurd both.1 nofun
    rw [line, clear]
    exact ⟨rfl, rfl⟩
  have stays (t : State) (clear : (t.vane.get n).vane = .clear ∧ (t.vane.get n).vc = true) :
      (((t.judgeClear n).judgeSwingLine n z).vane.get n).vane = .clear ∧
        (((t.judgeClear n).judgeSwingLine n z).vane.get n).vc = true := by
    have kept : t.judgeClear n = t := if_neg fun both => by rw [clear.1] at both; exact absurd both.1 nofun
    have line : t.judgeSwingLine n z = t := if_neg fun both => by rw [clear.1] at both; exact absurd both.1 nofun
    rw [kept, line]
    exact clear
  refine foldl_establishes (f := fun s m => (s.judgeClear m).judgeSwingLine m z)
    (I := fun t => t.clearCondition n = true ∧ ((t.vane.get n).vane = .clearing ∨
      (t.vane.get n).vane = .clear ∧ (t.vane.get n).vc = true))
    (P := fun t => (t.vane.get n).vane = .clear ∧ (t.vane.get n).vc = true) (fun t m told => ?_) (fun t told => ?_)
    (fun t m ne _ clear => by rw [others t m ne]; exact clear) mem ⟨met, .inl clearing⟩
  · refine ⟨(same (turn t m)).trans told.1, ?_⟩
    by_cases own : m = n
    · subst own
      exact .inr (told.2.elim (fun clearing => establish t clearing told.1) (stays t))
    · rw [others t m own]
      exact told.2
  · exact told.2.elim (fun clearing => establish t clearing told.1) (stays t)

/-! ### The start of the sequence (R132, R133) -/

theorem State.judgeSequence_begins (braked : (s.vane.get n).vane = .braked) (forced : s.inForce n = true) :
    s.judgeSequence n = (s.setVane n { s.vane.get n with vane := .clearing, vc := false }).clearNeighbours n := by
  simp only [State.judgeSequence, braked, forced, if_true]
  rfl

theorem State.judgeSequence_begins_vane (braked : (s.vane.get n).vane = .braked) (forced : s.inForce n = true) :
    (s.judgeSequence n).vane.get n =
      (if s.clearCondition n then
        { s.vane.get n with vane := .clear, timer := .stopped, vc := true, overdue := false }
       else
        { s.vane.get n with vane := .clearing, vc := false, overdue := false,
                            timer := .running s.plan.live.site.clearanceTimeout }) := by
  rw [State.judgeSequence_begins braked forced]
  set t := s.setVane n { s.vane.get n with vane := .clearing, vc := false } with begun
  have here : t.vane.get n = { s.vane.get n with vane := .clearing, vc := false } := by simp [begun]
  have condition : t.clearCondition n = s.clearCondition n := rfl
  by_cases met : s.clearCondition n = true
  · rw [if_pos met, State.clearNeighbours_vane_met (by rw [here]) (condition.trans met), here]
  · rw [if_neg met, State.clearNeighbours_vane_unmet (by rw [here]) (by rw [condition]; simpa using met), here]
    rfl

end

/-- Settles O55: the fall by the wind fields of the one station, and the clearance requests by the standing booking
that each of them leaves or ends (`Stands`, `EndsSince`). -/
theorem dropDwellAndClearanceTimerRunOut : Obligations.DropDwellAndClearanceTimerRunOut := by
  unfold Obligations.DropDwellAndClearanceTimerRunOut
  refine ⟨fun s n due => ?_, fun s n due => ?_, fun s v free kept braked forced => ?_, fun s v clearing clear => ?_⟩
  · have due' : (s.choose.2.wind.get n).dropDue = true := due
    have work := (StageKept.fall s.choose.2 n (bookingFirst s.choose.1 n)).work
    have wind := State.fall_wind due' (bookingFirst s.choose.1 n)
    have talks : Talks s.choose.2 (s.choose.2.fall n (bookingFirst s.choose.1 n)) :=
      ((Work.refl (x := ∅) _).fall n _).talks
    have run : exec (.dropDwellExpiry n) s = .next (s.choose.2.fall n (bookingFirst s.choose.1 n)) :=
      congrArg Host.Outcome.next (if_pos due)
    generalize s.choose.2.fall n (bookingFirst s.choose.1 n) = t at work wind talks run
    refine ⟨t, run, wind.trans ?_, talks.rx, ?_⟩
    · cases stage : (s.wind.get n).stage <;> simp [WindCtx.fallen, stage, Stage.below, State.choose]
    · have choices : t.choices = s.choose.2.choices := by rw [work.1]
      rw [choices]
      exact work
  · have run : exec (.clearanceTimerExpiry n) s =
        .next ((s.setVane n { s.vane.get n with timer := .stopped }).setOverdue n true) :=
      congrArg Host.Outcome.next (State.expireClearance_due due)
    set c : VaneCtx := { s.vane.get n with timer := .stopped } with stopped
    have vane (m : Station) := State.setOverdue_vane (s.setVane n c) n m true
    have begins := State.setOverdue_begins (s := s.setVane n c) (n := n)
    have others (i : AlarmId) := State.setOverdue_get_ne (s.setVane n c) n true (j := i)
    have frame := VaneFrame.setOverdue (s.setVane n c) n true
    generalize (s.setVane n c).setOverdue n true = t at run vane begins others frame
    refine ⟨t, run, PerStation.eq_of_get fun m => ?_, fun absent => begins (by simpa [c] using absent),
      fun i ne => others i ne, frame⟩
    rw [vane m]
    by_cases own : m = n
    · subst own; simp [c]
    · simp [own]
  · set u := s.setVane v { s.vane.get v with vane := .clearing, vc := false } with begun
    refine ⟨State.judgeSequence_begins_vane braked forced, fun z mem h held ne => ?_⟩
    rw [State.judgeSequence_begins braked forced, ← begun]
    obtain ⟨w, requested⟩ := Requested.clearNeighbours (s := u) (v := v)
      (State.mem_othersHolding (s := u) mem held ne)
    have distinct : u.Numbered := State.Numbered.of_kept (s := s) kept
    have alone {b : Booking} (mem : b ∈ s.bookings) (station : b.station = h) (window : b.inWindow = true)
        (only : ∀ c ∈ s.bookings, c.station = h → c.inWindow = true → c = b) : u.Alone b :=
      ⟨distinct, mem, window, fun c mem own => only c mem (own.trans station)⟩
    have numbered (b : Booking) (e : EndsSince b .abortedClearance u w) := e.distinct
    generalize u.clearNeighbours v = t at requested
    refine ⟨fun linked => ?_, fun b mem station window named only => ?_⟩
    · obtain ⟨more, sent⟩ := requested.sent free linked
      by_cases some : ∃ b ∈ s.bookings, b.station = h ∧ b.inWindow = true ∧ z ∈ b.zones ∧
          ∀ c ∈ s.bookings, c.station = h → c.inWindow = true → c = b
      · obtain ⟨b, mem, station, window, named, only⟩ := some
        obtain ⟨fs, series, told, earlier⟩ :=
          (requested.ends b (alone mem station window only) station named).told free (station ▸ linked)
        rw [station] at earlier
        refine ⟨fs, more, by rw [sent, earlier, ← List.foldl_append]; rfl, fun c mem own window _ _ => ?_⟩
        rw [only c mem own window]
        exact ⟨series, told⟩
      · obtain ⟨fs, earlier, -⟩ := requested.before.sent (.crane h)
        exact ⟨fs, more, by rw [sent, earlier, ← List.foldl_append]; rfl, fun b mem station window named only =>
          absurd ⟨b, mem, station, window, named, only⟩ some⟩
    · have ends := requested.ends b (alone mem station window only) station named
      have ended := ends.ended.shed (requested.shed ends.distinct)
      exact ⟨ended.gone, station ▸ ended.outcome⟩
  · refine ⟨fun still z mem => State.holderTold_clear mem clearing ?_, fun moving => ?_⟩
    · rw [State.clearCondition, clear, still]
      rfl
    · rw [State.setVWind_vane, if_pos ⟨clearing, moving, rfl, clear⟩]
      exact ⟨rfl, rfl⟩

end Sys2Proof.Machine
end

section
/-! Frames that are no WIND notices: on a crane's link the work on claims and the wind line send none (R124). -/

namespace Sys2Proof.Machine

open Sys2Proof.Safety

/-! ### The wind line writes its own fields, and is silent on the cranes' links -/

/-- The records of the wind line, the alarms and frames for the supervisor alone are written. -/
structure LineWork (s t : State) : Prop where
  frame : t = { s with line := t.line, sensors := t.sensors, cycle := t.cycle, alarms := t.alarms, attn := t.attn,
                       enrolTag := t.enrolTag, held := t.held, tx := t.tx }
  silent : ∀ l, l ≠ .supervisor → SilentOn l s t

theorem SilentOn.ite {l : Link} {c : Prop} [Decidable c] {s t u : State} (h : SilentOn l s t) (k : SilentOn l s u) :
    SilentOn l s (if c then t else u) := by
  split
  · exact h
  · exact k

section
variable {s t u : State}

theorem LineWork.trans (h : LineWork s t) (k : LineWork t u) : LineWork s u where
  frame := by
    calc u = { t with line := u.line, sensors := u.sensors, cycle := u.cycle, alarms := u.alarms, attn := u.attn,
                      enrolTag := u.enrolTag, held := u.held, tx := u.tx } := k.frame
      _ = { s with line := u.line, sensors := u.sensors, cycle := u.cycle, alarms := u.alarms, attn := u.attn,
                   enrolTag := u.enrolTag, held := u.held, tx := u.tx } := by rw [h.frame]
  silent := fun l crane => (h.silent l crane).trans (k.silent l crane)

/-- A write of the records of the line alone. -/
theorem LineWork.of_eq
    (frame : t = { s with line := t.line, sensors := t.sensors, cycle := t.cycle, alarms := t.alarms,
                          attn := t.attn, enrolTag := t.enrolTag } := by rfl) : LineWork s t where
  frame := by
    generalize t.line = line, t.sensors = sensors, t.cycle = cycle, t.alarms = alarms, t.attn = attn,
      t.enrolTag = tag at frame
    subst frame
    rfl
  silent := fun l _ => by
    generalize t.line = line, t.sensors = sensors, t.cycle = cycle, t.alarms = alarms, t.attn = attn,
      t.enrolTag = tag at frame
    subst frame
    exact .of_eq

theorem LineWork.refl (s : State) : LineWork s s := .of_eq

theorem LineWork.ite {c : Prop} [Decidable c] (h : LineWork s t) (k : LineWork s u) :
    LineWork s (if c then t else u) := by
  split
  · exact h
  · exact k

theorem LineWork.foldl {β : Type} {f : State → β → State} (h : ∀ s b, LineWork s (f s b)) (s : State)
    (bs : List β) : LineWork s (bs.foldl f s) := foldl_related .refl .trans h s bs

theorem LineWork.alarmIs (s : State) (i : AlarmId) (b : Bool) : LineWork s (s.alarmIs i b) where
  frame := by
    have frame := AlarmFrame.alarmIs s i b
    generalize s.alarmIs i b = t at frame
    rw [frame]
  silent := fun _ crane => .alarmIs crane s i b

theorem LineWork.sendSupervisor (s : State) (fs : List Frame) : LineWork s (s.send .supervisor fs) where
  frame := rfl
  silent := fun _ crane => ⟨rfl, fun _ => rfl, PerLink.get_set_ne crane⟩

theorem LineWork.listCommand (s : State) (c : LineCommand) : LineWork s (s.listCommand c) := .ite (.refl s) .of_eq

theorem LineWork.putRecord (s : State) (a : Addr) (r : SensorRec) : LineWork s (s.putRecord a r) := by
  unfold State.putRecord
  extract_lets old written fault failed
  have writtenWork : LineWork s written := .of_eq
  have faultWork : LineWork s fault := .ite writtenWork (writtenWork.trans (.alarmIs _ _ _))
  have failedWork : LineWork s failed := .ite faultWork (faultWork.trans (.alarmIs _ _ _))
  exact .ite (failedWork.trans .of_eq) failedWork

theorem LineWork.commandSent (s : State) (c : LineCommand) : LineWork s (s.commandSent c) := by
  cases c with
  | assign a => exact .of_eq
  | run => exact (LineWork.of_eq (t := s.setLine _)).trans (.foldl (fun t a => .ite (.putRecord t a _) (.refl t)) _ _)
  | runTo a => exact .ite (.putRecord s a _) (.refl s)

theorem LineWork.sendCommand (s : State) (c : LineCommand) : LineWork s (s.sendCommand c) := by
  unfold State.sendCommand
  exact LineWork.trans .of_eq (.commandSent _ c)

theorem LineWork.startCycle (s : State) : LineWork s s.startCycle := by
  unfold State.startCycle
  extract_lets
  split
  · exact .of_eq
  · exact .of_eq
  · exact LineWork.trans .of_eq (.sendCommand _ _)

theorem LineWork.failAttempt (s : State) (a : Addr) : LineWork s (s.failAttempt a) :=
  .ite ((LineWork.putRecord s a _).trans (.listCommand _ _)) (.putRecord s a _)

theorem LineWork.expireChecking (s : State) (a : Addr) : LineWork s (s.expireChecking a) :=
  .ite (.failAttempt s a) (.refl s)

theorem LineWork.answerEnrol (s : State) (code : Code) : LineWork s (s.answerEnrol code) := by
  unfold State.answerEnrol
  split
  · exact .trans (t := { s with enrolTag := none }) .of_eq (.sendSupervisor _ _)
  · exact .refl s

theorem LineWork.expireEcho (s : State) : LineWork s s.expireEcho := by
  unfold State.expireEcho
  split
  · exact LineWork.trans .of_eq (.answerEnrol _ _)
  · exact .refl s

theorem LineWork.takeCycleEnds (s : State) : LineWork s s.takeCycleEnds := by
  have watch (t : State) : LineWork t t.stopWatch := .ite .of_eq (.refl t)
  have silent (t : State) (a : Addr) : LineWork t (t.expireSilent a) := .ite (.putRecord t a _) (.refl t)
  exact (((LineWork.expireEcho s).trans (watch _)).trans (.foldl .expireChecking _ _)).trans (.foldl silent _ _)

theorem LineWork.readEcho (s : State) (slots : PerAddr Slot) : LineWork s (s.readEcho slots) := by
  unfold State.readEcho
  split
  · exact .ite (((LineWork.of_eq (t := s.setLine _)).trans (.putRecord _ _ _)).trans (.answerEnrol _ _)) .of_eq
  · exact .refl s

theorem LineWork.findWatched (s : State) (a : Addr) (y : Reply) : LineWork s (s.findWatched a y) := by
  simp only [State.findWatched]
  split
  · exact .ite (.putRecord s a _) (.refl s)
  · exact .refl s

theorem LineWork.readAttempt (s : State) (a : Addr) (moved : Option SensorRec) : LineWork s (s.readAttempt a moved) := by
  cases moved with
  | some r => exact .putRecord s a _
  | none =>
    have below : LineWork s (s.expireCheckingBelow a) := .foldl .expireChecking s _
    exact (below.trans .of_eq).trans (.failAttempt _ a)

theorem LineWork.readAddr (slots : PerAddr Slot) (s : State) (a : Addr) : LineWork s (State.readAddr slots s a) := by
  unfold State.readAddr
  extract_lets y found r
  have foundWork : LineWork s found := .findWatched s a y
  split
  · exact foundWork.trans (.readAttempt _ a _)
  · exact foundWork.trans (.readAttempt _ a _)
  · exact foundWork.trans (.readAttempt _ a _)
  · exact foundWork.trans (.putRecord _ a _)
  · exact foundWork.trans (.putRecord _ a _)
  all_goals exact foundWork

theorem LineWork.readSlots (s : State) (kind : CycleKind) (slots : PerAddr Slot) :
    LineWork s (s.readSlots kind slots) := by
  unfold State.readSlots
  split
  · exact .readEcho s slots
  · exact ((LineWork.readEcho s slots).trans (.foldl (.readAddr slots) _ Addr.all)).trans .of_eq
  · exact .refl s

end

section
variable {l : Link} (crane : l ≠ .supervisor)
include crane

theorem SilentOn.setOverdue (s : State) (n : Station) (b : Bool) : SilentOn l s (s.setOverdue n b) :=
  .ite (.refl s) ((SilentOn.of_eq (t := s.setVane n _)).trans (.alarmIs crane _ _ _))

theorem SilentOn.judgeClear (s : State) (n : Station) : SilentOn l s (s.judgeClear n) :=
  .ite ((SilentOn.of_eq (t := s.setVane n _)).trans (.setOverdue crane _ n false)) (.refl s)

theorem SilentOn.formFigures (s : State) (n : Station) : SilentOn l s (s.formFigures n) :=
  .ite (.of_eq (t := s.setWind n _)) ((SilentOn.of_eq (t := s.setWind n _)).trans (.alarmIs crane _ _ _))

end

/-! ### No WIND notice for a station -/

/-- No WIND notice is sent to a station. -/
structure Windless (n : Station) (s t : State) : Prop where
  handling : t.handling = s.handling
  sent : s.handling = none → ∃ more : List Frame, (∀ f ∈ more, f.isWind = false) ∧
    t.tx.get (.crane n) = more.foldl Tx.push (s.tx.get (.crane n))

section
variable {n : Station} {s t u : State}

theorem SilentOn.windless (h : SilentOn (.crane n) s t) : Windless n s t :=
  ⟨h.handling, fun _ => ⟨[], List.forall_mem_nil _, h.sent⟩⟩

theorem Windless.refl (n : Station) (s : State) : Windless n s s := (SilentOn.refl s).windless

theorem Windless.of_eq (handling : t.handling = s.handling := by rfl) (tx : t.tx = s.tx := by rfl) : Windless n s t :=
  ⟨handling, fun _ => ⟨[], List.forall_mem_nil _, by rw [tx]; rfl⟩⟩

theorem Windless.trans (h : Windless n s t) (k : Windless n t u) : Windless n s u := by
  refine ⟨k.handling.trans h.handling, fun free => ?_⟩
  obtain ⟨first, plain, sent⟩ := h.sent free
  obtain ⟨rest, plain', sent'⟩ := k.sent (h.handling.trans free)
  refine ⟨first ++ rest, fun f mem => ?_, by rw [sent', sent, List.foldl_append]⟩
  exact (List.mem_append.mp mem).elim (plain f) (plain' f)

theorem Windless.foldl {β : Type} {f : State → β → State} (h : ∀ s b, Windless n s (f s b)) (s : State)
    (bs : List β) : Windless n s (bs.foldl f s) := foldl_related (.refl n) .trans h s bs

theorem Windless.raise (s : State) {l : Link} {f : Frame} (other : l = .crane n → f.isWind = false) :
    Windless n s (s.raise l f) := by
  by_cases own : l = .crane n
  · refine ⟨(Talks.raise s l f).handling, fun free => ⟨[f], ?_, ?_⟩⟩
    · simpa using other own
    · rw [State.raise, if_neg (by rw [free]; nofun), own]
      simp [State.send]
  · exact (SilentOn.raise own s f).windless

theorem Windless.notify (s : State) {m : Station} {y : Notice} (other : m = n → (Frame.notice y).isWind = false) :
    Windless n s (s.notify m y) := by
  unfold State.notify
  split
  · exact .refl n s
  · exact .raise s fun e => other (by simpa using e)

theorem Claim.windless (h : Claim s t) : Windless n s t := by
  cases h with
  | raise l f other => exact .raise s fun _ => other
  | permit m => exact (SilentOn.reevalPermit s m).windless
  | entry | arb | zone | bookings | ended => exact .of_eq
  | clear m => exact (SilentOn.judgeClear (l := .crane n) nofun s m).windless
  | line m z => exact (Windless.of_eq (by unfold State.judgeSwingLine; extract_lets; split <;> rfl)
      (by unfold State.judgeSwingLine; extract_lets; split <;> rfl))

theorem Claims.windless (h : Claims s t) : Windless n s t :=
  h.keeps (P := Windless n s) (fun claim ih => ih.trans claim.windless) (.refl n s)

theorem Windless.judgeSequence (s : State) (m : Station) : Windless n s (s.judgeSequence m) := by
  have overdue (t : State) (b : Bool) : Windless n t (t.setOverdue m b) := (SilentOn.setOverdue (l := .crane n) nofun t m b).windless
  have begins : Windless n s (s.beginSequence m) :=
    (((Windless.of_eq (t := s.setVane m _)).trans (Claims.neighboursAsked _ m).windless).trans
      ((Windless.of_eq (t := State.setVane _ m _)).trans (overdue _ false))).trans
      (SilentOn.judgeClear (l := .crane n) nofun _ m).windless
  have ends : Windless n s (s.endSequence m) :=
    ((Windless.of_eq (t := s.setVane m _)).trans (overdue _ false)).trans
      ((Claims.refl _).serveMemberZones m).windless
  unfold State.judgeSequence
  split
  · split
    · exact begins
    · exact .refl n s
  · split
    · exact .refl n s
    · exact ends
  · split
    · exact .refl n s
    · exact ends
  · exact .refl n s

theorem Windless.tellStage (s : State) (m : Station) (stage : Stage) (first : Bool) :
    Windless n s (s.tellStage m stage first) := by
  unfold State.tellStage
  split
  · exact ((Claims.refl s).stageToldBookings m stage).windless.trans (.judgeSequence _ m)
  · exact (Windless.judgeSequence s m).trans ((Claims.refl _).stageToldBookings m stage).windless

/-- The change of another station's stage. -/
theorem Windless.changeStage {m : Station} (ne : m ≠ n) (s : State) (stage : Stage) (first : Bool) :
    Windless n s (s.changeStage m stage first) := by
  unfold State.changeStage
  extract_lets w
  split
  · exact .refl n s
  · exact ((Windless.of_eq (t := s.setWind m _)).trans (.notify _ fun same => absurd same ne)).trans (.tellStage _ m stage first)

end

end Sys2Proof.Machine
end

section
/-! The bookings of a station in window as stages are told (R162, R167). -/

namespace Sys2Proof.Machine

open Sys2Proof.Safety

/-- At SHUTDOWN a booking in window ends (R167). -/
theorem State.bookingStageTold_shutdown (s : State) (b : Booking) : State.bookingStageTold .shutdown s b =
    if b.inWindow then s.endBooking b .abortedWind else s := by
  cases state : b.state <;> simp [State.bookingStageTold, Booking.inWindow, Booking.window?, state]

/-- No booking of the station is in window. -/
def State.Quiet (s : State) (n : Station) : Prop := ∀ c ∈ s.bookings, c.station = n → c.inWindow = false

/-- Each booking of `t` has its number and its station from `s`. -/
def Rooted (s t : State) : Prop := ∀ c ∈ t.bookings, ∃ b ∈ s.bookings, b.number = c.number ∧ b.station = c.station

section
variable {s t u : State} {b c : Booking} {n : Station}

theorem Rooted.refl (s : State) : Rooted s s := fun c mem => ⟨c, mem, rfl, rfl⟩

theorem Rooted.trans (h : Rooted s t) (k : Rooted t u) : Rooted s u := fun c mem => by
  obtain ⟨b, mem, number, station⟩ := k c mem
  obtain ⟨a, mem, number', station'⟩ := h b mem
  exact ⟨a, mem, number'.trans number, station'.trans station⟩

theorem Shed.rooted {K : Keeping} (h : Shed K s t) : Rooted s t := fun c mem => by
  obtain ⟨b, mem, number, station, -⟩ := h.origin c mem
  exact ⟨b, mem, number, station⟩

/-- What the opening of a booking leaves in the table (R163). -/
theorem State.openBooking_mem {remaining ends : Nat} (h : c ∈ (s.openBooking b remaining ends).bookings) :
    c.number = b.number ∧ c.station = b.station ∨ c.number ≠ b.number ∧ c ∈ s.bookings := by
  rcases State.mem_openBooking h with ⟨number, -⟩ | other
  · refine .inl ⟨number, ?_⟩
    obtain rfl | ⟨-, ne⟩ := State.mem_putBooking (State.openBooking_eq s b remaining ends ▸ h)
    · rfl
    · exact absurd number ne
  · exact .inr other

theorem Rooted.openBooking (mem : b ∈ s.bookings) (remaining ends : Nat) : Rooted s (s.openBooking b remaining ends) :=
  fun c there => (State.openBooking_mem there).elim (fun own => ⟨b, mem, own.1.symm, own.2.symm⟩)
    fun other => ⟨c, other.2, rfl, rfl⟩

theorem State.Quiet.openBooking (h : s.Quiet n) (ne : b.station ≠ n) (remaining ends : Nat) :
    (s.openBooking b remaining ends).Quiet n := fun c mem own => by
  rcases State.openBooking_mem mem with ⟨-, station⟩ | ⟨-, mem⟩
  · exact absurd (station.symm.trans own) ne
  · exact h c mem own

/-- The turn of one booking as a stage is told. -/
theorem State.bookingStageTold_turn (found : s.booking? b.number = some b) (stage : Stage) :
    Rooted s (State.bookingStageTold stage s b) ∧
      (b.station ≠ n → s.Quiet n → (State.bookingStageTold stage s b).Quiet n) := by
  have ends (e : Ending) : Rooted s (s.endBooking b e) ∧ (b.station ≠ n → s.Quiet n → (s.endBooking b e).Quiet n) := by
    have shed : Shed .nothing s (s.endBooking b e) := (Shed.refl s).endBooking found id e
    exact ⟨shed.rooted, fun _ quiet => shed.quiet quiet⟩
  have opens (k e : Nat) : Rooted s (s.openBooking b k e) ∧
      (b.station ≠ n → s.Quiet n → (s.openBooking b k e).Quiet n) :=
    ⟨.openBooking (State.mem_of_booking? found) k e, fun ne quiet => quiet.openBooking ne k e⟩
  unfold State.bookingStageTold
  split
  · exact ends _
  · exact ends _
  · split
    · exact ends _
    · exact opens _ _
  · split
    · exact ends _
    · exact opens _ _
  · exact ⟨.refl s, fun _ => id⟩

/-- The numbers of a station's bookings, which are told of its stage. -/
theorem State.stageToldBookings_eq (s : State) (n : Station) (stage : Stage) :
    s.stageToldBookings n stage = ((s.bookings.map (·.number)).filter fun num =>
      (s.booking? num).any fun b => b.station == n).foldl (State.stepNumber (State.bookingStageTold stage)) s := by
  unfold State.stageToldBookings
  refine (congrArg (fun sel => s.overBookings sel _) (funext fun num => ?_)).trans (State.overBookings_eq ..)
  cases s.booking? num <;> rfl

/-- The stage of another station opens none of a station's bookings. -/
theorem State.Quiet.stageToldBookings (distinct : s.Numbered) {m : Station} (ne : m ≠ n) (quiet : s.Quiet n)
    (stage : Stage) : (s.stageToldBookings m stage).Quiet n := by
  rw [State.stageToldBookings_eq]
  have fold (ks : List Nat) (own : ∀ k ∈ ks, ((s.booking? k).any fun b => b.station == m) = true) (t : State)
      (rooted : Rooted s t) (quiet : t.Quiet n) :
      (ks.foldl (State.stepNumber (State.bookingStageTold stage)) t).Quiet n := by
    induction ks generalizing t with
    | nil => exact quiet
    | cons k ks ih =>
      have turn : Rooted t (State.stepNumber (State.bookingStageTold stage) t k) ∧
          (State.stepNumber (State.bookingStageTold stage) t k).Quiet n := by
        unfold State.stepNumber
        split
        case h_1 b found =>
          have number := State.number_of_booking? found
          rw [← number] at found
          obtain ⟨told, keeps⟩ := State.bookingStageTold_turn (n := n) found stage
          refine ⟨told, keeps ?_ quiet⟩
          obtain ⟨d, mem, same, station⟩ := rooted b (State.mem_of_booking? found)
          have named := own k (List.mem_cons_self ..)
          rw [← number, ← same, distinct.booking? mem] at named
          rw [← station]
          exact fun e => ne ((beq_iff_eq.mp named).symm.trans e)
        case h_2 => exact ⟨.refl t, quiet⟩
      exact ih (fun j mem => own j (List.mem_cons_of_mem _ mem)) _ (rooted.trans turn.1) turn.2
  exact fold _ (fun k mem => (List.mem_filter.mp mem).2) s (.refl s) quiet

/-- At SHUTDOWN none of a station's bookings stays in window (R167). -/
theorem State.stageToldBookings_quiet (distinct : s.Numbered) (n : Station) :
    (s.stageToldBookings n .shutdown).Quiet n := by
  have turns (ks : List Nat) (t : State) :
      Shed .nothing t (ks.foldl (State.stepNumber (State.bookingStageTold .shutdown)) t) := by
    refine (Shed.refl t).foldl (fun {u} k h => ?_) ks
    unfold State.stepNumber
    split
    case h_1 b found =>
      have number := State.number_of_booking? found
      rw [← number] at found
      rw [State.bookingStageTold_shutdown]
      exact .ite (h.endBooking found id _) h
    case h_2 => exact h
  rw [State.stageToldBookings_eq]
  intro c mem own
  set ks := (s.bookings.map (·.number)).filter fun num => (s.booking? num).any fun b => b.station == n with numbers
  obtain ⟨b, there, number, station, -⟩ := (turns ks s).origin c mem
  have here : c.number ∈ ks := by
    refine List.mem_filter.mpr ⟨List.mem_map.mpr ⟨b, there, number⟩, ?_⟩
    rw [← number, distinct.booking? there]
    simpa using station.trans own
  obtain ⟨first, rest, split⟩ := List.append_of_mem here
  rw [split, List.foldl_append, List.foldl_cons] at mem
  have before := (turns first s).numbered distinct
  generalize first.foldl (State.stepNumber (State.bookingStageTold .shutdown)) s = u at mem before
  /- The turn of the number leaves no booking of it in window. -/
  have turn : ∀ d ∈ (State.stepNumber (State.bookingStageTold .shutdown) u c.number).bookings,
      d.number = c.number → d.inWindow = false := by
    intro d mem number
    unfold State.stepNumber at mem
    split at mem
    case h_1 a found =>
      have same := State.number_of_booking? found
      rw [State.bookingStageTold_shutdown] at mem
      by_cases window : a.inWindow = true
      · rw [if_pos window] at mem
        rcases State.mem_endBooking mem with ⟨-, pending⟩ | ⟨other, -⟩
        · exact Booking.inWindow_of_pending pending
        · exact absurd (number.trans same.symm) other
      · rw [if_neg window] at mem
        have d_is := before.booking? mem
        rw [number, found] at d_is
        obtain rfl := Option.some.inj d_is
        simpa using window
    case h_2 missing =>
      have d_is := before.booking? mem
      rw [number, missing] at d_is
      cases d_is
  obtain ⟨d, mem, number, -, passed | ⟨pending, -⟩⟩ := (turns rest _).origin c mem
  · rw [passed.inWindow]
    exact turn d mem number
  · exact Booking.inWindow_of_pending pending

end

end Sys2Proof.Machine
end

section
/-! What the telling of a stage does to the bookings of its station (R162, R167). -/

namespace Sys2Proof.Machine

open Sys2Proof.Safety

section
variable {s t u : State} {b c : Booking} {n : Station}

theorem Stands.refl (b : Booking) (s : State) : Stands b s s := ⟨.refl s, ⟨.refl s, fun _ => rfl⟩⟩

/-! ### The station's own sequence (R132, R139) -/

/-- A booking of the station itself stands while its neighbours are asked. -/
theorem Shed.askedOthers (distinct : s.Numbered) (mem : b ∈ s.bookings) {zhs : List (Zone × Station)}
    (others : ∀ zh ∈ zhs, zh.2 ≠ b.station) (h : Shed (.numbered b.number) s t) (v : Station) :
    Shed (.numbered b.number) s (zhs.foldl (State.requestClearance v) t) := by
  induction zhs generalizing t with
  | nil => exact h
  | cons zh zhs ih =>
    refine ih (fun zh mem => others zh (List.mem_cons_of_mem _ mem))
      (h.requestClearance distinct v zh fun {c} there _ station _ same => ?_)
    obtain ⟨d, found, passed⟩ := h.stays b rfl (distinct.booking? mem)
    have c_is := (h.numbered distinct).booking? there
    rw [show c.number = b.number from same, found] at c_is
    obtain rfl := Option.some.inj c_is
    refine others zh (List.mem_cons_self ..) ?_
    rw [← station, passed.fields]

theorem State.othersHolding_ne {zh : Zone × Station} (mem : zh ∈ s.othersHolding n) : zh.2 ≠ n := by
  obtain ⟨z, -, found⟩ := List.mem_filterMap.mp mem
  cases held : s.holder z with
  | none => simp [held] at found
  | some h =>
    by_cases own : h = n
    · simp [held, own] at found
    · simp only [held, own, if_false, Option.some.injEq] at found
      rw [← found]
      exact own

theorem Shed.endSequence {K : Keeping} (h : Shed K s t) (v : Station) : Shed K s (t.endSequence v) :=
  ((h.setVane v _).overdueEnds v).serveMemberZones v

theorem Shed.ownSequence (distinct : s.Numbered) (mem : b ∈ s.bookings) (h : Shed (.numbered b.number) s t) :
    Shed (.numbered b.number) s (t.judgeSequence b.station) := by
  have begins : Shed (.numbered b.number) s (t.beginSequence b.station) :=
    (((Shed.askedOthers distinct mem (fun zh mem => State.othersHolding_ne mem) (h.setVane b.station _)
      b.station).setVane b.station _).overdueEnds b.station).judgeClear b.station
  unfold State.judgeSequence
  split
  · exact .ite begins h
  · exact .ite h (h.endSequence _)
  · exact .ite h (h.endSequence _)
  · exact h

/-- The sequence of a station below SHUTDOWN ends no booking (R131). -/
theorem Shed.calmSequence {K : Keeping} (h : Shed K s t) (calm : (t.wind.get n).stage ≠ .shutdown) :
    Shed K s (t.judgeSequence n) := by
  have ended : t.inForce n = false := by simp [State.inForce, calm]
  unfold State.judgeSequence
  split
  · rw [if_neg (by rw [ended]; nofun)]; exact h
  · rw [if_neg (by rw [ended]; nofun)]; exact h.endSequence _
  · rw [if_neg (by rw [ended]; nofun)]; exact h.endSequence _
  · exact h

theorem TalksOn.judgeSequence (s : State) (n : Station) : TalksOn s (s.judgeSequence n) :=
  .of_zoneWork ((Work.refl (x := ∅) s).judgeSequence n).talks (zoneWork_judgeSequence s n)

/-! ### At SHUTDOWN (R167) -/

/-- The turns at SHUTDOWN of bookings with other numbers leave a booking standing. -/
theorem Stands.numbers (h : Stands b s t) {ks : List Nat} (others : b.number ∉ ks) :
    Stands b s (ks.foldl (State.stepNumber (State.bookingStageTold .shutdown)) t) := by
  induction ks generalizing t with
  | nil => exact h
  | cons k ks ih =>
    refine ih ?_ (fun mem => others (List.mem_cons_of_mem _ mem))
    have ne : k ≠ b.number := fun same => others (same ▸ List.mem_cons_self ..)
    unfold State.stepNumber
    split
    case h_1 c found =>
      have number := State.number_of_booking? found
      rw [← number] at found ne
      rw [State.bookingStageTold_shutdown]
      split
      · exact h.endOther found ne
      · exact h
    case h_2 => exact h

theorem EndsSince.numbers {e : Ending} (h : EndsSince b e s t) (ks : List Nat) :
    EndsSince b e s (ks.foldl (State.stepNumber (State.bookingStageTold .shutdown)) t) := by
  induction ks generalizing t with
  | nil => exact h
  | cons k ks ih =>
    refine ih ?_
    unfold State.stepNumber
    split
    case h_1 c found =>
      have number := State.number_of_booking? found
      rw [← number] at found
      rw [State.bookingStageTold_shutdown]
      split
      · next window =>
        exact h.shed ((Shed.refl t).endBooking found (fun own => by rw [own.2] at window; cases window) _)
          (.endBooking t c _)
      · exact h
    case h_2 => exact h

/-- The one booking of a station in window ends ABORTED(WIND) at SHUTDOWN (R167). -/
theorem State.stageToldBookings_ends (alone : s.Alone b) (whole : b.EndsWhole .abortedWind) :
    (s.stageToldBookings b.station .shutdown).Ended b .abortedWind := by
  rw [State.stageToldBookings_eq]
  have here : b.number ∈ (s.bookings.map (·.number)).filter fun num =>
      (s.booking? num).any fun c => c.station == b.station := by
    refine List.mem_filter.mpr ⟨List.mem_map.mpr ⟨b, alone.mem, rfl⟩, ?_⟩
    rw [alone.distinct.booking? alone.mem]
    simp
  obtain ⟨first, rest, split, fresh⟩ := List.eq_append_cons_of_mem here
  rw [split, List.foldl_append, List.foldl_cons]
  have before := (Stands.refl b s).numbers fresh
  generalize first.foldl (State.stepNumber (State.bookingStageTold .shutdown)) s = u at before
  obtain ⟨c, found, passed⟩ := before.booking? alone
  have window : c.inWindow = true := passed.inWindow.trans alone.window
  have turn : State.stepNumber (State.bookingStageTold .shutdown) u b.number = u.endBooking c .abortedWind := by
    simp only [State.stepNumber, found, State.bookingStageTold_shutdown, window, if_true]
  rw [turn]
  exact ((before.endBooking alone found passed whole).numbers rest).ended

/-- A standing booking in window is the one of its station in window. -/
theorem Stands.alone (h : Stands b s u) (alone : s.Alone b) : ∃ c, u.Alone c ∧ b.Passed c := by
  obtain ⟨c, found, passed⟩ := h.booking? alone
  have distinct := h.shed.numbered alone.distinct
  have station : c.station = b.station := by rw [passed.fields]
  refine ⟨c, ⟨distinct, State.mem_of_booking? found, passed.inWindow.trans alone.window, fun d mem own window => ?_⟩,
    passed⟩
  have d_is := distinct.booking? mem
  rw [h.only alone mem (own.trans station) window, found] at d_is
  exact (Option.some.inj d_is).symm

theorem State.tellStage_quiet (distinct : s.Numbered) (n : Station) (first : Bool) :
    (s.tellStage n .shutdown first).Quiet n := by
  have judged (t : State) (distinct : t.Numbered) : Shed .nothing t (t.judgeSequence n) :=
    (Shed.refl t).judgeSequence ⟨distinct, fun _ _ _ => id⟩ n
  unfold State.tellStage
  split
  · have told : Shed .nothing s (s.stageToldBookings n .shutdown) :=
      (Shed.refl s).stageToldBookings n fun _ _ _ => id
    exact (judged _ (told.numbered distinct)).quiet (State.stageToldBookings_quiet distinct n)
  · exact State.stageToldBookings_quiet ((judged s distinct).numbered distinct) n

theorem State.tellStage_ends (alone : s.Alone b) (whole : b.EndsWhole .abortedWind) (first : Bool) :
    (s.tellStage b.station .shutdown first).Ended b .abortedWind := by
  unfold State.tellStage
  split
  · have ended := State.stageToldBookings_ends alone whole
    have told : Shed .nothing s (s.stageToldBookings b.station .shutdown) :=
      (Shed.refl s).stageToldBookings b.station fun _ _ _ => id
    exact ended.shed ((Shed.refl _).judgeSequence (.idle (told.numbered alone.distinct) _) _)
  · obtain ⟨c, alone', passed⟩ := Stands.alone
      ⟨Shed.ownSequence alone.distinct alone.mem (.refl s), .judgeSequence s b.station⟩ alone
    have station : c.station = b.station := by rw [passed.fields]
    have ended := State.stageToldBookings_ends alone' (by rw [Booking.EndsWhole, passed.fields]; exact whole)
    rw [station] at ended
    obtain ⟨gone, outcome, quiet⟩ := ended
    rw [passed.number] at gone
    rw [station, passed.number] at outcome
    rw [station] at quiet
    exact ⟨gone, outcome, quiet⟩

end

end Sys2Proof.Machine
end

section
/-! A DEFERRED booking as its station comes to NORMAL or CAUTION (R162, R167), and the change of a stage. -/

namespace Sys2Proof.Machine

open Sys2Proof.Safety

/-- Every booking is kept. -/
def Keeping.all : Keeping := ⟨fun _ => True, fun _ => id⟩

theorem Booking.Passed.of_closed {b c : Booking} (h : b.Passed c) (closed : b.window? = none) : c = b := by
  obtain same | ⟨w, -, opened, -⟩ := h.state
  · rw [h.fields, same]
  · rw [closed] at opened
    cases opened

/-- What has become of a DEFERRED booking whose window ends at `e`: it is open with the time left, or it has lapsed
(R162). -/
structure State.Undeferred (s : State) (b : Booking) (e now : Nat) : Prop where
  opens : now < e → ∃ c w, s.booking? b.number = some c ∧ c.window? = some w ∧ w.ends = e ∧ w.remaining = e - now ∧
    w.extension = none ∧ w.due = false
  lapses : e ≤ now → b.EndsWhole .lapsedDeferred → s.booking? b.number = none ∧
    (s.ctx.get b.station).lastEnded = some ⟨b.number, .lapsedDeferred⟩

section
variable {s t : State} {b c : Booking} {n : Station} {e now : Nat} {stage : Stage}

theorem State.Undeferred.shed (h : s.Undeferred b e now) (k : Shed .all s t) : t.Undeferred b e now where
  opens := fun left => by
    obtain ⟨c, w, found, opened, ends, remaining, extension, due⟩ := h.opens left
    have number := State.number_of_booking? found
    rw [← number] at found
    obtain ⟨d, found, passed⟩ := k.stays c trivial found
    rw [number] at found
    obtain same | ⟨w', v, opened', now', kept⟩ := passed.state
    · exact ⟨d, w, found, (Booking.window?_of_state same).trans opened, ends, remaining, extension, due⟩
    · obtain rfl := Option.some.inj (opened.symm.trans opened')
      refine ⟨d, v, found, now', ?_, ?_, ?_, ?_⟩ <;> rw [kept]
      exacts [ends, remaining, extension, due]
  lapses := fun past whole => by
    obtain ⟨gone, outcome⟩ := h.lapses past whole
    exact ⟨k.booking?_none gone, (k.ended _ fun _ _ _ => trivial).trans outcome⟩

/-- A booking is the one of its station beyond PENDING. -/
structure State.OnlyBeyond (s : State) (b : Booking) : Prop where
  distinct : s.Numbered
  mem : b ∈ s.bookings
  only : ∀ c ∈ s.bookings, c.station = b.station → c.state ≠ .pending → c = b

theorem State.bookingStageTold_pending (pending : c.state = .pending) (stage : Stage) (s : State) :
    State.bookingStageTold stage s c = s := by
  simp only [State.bookingStageTold, pending]

theorem State.bookingStageTold_deferred (deferred : b.state = .deferred e) (above : stage = .normal ∨ stage = .caution) :
    State.bookingStageTold stage s b = if e ≤ s.clock.time then s.endBooking b .lapsedDeferred
      else s.openBooking b (e - s.clock.time) e := by
  rcases above with rfl | rfl <;> simp only [State.bookingStageTold, deferred]

/-- The telling of a stage takes the one booking of its station beyond PENDING. -/
theorem State.OnlyBeyond.stageToldBookings (h : s.OnlyBeyond b) (deferred : b.state = .deferred e)
    (above : stage = .normal ∨ stage = .caution) :
    s.stageToldBookings b.station stage = State.bookingStageTold stage s b := by
  have found := h.distinct.booking? h.mem
  rw [State.stageToldBookings_eq]
  set ks := (s.bookings.map (·.number)).filter fun num => (s.booking? num).any fun c => c.station == b.station
    with numbers
  have here : b.number ∈ ks := List.mem_filter.mpr ⟨List.mem_map.mpr ⟨b, h.mem, rfl⟩, by rw [found]; simp⟩
  have unique : ks.Nodup := h.distinct.filter _
  /- Another booking of the station is PENDING. -/
  have others {k : Nat} (mem : k ∈ ks) (ne : k ≠ b.number) {c : Booking} (there : c ∈ s.bookings)
      (number : c.number = k) : c.state = .pending := by
    have station := (List.mem_filter.mp mem).2
    rw [← number, h.distinct.booking? there] at station
    by_contra beyond
    exact ne (by rw [← number, h.only c there (beq_iff_eq.mp station) beyond])
  obtain ⟨first, rest, split, fresh⟩ := List.eq_append_cons_of_mem here
  rw [split] at unique others ⊢
  have later : b.number ∉ rest := (List.nodup_cons.mp (List.nodup_append.mp unique).2.1).1
  have before : first.foldl (State.stepNumber (State.bookingStageTold stage)) s = s := foldl_of_idle fun k mem =>
    State.stepNumber_of_idle fun c there number => State.bookingStageTold_pending
      (others (List.mem_append_left _ mem) (fun same => fresh (same ▸ mem)) there number) stage s
  have turn : State.stepNumber (State.bookingStageTold stage) s b.number = State.bookingStageTold stage s b := by
    simp only [State.stepNumber, found]
  rw [List.foldl_append, List.foldl_cons, before, turn]
  refine foldl_of_idle fun k mem => State.stepNumber_of_idle fun c there number =>
    State.bookingStageTold_pending ?_ stage _
  have ne : k ≠ b.number := fun same => later (same ▸ mem)
  have listed := List.mem_append_right first (List.mem_cons_of_mem b.number mem)
  rw [State.bookingStageTold_deferred deferred above] at there
  split at there
  · rcases State.mem_endBooking there with ⟨-, pending⟩ | ⟨-, d, mem, passed⟩
    · exact pending
    · have pending := others listed ne mem (passed.number.symm.trans number)
      rw [passed.of_pending pending]
      exact pending
  · rcases State.openBooking_mem there with ⟨own, -⟩ | ⟨-, mem⟩
    · exact absurd (number.symm.trans own) ne
    · exact others listed ne mem number

theorem State.OnlyBeyond.undeferred (h : s.OnlyBeyond b) (deferred : b.state = .deferred e)
    (above : stage = .normal ∨ stage = .caution) :
    (s.stageToldBookings b.station stage).Undeferred b e s.clock.time := by
  rw [h.stageToldBookings deferred above, State.bookingStageTold_deferred deferred above]
  refine ⟨fun left => ?_, fun past whole => ?_⟩
  · rw [if_neg (Nat.not_le.mpr left)]
    refine ⟨_, { ends := e, remaining := e - s.clock.time, extension := none, passed := b.zones.filter fun z =>
      (s.openBooking b (e - s.clock.time) e).holds b.station z, due := false },
      State.openBooking_booking? (h.distinct.booking? h.mem) _ _, ?_, rfl, rfl, rfl, rfl⟩
    unfold openState
    split <;> rfl
  · rw [if_pos past]
    exact State.endBooking_whole whole

/-- A DEFERRED booking's station comes to NORMAL or CAUTION (R162, R167). -/
theorem State.OnlyBeyond.tellStage (h : s.OnlyBeyond b) (deferred : b.state = .deferred e)
    (above : stage = .normal ∨ stage = .caution) (here : (s.wind.get b.station).stage = stage) (first : Bool) :
    (s.tellStage b.station stage first).Undeferred b e s.clock.time := by
  have calm : (s.wind.get b.station).stage ≠ .shutdown := by
    rw [here]
    rcases above with rfl | rfl <;> nofun
  unfold State.tellStage
  split
  · have wind := wind_of_zoneWork (zoneWork_stageToldBookings s b.station stage)
    exact (h.undeferred deferred above).shed ((Shed.refl _).calmSequence (by rw [wind]; exact calm))
  · have judged : Shed .all s (s.judgeSequence b.station) := (Shed.refl s).calmSequence calm
    have time : (s.judgeSequence b.station).clock = s.clock := by rw [(zoneWork_judgeSequence s b.station).1]
    obtain ⟨c, found, passed⟩ := judged.stays b trivial (h.distinct.booking? h.mem)
    obtain rfl := passed.of_closed (by simp [Booking.window?, deferred])
    have beyond : (s.judgeSequence c.station).OnlyBeyond c := by
      refine ⟨judged.numbered h.distinct, State.mem_of_booking? found, fun d mem station state => ?_⟩
      obtain ⟨a, mem, -, same, was | ⟨-, no⟩⟩ := judged.origin d mem
      · by_cases pending : a.state = .pending
        · exact absurd (was.of_pending pending ▸ pending) state
        · obtain rfl := h.only a mem (same.trans station) pending
          exact was.of_closed (by simp [Booking.window?, deferred])
      · exact absurd trivial no
    rw [← time]
    exact beyond.undeferred deferred above

/-! ### The change of a stage (R124) -/

/-- A station's stage has been written and the station told, before the blocks are told. -/
def State.stageSet (s : State) (n : Station) (stage : Stage) : State :=
  (s.setWind n { s.wind.get n with stage := stage }).notify n (.wind stage (s.wind.get n).stage)

theorem State.changeStage_eq (ne : (s.wind.get n).stage ≠ stage) (first : Bool) :
    s.changeStage n stage first = (s.stageSet n stage).tellStage n stage first := if_neg ne

theorem State.stageSet_frame (s : State) (n : Station) (stage : Stage) :
    AlarmFrame (s.setWind n { s.wind.get n with stage := stage }) (s.stageSet n stage) := .notify _ _ _

theorem State.changeStage_winds (s : State) (n : Station) (stage : Stage) (first : Bool) :
    (s.changeStage n stage first).wind = s.wind.set n { s.wind.get n with stage := stage } := by
  refine PerStation.eq_of_get fun m => ?_
  by_cases own : m = n
  · subst own
    rw [State.changeStage_wind, PerStation.get_set_same]
  · rw [(StageKept.changeStage s n stage first).wind m own, PerStation.get_set_ne own]

end

end Sys2Proof.Machine
end

section
/-! The evaluation of a station at a hand-over (R115 .. R119, R123). -/

namespace Sys2Proof.Machine

open Sys2Proof.Safety

/-! ### The figures (R116) -/

/-- A sensor that counts for a station, and its figures. -/
def State.Reads (s : State) (n : Station) (a : Addr) (x : Nat × Nat) : Prop :=
  (s.station n).anemometers.get a = true ∧ (s.sensors.get a).state = .running ∧ (s.sensors.get a).figures = some x

theorem State.mem_runningFigures {s : State} {n : Station} {x : Nat × Nat} :
    x ∈ s.runningFigures n ↔ ∃ a, s.Reads n a x := by
  simp only [State.runningFigures, List.mem_filterMap, List.mem_filter, Bool.and_eq_true, beq_iff_eq, and_assoc]
  exact ⟨fun ⟨a, _, reads⟩ => ⟨a, reads⟩, fun ⟨a, reads⟩ => ⟨a, Addr.mem_all a, reads⟩⟩

theorem greatestFigures_eq_none {fs : List (Nat × Nat)} : greatestFigures fs = none ↔ fs = [] := by
  cases fs <;> simp [greatestFigures]

/-- The figures taken together so far are each one of the list, and bound it. -/
theorem foldl_greatest (f : Nat × Nat) (fs : List (Nat × Nat)) :
    let g := fs.foldl (fun g h => (max g.1 h.1, max g.2 h.2)) f
    (∃ x ∈ f :: fs, x.1 = g.1) ∧ (∃ x ∈ f :: fs, x.2 = g.2) ∧ ∀ x ∈ f :: fs, x.1 ≤ g.1 ∧ x.2 ≤ g.2 := by
  induction fs generalizing f with
  | nil => simp
  | cons h fs ih =>
    obtain ⟨⟨x, first, x_eq⟩, ⟨y, second, y_eq⟩, bound⟩ := ih (max f.1 h.1, max f.2 h.2)
    intro g
    have base := bound _ (List.mem_cons_self ..)
    refine ⟨?_, ?_, fun z mem => ?_⟩
    · rcases List.mem_cons.mp first with rfl | mem
      · rcases max_choice f.1 h.1 with e | e
        · exact ⟨f, by simp, e.symm.trans x_eq⟩
        · exact ⟨h, by simp, e.symm.trans x_eq⟩
      · exact ⟨x, by simp [mem], x_eq⟩
    · rcases List.mem_cons.mp second with rfl | mem
      · rcases max_choice f.2 h.2 with e | e
        · exact ⟨f, by simp, e.symm.trans y_eq⟩
        · exact ⟨h, by simp, e.symm.trans y_eq⟩
      · exact ⟨y, by simp [mem], y_eq⟩
    · simp only [List.mem_cons] at mem
      rcases mem with rfl | rfl | mem
      · exact ⟨(le_max_left ..).trans base.1, (le_max_left ..).trans base.2⟩
      · exact ⟨(le_max_right ..).trans base.1, (le_max_right ..).trans base.2⟩
      · exact bound z (List.mem_cons_of_mem _ mem)

/-- The greatest gust and the greatest mean of a list of figures are each in it, and bound it. -/
theorem greatestFigures_spec {fs : List (Nat × Nat)} {g : Nat × Nat} (h : greatestFigures fs = some g) :
    (∃ x ∈ fs, x.1 = g.1) ∧ (∃ x ∈ fs, x.2 = g.2) ∧ ∀ x ∈ fs, x.1 ≤ g.1 ∧ x.2 ≤ g.2 := by
  cases fs with
  | nil => cases h
  | cons f fs =>
    cases h
    exact foldl_greatest f fs

/-! ### The evaluated wind fields -/

/-- Drop timing runs while the drop condition holds (R119). -/
def WindCtx.timeDrop (w : WindCtx) (r : StationRec) (f : Nat × Nat) (now : Nat) : WindCtx :=
  if dropCondition r f w.stage then { w with dropStart := some (w.dropStart.getD now) }
  else { w with dropStart := none, dropDue := false }

/-- Steps 4 and 5 of R115: the stage raised, or the raise counted and the drop timed (R118, R119). -/
def WindCtx.judge (w : WindCtx) (r : StationRec) (f : Nat × Nat) (now : Nat) : WindCtx :=
  let q := highestQualifying r f
  let count := if w.stage.rank < q.rank then w.raise + 1 else 0
  if w.stage.rank < q.rank ∧ r.persistence ≤ count then { w.settled with stage := q }
  else WindCtx.timeDrop { w with raise := count } r f now

/-- The figures of a station are formed (R116). -/
def WindCtx.form (w : WindCtx) (f : Option (Nat × Nat)) : WindCtx := { w with figures := f, lost := f.isNone }

/-- The wind fields of a station after its evaluation (R115, R117, R123). -/
def WindCtx.evaluate (w : WindCtx) (r : StationRec) (stop : Bool) (f : Option (Nat × Nat)) (now : Nat) : WindCtx :=
  let w := w.form f
  if stop then { w.settled with stage := .shutdown }
  else f.elim { w.settled with stage := if w.stage = .shutdown then .shutdown else .hold } fun f => w.judge r f now

section
variable {w : WindCtx} {r : StationRec} {stop : Bool} {f : Option (Nat × Nat)} {g : Nat × Nat} {now : Nat}

theorem WindCtx.timeDrop_fields (w : WindCtx) (r : StationRec) (f : Nat × Nat) (now : Nat) :
    (w.timeDrop r f now).stage = w.stage ∧ (w.timeDrop r f now).raise = w.raise ∧
    (w.timeDrop r f now).figures = w.figures ∧ (w.timeDrop r f now).lost = w.lost := by
  unfold WindCtx.timeDrop
  split <;> exact ⟨rfl, rfl, rfl, rfl⟩

theorem WindCtx.timeDrop_dropStart (w : WindCtx) (r : StationRec) (f : Nat × Nat) (now : Nat) :
    (w.timeDrop r f now).dropStart =
      if dropCondition r f w.stage then some (w.dropStart.getD now) else none := by
  unfold WindCtx.timeDrop
  split <;> rfl

theorem WindCtx.judge_of_raise (higher : w.stage.rank < (highestQualifying r g).rank)
    (persists : r.persistence ≤ w.raise + 1) : w.judge r g now = { w.settled with stage := highestQualifying r g } := by
  simp [WindCtx.judge, higher, persists]

theorem WindCtx.judge_of_count (higher : w.stage.rank < (highestQualifying r g).rank)
    (short : w.raise + 1 < r.persistence) : w.judge r g now = WindCtx.timeDrop { w with raise := w.raise + 1 } r g now := by
  simp [WindCtx.judge, higher, Nat.not_le.mpr short]

theorem WindCtx.judge_of_low (low : (highestQualifying r g).rank ≤ w.stage.rank) :
    w.judge r g now = WindCtx.timeDrop { w with raise := 0 } r g now := by
  simp [WindCtx.judge, Nat.not_lt.mpr low]

theorem WindCtx.judge_fields (w : WindCtx) (r : StationRec) (f : Nat × Nat) (now : Nat) :
    (w.judge r f now).figures = w.figures ∧ (w.judge r f now).lost = w.lost := by
  unfold WindCtx.judge
  extract_lets q count
  split
  · exact ⟨rfl, rfl⟩
  · exact (WindCtx.timeDrop_fields _ r f now).2.2

theorem WindCtx.evaluate_fields (w : WindCtx) (r : StationRec) (stop : Bool) (f : Option (Nat × Nat)) (now : Nat) :
    (w.evaluate r stop f now).figures = f ∧ (w.evaluate r stop f now).lost = f.isNone := by
  unfold WindCtx.evaluate
  extract_lets formed
  split
  · exact ⟨rfl, rfl⟩
  · cases f with
    | none => exact ⟨rfl, rfl⟩
    | some f => exact WindCtx.judge_fields formed r f now

theorem WindCtx.evaluate_of_stop (w : WindCtx) (r : StationRec) (f : Option (Nat × Nat)) (now : Nat) :
    (w.evaluate r true f now).stage = .shutdown ∧ (w.evaluate r true f now).raise = 0 ∧
      (w.evaluate r true f now).dropStart = none := ⟨rfl, rfl, rfl⟩

theorem WindCtx.evaluate_of_lost (w : WindCtx) (r : StationRec) (now : Nat) :
    (w.evaluate r false none now).raise = 0 ∧ (w.evaluate r false none now).dropStart = none ∧
      (w.evaluate r false none now).stage = if w.stage = .shutdown then .shutdown else .hold := ⟨rfl, rfl, rfl⟩

theorem WindCtx.evaluate_of_figures (w : WindCtx) (r : StationRec) (g : Nat × Nat) (now : Nat) :
    w.evaluate r false (some g) now = (w.form (some g)).judge r g now := rfl

end

/-! ### The evaluation writes them, and hands a change of stage on -/

/-- The wind fields a station's evaluation gives it. -/
def State.evaluated (s : State) (n : Station) : WindCtx :=
  (s.wind.get n).evaluate (s.station n) s.siteStop (greatestFigures (s.runningFigures n)) s.clock.time

section
variable {s t u : State} {n : Station}

theorem State.changeStage_of_stage {stage : Stage} (same : (s.wind.get n).stage = stage) (first : Bool) :
    s.changeStage n stage first = s := if_pos same

theorem PerStation.set_set {α : Type} (t : PerStation α) (n : Station) (a b : α) : (t.set n a).set n b = t.set n b :=
  PerStation.eq_of_get fun m => by by_cases own : m = n <;> simp [own]

theorem State.setWind_self (s : State) (n : Station) : s.setWind n (s.wind.get n) = s := by
  rw [State.setWind, PerStation.set_get]

theorem State.formFigures_frame (s : State) (n : Station) :
    AlarmFrame (s.setWind n ((s.wind.get n).form (greatestFigures (s.runningFigures n)))) (s.formFigures n) := by
  unfold State.formFigures
  extract_lets w f t
  split
  · exact .refl t
  · exact .alarmIs t _ _

/-- The wind fields written before the stage is changed. -/
def State.judgedWind (s : State) (n : Station) : WindCtx := { s.evaluated n with stage := (s.wind.get n).stage }

theorem State.setWind_setWind (s : State) (n : Station) (v w : WindCtx) :
    (s.setWind n v).setWind n w = s.setWind n w := by
  simp only [State.setWind, PerStation.set_set]

theorem State.evaluateDrop_eq (s : State) (n : Station) (f : Nat × Nat) :
    s.evaluateDrop n f = s.setWind n ((s.wind.get n).timeDrop (s.station n) f s.clock.time) := by
  simp only [State.evaluateDrop, WindCtx.timeDrop]
  split
  · split
    next t start =>
      refine (State.setWind_self s n).symm.trans (congrArg (s.setWind n) ?_)
      rw [start, Option.getD_some, ← start]
    next start => rw [start]; rfl
  · rfl

theorem State.evaluateRaise_eq {v : WindCtx} {f : Nat × Nat}
    (judged : (s.wind.get n).judge (s.station n) f s.clock.time = v) (first : Bool) :
    s.evaluateRaise n f first = (s.setWind n { v with stage := (s.wind.get n).stage }).changeStage n v.stage first := by
  unfold State.evaluateRaise
  extract_lets r w q count
  by_cases raised : w.stage.rank < q.rank ∧ r.persistence ≤ count
  · obtain rfl : { w.settled with stage := q } = v := (if_pos raised).symm.trans judged
    exact if_pos raised
  · obtain rfl : WindCtx.timeDrop { w with raise := count } r f s.clock.time = v := (if_neg raised).symm.trans judged
    have kept := (WindCtx.timeDrop_fields { w with raise := count } r f s.clock.time).1
    have drop := (s.setWind n { w with raise := count }).evaluateDrop_eq n f
    rw [if_neg raised, drop, State.setWind_setWind]
    have station : (s.setWind n { w with raise := count }).station n = r := rfl
    have clock : (s.setWind n { w with raise := count }).clock = s.clock := rfl
    have wind : (s.setWind n { w with raise := count }).wind.get n = { w with raise := count } := PerStation.get_set_same ..
    rw [station, clock, wind]
    generalize WindCtx.timeDrop { w with raise := count } r f s.clock.time = v at kept
    have same : { v with stage := w.stage } = v := by rw [← show v.stage = w.stage from kept]
    rw [same, State.changeStage_of_stage (by rw [State.setWind, PerStation.get_set_same])]

/-- The state of an evaluation in which the wind fields of the station are written, before its stage is changed. -/
structure Judged (n : Station) (s u : State) : Prop where
  frame : AlarmFrame (s.setWind n (s.judgedWind n)) u
  silent : ∀ m, SilentOn (.crane m) s u

theorem Judged.wind (h : Judged n s u) : u.wind.get n = s.judgedWind n := by
  rw [h.frame]
  exact PerStation.get_set_same ..

theorem Judged.formed {w : WindCtx} (written : w = s.judgedWind n) : Judged n s ((s.formFigures n).setWind n w) where
  frame := by
    have frame := s.formFigures_frame n
    generalize s.formFigures n = t at frame
    subst written
    rw [frame, AlarmFrame]
    simp only [State.setWind, PerStation.set_set]
  silent := fun m => (SilentOn.formFigures (l := .crane m) nofun s n).trans .of_eq

/-- An evaluation writes the wind fields, and then changes the stage (R115 .. R119, R123). -/
theorem State.evaluateStation_judged (on : (s.station n).enabled = true) (first : Bool) :
    ∃ u, Judged n s u ∧ s.evaluateStation n first = u.changeStage n (s.evaluated n).stage first := by
  have frame := s.formFigures_frame n
  have formedWind : (s.formFigures n).wind.get n = 
      (s.wind.get n).form (greatestFigures (s.runningFigures n)) := by
    rw [frame]; exact PerStation.get_set_same ..
  have stop : (s.formFigures n).siteStop = s.siteStop := by rw [frame]; rfl
  have station : (s.formFigures n).station n = s.station n := by rw [State.station, frame]; rfl
  have time : (s.formFigures n).clock = s.clock := by rw [frame]; rfl
  have judged {w : WindCtx} (written : w = s.judgedWind n) := Judged.formed written
  rw [State.evaluateStation, if_pos on]
  simp only [formedWind, stop]
  by_cases stopped : s.siteStop = true
  · rw [if_pos stopped]
    have evaluated : s.evaluated n = { ((s.wind.get n).form (greatestFigures (s.runningFigures n))).settled with
        stage := .shutdown } := by rw [State.evaluated, stopped]; rfl
    rw [evaluated]
    exact ⟨_, judged (by rw [State.judgedWind, evaluated]; rfl), rfl⟩
  · rw [if_neg stopped]
    have stopless : s.siteStop = false := by simpa using stopped
    cases figures : greatestFigures (s.runningFigures n) with
    | none =>
      have evaluated : s.evaluated n = (s.wind.get n).evaluate (s.station n) false none s.clock.time := by
        rw [State.evaluated, stopless, figures]
      rw [figures] at formedWind
      have settled : ((s.wind.get n).form none).settled = s.judgedWind n := by rw [State.judgedWind, evaluated]; rfl
      refine ⟨_, judged settled, ?_⟩
      have written : (((s.formFigures n).setWind n ((s.wind.get n).form none).settled).wind.get n).stage =
          (s.wind.get n).stage := by rw [State.setWind, PerStation.get_set_same]; rfl
      have stage : (s.evaluated n).stage = if (s.wind.get n).stage = .shutdown then .shutdown else .hold := by
        rw [evaluated]; rfl
      rw [stage]
      generalize (s.formFigures n).setWind n ((s.wind.get n).form none).settled = t at written ⊢
      simp only [WindCtx.form]
      cases was : (s.wind.get n).stage with
      | normal | caution => rfl
      | hold | shutdown => exact (State.changeStage_of_stage (written.trans was) first).symm
    | some f =>
      have evaluated : s.evaluated n = ((s.wind.get n).form (some f)).judge (s.station n) f s.clock.time := by
        rw [State.evaluated, stopless, figures]; rfl
      rw [figures] at formedWind
      refine ⟨_, judged (w := s.judgedWind n) rfl, ?_⟩
      have raised := State.evaluateRaise_eq (s := s.formFigures n) (n := n) (f := f) (v := s.evaluated n)
        (by rw [formedWind, station, time, evaluated]) first
      rw [formedWind] at raised
      exact raised

end

end Sys2Proof.Machine
end

section
/-! The turns of a hand-over, one station after the other (R115, R124). -/

namespace Sys2Proof.Machine

open Sys2Proof.Safety

/-- A station's frames of a change of its stage: one WIND notice, unless the stage stays or the station is OFFLINE
(R124). -/
structure WindTold (n : Station) (s t : State) : Prop where
  handling : t.handling = s.handling
  sent : s.handling = none → ∃ more : List Frame, t.tx.get (.crane n) = more.foldl Tx.push (s.tx.get (.crane n)) ∧
    ∀ x y, Frame.notice (.wind x y) ∈ more ↔ (t.wind.get n).stage ≠ (s.wind.get n).stage ∧
      (s.ctx.get n).link ≠ .offline ∧ x = (t.wind.get n).stage ∧ y = (s.wind.get n).stage

section
variable {n m : Station} {s t u : State} {stage : Stage}

theorem Windless.stays (h : Windless n s t) (wind : (t.wind.get n).stage = (s.wind.get n).stage) : WindTold n s t where
  handling := h.handling
  sent := fun free => by
    obtain ⟨more, plain, sent⟩ := h.sent free
    exact ⟨more, sent, fun x y => ⟨fun mem => absurd (plain _ mem) nofun, fun e => absurd wind e.1⟩⟩

theorem WindTold.before (h : WindTold n t u) (k : Windless n s t) (wind : (t.wind.get n).stage = (s.wind.get n).stage)
    (link : (t.ctx.get n).link = (s.ctx.get n).link) : WindTold n s u where
  handling := h.handling.trans k.handling
  sent := fun free => by
    obtain ⟨first, plain, sent⟩ := k.sent free
    obtain ⟨more, sent', notices⟩ := h.sent (k.handling.trans free)
    refine ⟨first ++ more, by rw [sent', sent, List.foldl_append], fun x y => ?_⟩
    rw [List.mem_append, notices, wind, link]
    exact or_iff_right fun mem => absurd (plain _ mem) nofun

theorem WindTold.after (h : WindTold n s t) (k : Windless n t u) (wind : (u.wind.get n).stage = (t.wind.get n).stage) :
    WindTold n s u where
  handling := k.handling.trans h.handling
  sent := fun free => by
    obtain ⟨more, sent, notices⟩ := h.sent free
    obtain ⟨rest, plain, sent'⟩ := k.sent (h.handling.trans free)
    refine ⟨more ++ rest, by rw [sent', sent, List.foldl_append], fun x y => ?_⟩
    rw [List.mem_append, notices, wind]
    exact or_iff_left fun mem => absurd (plain _ mem) nofun

theorem State.stageSet_ctx (s : State) (n : Station) (stage : Stage) : (s.stageSet n stage).ctx = s.ctx := by
  rw [s.stageSet_frame]; rfl

theorem State.stageSet_bookings (s : State) (n : Station) (stage : Stage) :
    (s.stageSet n stage).bookings = s.bookings := by
  rw [s.stageSet_frame]; rfl

theorem State.stageSet_handling (s : State) (n : Station) (stage : Stage) :
    (s.stageSet n stage).handling = s.handling := by
  rw [s.stageSet_frame]; rfl

theorem State.stageSet_clock (s : State) (n : Station) (stage : Stage) : (s.stageSet n stage).clock = s.clock := by
  rw [s.stageSet_frame]; rfl

theorem State.stageSet_stage (s : State) (n : Station) (stage : Stage) :
    ((s.stageSet n stage).wind.get n).stage = stage := by
  rw [s.stageSet_frame]
  simp [State.setWind]

/-- The station is sent the WIND notice, unless it is OFFLINE (R124). -/
theorem State.stageSet_sent (free : s.handling = none) : (s.stageSet n stage).tx.get (.crane n) =
    if (s.ctx.get n).link = .offline then s.tx.get (.crane n)
    else (s.tx.get (.crane n)).push (.notice (.wind stage (s.wind.get n).stage)) := by
  unfold State.stageSet
  split
  case isTrue silent =>
    have offline : ((s.setWind n { s.wind.get n with stage := stage }).ctx.get n).link = .offline := silent
    rw [State.notify, if_pos offline]
    rfl
  case isFalse linked => exact State.notify_sent (s := s.setWind n _) linked free _

theorem WindTold.stageSet (ne : (s.wind.get n).stage ≠ stage) : WindTold n s (s.stageSet n stage) where
  handling := s.stageSet_handling n stage
  sent := fun free => by
    rw [State.stageSet_sent free, State.stageSet_stage]
    by_cases silent : (s.ctx.get n).link = .offline
    · exact ⟨[], by rw [if_pos silent]; rfl, fun x y => ⟨nofun, fun told => absurd silent told.2.1⟩⟩
    · refine ⟨[.notice (.wind stage (s.wind.get n).stage)], by rw [if_neg silent]; rfl, fun x y => ?_⟩
      simp [Ne.symm ne, silent]

/-- The change of a station's own stage. -/
theorem WindTold.changeStage (s : State) (n : Station) (stage : Stage) (first : Bool) :
    WindTold n s (s.changeStage n stage first) := by
  by_cases same : (s.wind.get n).stage = stage
  · rw [State.changeStage_of_stage same]
    exact (Windless.refl n s).stays rfl
  · rw [State.changeStage_eq same]
    exact (WindTold.stageSet same).after (.tellStage _ n stage first) (by rw [State.tellStage_wind])

/-! ### The turns of the other stations -/

/-- What leaves the wind fields, the link and the bookings in window of one station. -/
structure Aside (n : Station) (s t : State) : Prop where
  windless : Windless n s t
  wind : t.wind.get n = s.wind.get n
  link : (t.ctx.get n).link = (s.ctx.get n).link
  numbers : (t.bookings.map (·.number)).Sublist (s.bookings.map (·.number))
  quiet : s.Numbered → s.Quiet n → t.Quiet n

theorem Aside.refl (n : Station) (s : State) : Aside n s s := ⟨.refl n s, rfl, rfl, .refl _, fun _ => id⟩

theorem Aside.trans (h : Aside n s t) (k : Aside n t u) : Aside n s u where
  windless := h.windless.trans k.windless
  wind := k.wind.trans h.wind
  link := k.link.trans h.link
  numbers := k.numbers.trans h.numbers
  quiet := fun distinct quiet => k.quiet (distinct.sublist h.numbers) (h.quiet distinct quiet)

theorem LineWork.aside (h : LineWork s t) : Aside n s t where
  windless := (h.silent (.crane n) nofun).windless
  wind := by rw [h.frame]
  link := by rw [h.frame]
  numbers := by rw [h.frame]
  quiet := fun _ quiet => by rw [State.Quiet, h.frame]; exact quiet

/-- The change of another station's stage opens none of a station's bookings. -/
theorem State.Quiet.changeStage (distinct : s.Numbered) (ne : m ≠ n) (quiet : s.Quiet n) (stage : Stage) (first : Bool) :
    (s.changeStage m stage first).Quiet n := by
  by_cases same : (s.wind.get m).stage = stage
  · rw [State.changeStage_of_stage same]
    exact quiet
  · rw [State.changeStage_eq same]
    have bookings := s.stageSet_bookings m stage
    have distinct : (s.stageSet m stage).Numbered := by rw [State.Numbered, bookings]; exact distinct
    have quiet : (s.stageSet m stage).Quiet n := by rw [State.Quiet, bookings]; exact quiet
    generalize s.stageSet m stage = u at distinct quiet
    have judged (t : State) (distinct : t.Numbered) : Shed .nothing t (t.judgeSequence m) :=
      (Shed.refl t).judgeSequence ⟨distinct, fun _ _ _ => id⟩ m
    unfold State.tellStage
    split
    · have told := (Claims.refl u).stageToldBookings m stage
      exact (judged _ (distinct.sublist told.bookings_numbers)).quiet (quiet.stageToldBookings distinct ne stage)
    · exact State.Quiet.stageToldBookings ((judged u distinct).numbered distinct) ne
        ((judged u distinct).quiet quiet) stage

theorem Aside.changeStage (ne : m ≠ n) (s : State) (stage : Stage) (first : Bool) :
    Aside n s (s.changeStage m stage first) where
  windless := .changeStage ne s stage first
  wind := (StageKept.changeStage s m stage first).wind n ne.symm
  link := by rw [((StageKept.changeStage s m stage first).work.2 n).1]
  numbers := (SiteKept.changeStage (.refl s) m stage first).bookings
  quiet := fun distinct quiet => quiet.changeStage distinct ne stage first

theorem Judged.aside (h : Judged m s u) (ne : m ≠ n) : Aside n s u where
  windless := (h.silent n).windless
  wind := by rw [h.frame]; exact PerStation.get_set_ne ne.symm
  link := by rw [h.frame]; rfl
  numbers := by rw [h.frame]; exact .refl _
  quiet := fun _ quiet => by rw [State.Quiet, h.frame]; exact quiet

theorem Aside.evaluateStation (ne : m ≠ n) (s : State) (first : Bool) : Aside n s (s.evaluateStation m first) := by
  cases on : (s.station m).enabled with
  | true =>
    obtain ⟨u, judged, evaluated⟩ := s.evaluateStation_judged on first
    rw [evaluated]
    exact (judged.aside ne).trans (.changeStage ne u _ first)
  | false =>
    rw [State.evaluateStation, if_neg (by rw [on]; nofun)]
    exact .refl n s

theorem WindWork.evaluateStation (s : State) (n : Station) (first : Bool) :
    WindWork s (s.evaluateStation n first) := by
  cases on : (s.station n).enabled with
  | true =>
    obtain ⟨u, judged, evaluated⟩ := s.evaluateStation_judged on first
    rw [evaluated]
    refine WindWork.trans ?_ (StageKept.changeStage u n _ first).work
    refine ⟨?_, fun m => ⟨?_, ?_⟩⟩ <;> rw [judged.frame] <;> rfl
  | false =>
    rw [State.evaluateStation, if_neg (by rw [on]; nofun)]
    exact .refl s

theorem WindWork.handOver (s : State) (k : Nat) : WindWork s (s.handOver k) :=
  WindWork.foldl (fun s n => .evaluateStation s n _) _ s

theorem stationOrder_nodup (k : Nat) : (stationOrder k).Nodup :=
  (arrange_perm 6 k Station.all le_rfl).nodup_iff.mpr (by decide)

/-- The hand-over is the station's own evaluation, with the other stations' before and after it. -/
theorem State.handOver_turn (s : State) (k : Nat) (n : Station) : ∃ v, WindWork s v ∧ Aside n s v ∧
    Aside n (v.evaluateStation n (bookingFirst k n)) (s.handOver k) := by
  obtain ⟨before, after, order⟩ := List.append_of_mem (mem_stationOrder k n)
  have unique := stationOrder_nodup k
  rw [order] at unique
  obtain ⟨-, tail, apart⟩ := List.nodup_append.mp unique
  have turns (ms : List Station) (others : ∀ m ∈ ms, m ≠ n) (t : State) :
      Aside n t (ms.foldl (fun s n => s.evaluateStation n (bookingFirst k n)) t) := by
    induction ms generalizing t with
    | nil => exact .refl n t
    | cons m ms ih =>
      exact (Aside.evaluateStation (others m (List.mem_cons_self ..)) t _).trans
        (ih (fun m mem => others m (List.mem_cons_of_mem _ mem)) _)
  refine ⟨before.foldl (fun s n => s.evaluateStation n (bookingFirst k n)) s, WindWork.foldl (fun s n => .evaluateStation s n _) _ _, turns before (fun m mem => apart m mem n (List.mem_cons_self ..)) s, ?_⟩
  rw [State.handOver, order, List.foldl_append, List.foldl_cons]
  exact turns after (fun m mem same => (List.nodup_cons.mp tail).1 (same ▸ mem)) _

/-! ### The station's own turn -/

/-- What its hand-over gives a station, from the state `s` before the reading ended and the readings of `u`. -/
structure HandedOver (n : Station) (s u t : State) : Prop where
  wind : t.wind.get n = (s.wind.get n).evaluate (s.station n) s.siteStop (greatestFigures (u.runningFigures n)) s.clock.time
  told : WindTold n s t
  numbers : (t.bookings.map (·.number)).Sublist (s.bookings.map (·.number))
  quiet : s.Numbered → (t.wind.get n).stage ≠ (s.wind.get n).stage → (t.wind.get n).stage = .shutdown → t.Quiet n

/-- A station's own evaluation tells it of the change, and at SHUTDOWN leaves none of its bookings in window. -/
theorem State.evaluateStation_own (on : (s.station n).enabled = true) (first : Bool) :
    HandedOver n s s (s.evaluateStation n first) := by
  obtain ⟨u, judged, evaluated⟩ := s.evaluateStation_judged on first
  have stage : (u.wind.get n).stage = (s.wind.get n).stage := by rw [judged.wind]; rfl
  have link : (u.ctx.get n).link = (s.ctx.get n).link := by rw [judged.frame]; rfl
  have wind : (s.evaluateStation n first).wind.get n = s.evaluated n := by
    rw [evaluated, State.changeStage_wind, judged.wind]; rfl
  refine ⟨wind, ?_, (SiteKept.evaluateStation (.refl s) n first).bookings, fun distinct changed shutdown => ?_⟩
  · rw [evaluated]
    exact (WindTold.changeStage u n _ first).before (judged.silent n).windless stage link
  · rw [wind] at changed shutdown
    have ne : (u.wind.get n).stage ≠ (s.evaluated n).stage := by rw [stage]; exact changed.symm
    have numbered : (u.stageSet n (s.evaluated n).stage).Numbered := by
      rw [State.Numbered, State.stageSet_bookings, judged.frame]; exact distinct
    rw [evaluated, State.changeStage_eq ne]
    rw [shutdown] at numbered ⊢
    exact State.tellStage_quiet numbered n first

end

end Sys2Proof.Machine
end

section
/-! What the slots of a cycle make of the wind line rests on the line alone, and the hand-over of a reading (R91, R109). -/

namespace Sys2Proof.Machine

open Sys2Proof.Safety

/-! ### The line and its sensors -/

/-- The line and its sensor records are the same. -/
structure SameLine (s t : State) : Prop where
  line : s.line = t.line
  sensors : s.sensors = t.sensors

section
variable {s t : State} {a : Addr}

theorem SameLine.putRecord (h : SameLine s t) (a : Addr) (r : SensorRec) :
    SameLine (s.putRecord a r) (t.putRecord a r) :=
  ⟨by simpa using h.line, by simp [h.sensors]⟩

theorem SameLine.listCommand (h : SameLine s t) (c : LineCommand) : SameLine (s.listCommand c) (t.listCommand c) := by
  unfold State.listCommand
  rw [h.line]
  split
  · exact h
  · exact ⟨rfl, h.sensors⟩

theorem SameLine.setLine (h : SameLine s t) (l : LineRec) : SameLine (s.setLine l) (t.setLine l) := ⟨rfl, h.sensors⟩

theorem State.answerEnrol_sameLine (s : State) (code : Code) : SameLine (s.answerEnrol code) s := by
  unfold State.answerEnrol
  split <;> exact ⟨rfl, rfl⟩

theorem SameLine.answerEnrol (h : SameLine s t) (code : Code) : SameLine (s.answerEnrol code) (t.answerEnrol code) := by
  obtain ⟨line, sensors⟩ := s.answerEnrol_sameLine code
  obtain ⟨line', sensors'⟩ := t.answerEnrol_sameLine code
  exact ⟨line.trans (h.line.trans line'.symm), sensors.trans (h.sensors.trans sensors'.symm)⟩

theorem SameLine.failAttempt (h : SameLine s t) (a : Addr) : SameLine (s.failAttempt a) (t.failAttempt a) := by
  unfold State.failAttempt
  rw [h.sensors]
  extract_lets r
  split
  · exact (h.putRecord a _).listCommand _
  · exact h.putRecord a _

theorem SameLine.expireChecking (h : SameLine s t) (a : Addr) : SameLine (s.expireChecking a) (t.expireChecking a) := by
  unfold State.expireChecking
  rw [h.sensors]
  split
  · exact h.failAttempt a
  · exact h

theorem SameLine.foldl {f : State → Addr → State}
    (same : ∀ {s t : State}, SameLine s t → ∀ a, SameLine (f s a) (f t a)) (h : SameLine s t) (as : List Addr) :
    SameLine (as.foldl f s) (as.foldl f t) := by
  induction as generalizing s t with
  | nil => exact h
  | cons a as ih => exact ih (same h a)

theorem SameLine.readEcho (h : SameLine s t) (slots : PerAddr Slot) : SameLine (s.readEcho slots) (t.readEcho slots) := by
  unfold State.readEcho
  rw [h.line, h.sensors]
  split
  · split
    · exact ((h.setLine _).putRecord _ _).answerEnrol _
    · exact h.setLine _
  · exact h

theorem SameLine.findWatched (h : SameLine s t) (a : Addr) (x : Reply) :
    SameLine (s.findWatched a x) (t.findWatched a x) := by
  unfold State.findWatched
  rw [h.line, h.sensors]
  extract_lets r
  split
  · split
    · exact h.putRecord a _
    · exact h
  · exact h

theorem SameLine.readAttempt (h : SameLine s t) (a : Addr) (moved : Option SensorRec) :
    SameLine (s.readAttempt a moved) (t.readAttempt a moved) := by
  cases moved with
  | some r => exact h.putRecord a _
  | none =>
    have below : SameLine (s.expireCheckingBelow a) (t.expireCheckingBelow a) := h.foldl SameLine.expireChecking _
    have counted : SameLine ((s.expireCheckingBelow a).setSensor a (s.sensors.get a).countCycle)
        ((t.expireCheckingBelow a).setSensor a (t.sensors.get a).countCycle) :=
      ⟨below.line, by rw [State.setSensor_sensors, State.setSensor_sensors, below.sensors, h.sensors]⟩
    exact counted.failAttempt a

theorem SameLine.readAddr (slots : PerAddr Slot) (h : SameLine s t) (a : Addr) :
    SameLine (State.readAddr slots s a) (State.readAddr slots t a) := by
  unfold State.readAddr
  have found := h.findWatched a (readSlot (slots.get a))
  dsimp only
  generalize s.findWatched a (readSlot (slots.get a)) = u, t.findWatched a (readSlot (slots.get a)) = v at found ⊢
  rw [found.sensors]
  split
  · exact found.readAttempt a _
  · exact found.readAttempt a _
  · exact found.readAttempt a _
  · exact found.putRecord a _
  · exact found.putRecord a _
  all_goals exact found

theorem SameLine.readSlots (h : SameLine s t) (kind : CycleKind) (slots : PerAddr Slot) :
    SameLine (s.readSlots kind slots) (t.readSlots kind slots) := by
  unfold State.readSlots
  rw [h.line]
  split
  · exact h.readEcho slots
  · have addrs := (h.readEcho slots).foldl (.readAddr slots) Addr.all
    exact ⟨congrArg LineRec.countWatch addrs.line, addrs.sensors⟩
  · exact h

end

/-! ### The end of a reading (R109) -/

section
variable {s t u v : State} {n : Station}

theorem State.runningFigures_eq (live : t.plan.live = s.plan.live) (sensors : t.sensors = s.sensors) :
    t.runningFigures n = s.runningFigures n := by
  simp only [State.runningFigures, State.station, live, sensors]

theorem HandedOver.after (h : HandedOver n s u t) (k : Aside n t v) : HandedOver n s u v where
  wind := k.wind.trans h.wind
  told := h.told.after k.windless (by rw [k.wind])
  numbers := k.numbers.trans h.numbers
  quiet := fun distinct changed shutdown => by
    rw [k.wind] at changed shutdown
    exact k.quiet (distinct.sublist h.numbers) (h.quiet distinct changed shutdown)

theorem HandedOver.before (h : HandedOver n v v t) (k : Aside n s v) (live : v.plan.live = s.plan.live)
    (stop : v.siteStop = s.siteStop) (clock : v.clock = s.clock) (sensors : v.sensors = u.sensors)
    (plan : v.plan.live = u.plan.live) : HandedOver n s u t where
  wind := by
    have station : v.station n = s.station n := congrArg (·.stations.get n) live
    rw [h.wind, k.wind, station, stop, clock, State.runningFigures_eq plan sensors]
  told := h.told.before k.windless (by rw [k.wind]) k.link
  numbers := h.numbers.trans k.numbers
  quiet := fun distinct changed shutdown =>
    h.quiet (distinct.sublist k.numbers) (by rw [k.wind]; exact changed) shutdown

theorem State.handOver_station (on : (s.station n).enabled = true) (k : Nat) : HandedOver n s s (s.handOver k) := by
  obtain ⟨v, work, aside, after⟩ := s.handOver_turn k n
  have live : v.plan.live = s.plan.live := by rw [work.1]
  have enabled : (v.station n).enabled = true := by rw [State.station, live]; exact on
  exact ((State.evaluateStation_own enabled _).before aside live (by rw [work.1]) (by rw [work.1]) (by rw [work.1])
    live).after after

theorem State.handOver_disabled (off : (s.station n).enabled = false) (k : Nat) :
    (s.handOver k).wind.get n = s.wind.get n := by
  obtain ⟨v, work, aside, after⟩ := s.handOver_turn k n
  have disabled : (v.station n).enabled = false := by rw [State.station, work.1]; exact off
  rw [after.wind, State.evaluateStation, if_neg (by rw [disabled]; nofun), aside.wind]

variable {c : WindCycle} {slots : PerAddr Slot}

/-- The state whose stations a reading's end evaluates. -/
def State.readDone (s : State) (kind : CycleKind) (slots : PerAddr Slot) : State :=
  { s.readSlots kind slots with cycle := none }

theorem LineWork.readDone (s : State) (kind : CycleKind) (slots : PerAddr Slot) : LineWork s (s.readDone kind slots) :=
  (LineWork.readSlots s kind slots).trans .of_eq

theorem State.endReading_eq (cycle : s.cycle = some c) (k : Nat) : s.endReading slots k =
    if 5 ≤ c.age then ((s.readDone c.kind slots).handOver k).takeCycleEnds.startCycle
    else (s.readDone c.kind slots).handOver k := by
  rw [State.endReading, cycle]; rfl

theorem LineWork.endReading (cycle : s.cycle = some c) (k : Nat) :
    LineWork ((s.readDone c.kind slots).handOver k) (s.endReading slots k) := by
  rw [State.endReading_eq cycle]
  exact .ite ((LineWork.takeCycleEnds _).trans (.startCycle _)) (.refl _)

/-- The end of a reading evaluates an enabled station with the records as the slots leave them (R115). -/
theorem State.endReading_station (cycle : s.cycle = some c) (on : (s.station n).enabled = true) (k : Nat) :
    HandedOver n s (s.readSlots c.kind slots) (s.endReading slots k) := by
  have read := LineWork.readDone s c.kind slots
  have live : (s.readDone c.kind slots).plan.live = s.plan.live := by rw [read.frame]
  have enabled : ((s.readDone c.kind slots).station n).enabled = true := by rw [State.station, live]; exact on
  exact ((State.handOver_station enabled k).before (u := s.readSlots c.kind slots) read.aside live (by rw [read.frame]) (by rw [read.frame]) rfl
    rfl).after (LineWork.endReading cycle k).aside

theorem State.endReading_disabled (cycle : s.cycle = some c) (off : (s.station n).enabled = false) (k : Nat) :
    (s.endReading slots k).wind.get n = s.wind.get n := by
  have read := LineWork.readDone s c.kind slots
  have disabled : ((s.readDone c.kind slots).station n).enabled = false := by
    rw [State.station, read.frame]; exact off
  rw [(LineWork.endReading cycle k).aside.wind, State.handOver_disabled disabled, read.aside.wind]

/-- A reading that ends at its fourth tick leaves the line as the slots have. -/
theorem State.endReading_line (cycle : s.cycle = some c) (age : c.age = 4) (k : Nat) :
    (s.endReading slots k).cycle = none ∧ (s.endReading slots k).sensors = (s.readSlots c.kind slots).sensors ∧
      (s.endReading slots k).line = (s.readSlots c.kind slots).line := by
  have work := WindWork.handOver (s.readDone c.kind slots) k
  rw [State.endReading_eq cycle, if_neg (by omega)]
  refine ⟨?_, ?_, ?_⟩ <;> rw [work.1] <;> rfl

/-- A cycle whose start waited for the hand-over begins (log entry 5). -/
theorem State.endReading_next (cycle : s.cycle = some c) (age : 5 ≤ c.age) (k : Nat) :
    ∃ e, (s.endReading slots k).cycle = some e ∧ e.age = 0 := by
  rw [State.endReading_eq cycle, if_pos age]
  exact State.startCycle_age _

end

end Sys2Proof.Machine
end

section
/-! What the hand-over gives every station, and what a change of stage hands on (R115 .. R124, R167). -/

namespace Sys2Proof.Machine

open Sys2Proof.Safety

/-! ### The thresholds (R118, R119) -/

theorem qualifies_iff (r : StationRec) (g : Nat × Nat) (level : Stage) :
    qualifies r g level = true ↔ levelOf r.gustAt level ≤ g.1 ∨ levelOf r.meanAt level ≤ g.2 := by
  simp only [qualifies, Bool.or_eq_true, decide_eq_true_eq]

theorem highestQualifying_eq (r : StationRec) (g : Nat × Nat) : highestQualifying r g =
    if r.gustAt.shutdown ≤ g.1 ∨ r.meanAt.shutdown ≤ g.2 then .shutdown
    else if r.gustAt.hold ≤ g.1 ∨ r.meanAt.hold ≤ g.2 then .hold
    else if r.gustAt.caution ≤ g.1 ∨ r.meanAt.caution ≤ g.2 then .caution
    else .normal := by
  simp only [highestQualifying, qualifies_iff]
  rfl

theorem dropCondition_iff (r : StationRec) (g : Nat × Nat) (stage : Stage) : dropCondition r g stage = true ↔
    stage ≠ .normal ∧ g.1 + r.hysteresis < levelOf r.gustAt stage ∧ g.2 + r.hysteresis < levelOf r.meanAt stage := by
  simp only [dropCondition, Bool.and_eq_true, bne_iff_ne, decide_eq_true_eq, and_assoc]

/-- What the raise and the drop make of the stage, the raise counter and the drop timing (R118, R119). -/
structure WindCtx.Judged (w : WindCtx) (r : StationRec) (g : Nat × Nat) (now : Nat) (q : Stage) (v : WindCtx) : Prop where
  raised : w.stage.rank < q.rank → r.persistence ≤ w.raise + 1 → v.stage = q ∧ v.raise = 0 ∧ v.dropStart = none
  counted : w.stage.rank < q.rank → w.raise + 1 < r.persistence → v.stage = w.stage ∧ v.raise = w.raise + 1
  kept : q.rank ≤ w.stage.rank → v.stage = w.stage ∧ v.raise = 0
  timed : q.rank ≤ w.stage.rank ∨ w.raise + 1 < r.persistence → v.dropStart =
    if dropCondition r g w.stage then some (w.dropStart.getD now) else none

theorem WindCtx.evaluate_judged (w : WindCtx) (r : StationRec) (g : Nat × Nat) (now : Nat) :
    w.Judged r g now (highestQualifying r g) (w.evaluate r false (some g) now) := by
  rw [WindCtx.evaluate_of_figures]
  have stage : (w.form (some g)).stage = w.stage := rfl
  have drops (k : Nat) := WindCtx.timeDrop_dropStart { w.form (some g) with raise := k } r g now
  have fields (k : Nat) := WindCtx.timeDrop_fields { w.form (some g) with raise := k } r g now
  refine ⟨fun higher persists => ?_, fun higher short => ?_, fun low => ?_, fun stays => ?_⟩
  · rw [WindCtx.judge_of_raise (w := w.form (some g)) higher persists]
    exact ⟨rfl, rfl, rfl⟩
  · rw [WindCtx.judge_of_count (w := w.form (some g)) higher short]
    exact ⟨(fields _).1, (fields _).2.1⟩
  · rw [WindCtx.judge_of_low (w := w.form (some g)) low]
    exact ⟨(fields _).1, (fields _).2.1⟩
  · by_cases low : (highestQualifying r g).rank ≤ w.stage.rank
    · rw [WindCtx.judge_of_low (w := w.form (some g)) low]
      exact drops 0
    · rw [WindCtx.judge_of_count (w := w.form (some g)) (Nat.not_le.mp low) (stays.resolve_left low)]
      exact drops _

/-! ### A change of stage (R124, R162, R167) -/

section
variable {s : State} {n : Station} {stage : Stage}

theorem State.changeStage_sent (free : s.handling = none) (ne : (s.wind.get n).stage ≠ stage)
    (linked : (s.ctx.get n).link ≠ .offline) (first : Bool) :
    ∃ more, (s.changeStage n stage first).tx.get (.crane n) =
      (Frame.notice (.wind stage (s.wind.get n).stage) :: more).foldl Tx.push (s.tx.get (.crane n)) := by
  obtain ⟨more, -, told⟩ := (Windless.tellStage (n := n) (s.stageSet n stage) n stage first).sent
    ((s.stageSet_handling n stage).trans free)
  refine ⟨more, ?_⟩
  rw [State.changeStage_eq ne, told, State.stageSet_sent free, if_neg linked]
  rfl

theorem State.stageSet_numbered (distinct : s.Numbered) : (s.stageSet n stage).Numbered := by
  rw [State.Numbered, State.stageSet_bookings]; exact distinct

theorem State.changeStage_quiet (distinct : s.Numbered) (ne : (s.wind.get n).stage ≠ .shutdown) (first : Bool) :
    (s.changeStage n .shutdown first).Quiet n := by
  rw [State.changeStage_eq ne]
  exact State.tellStage_quiet (State.stageSet_numbered distinct) n first

theorem State.changeStage_ends {b : Booking} (alone : s.Alone b) (ne : (s.wind.get b.station).stage ≠ .shutdown)
    (whole : b.EndsWhole .abortedWind) (first : Bool) :
    (s.changeStage b.station .shutdown first).Ended b .abortedWind := by
  have bookings := s.stageSet_bookings b.station .shutdown
  rw [State.changeStage_eq ne]
  refine State.tellStage_ends ⟨State.stageSet_numbered alone.distinct, ?_, alone.window, ?_⟩ whole first
  · rw [bookings]; exact alone.mem
  · rw [bookings]; exact alone.alone

theorem State.OnlyBeyond.changeStage {b : Booking} {e : Nat} (h : s.OnlyBeyond b) (deferred : b.state = .deferred e)
    (above : stage = .normal ∨ stage = .caution) (ne : (s.wind.get b.station).stage ≠ stage) (first : Bool) :
    (s.changeStage b.station stage first).Undeferred b e s.clock.time := by
  have bookings := s.stageSet_bookings b.station stage
  have set : (s.stageSet b.station stage).OnlyBeyond b :=
    ⟨State.stageSet_numbered h.distinct, by rw [bookings]; exact h.mem, by rw [bookings]; exact h.only⟩
  rw [State.changeStage_eq ne, ← s.stageSet_clock b.station stage]
  exact set.tellStage deferred above (s.stageSet_stage ..) first

end

/-- Settles O54, by the station's own turn among the turns of the hand-over, and the telling of a changed stage. -/
theorem handOverEvaluatesEveryStation : Obligations.HandOverEvaluatesEveryStation := by
  unfold Obligations.HandOverEvaluatesEveryStation
  refine ⟨fun s slots c cycle age => ?_, fun s n stage first free kept ne => ?_⟩
  · intro u
    have same : SameLine (s.choose.2.readSlots c.kind slots) u := SameLine.readSlots (s := s.choose.2) (t := s) ⟨rfl, rfl⟩ c.kind slots
    have due : s.readingDue = true := by simp [State.readingDue, cycle, age]
    have chosen : s.choose.2.cycle = some c := cycle
    have site := SiteKept.endReading (.refl s.choose.2) slots s.choose.1
    refine ⟨s.choose.2.endReading slots s.choose.1, congrArg Host.Outcome.next (if_pos due), fun age => ?_,
      fun age => State.endReading_next chosen age _, site.clock, site.stop, fun n off => State.endReading_disabled chosen off _,
      fun n on => ?_⟩
    · obtain ⟨none, sensors, line⟩ := State.endReading_line (slots := slots) chosen age s.choose.1
      exact ⟨none, sensors.trans same.sensors, line.trans same.line⟩
    · have handed := State.endReading_station (slots := slots) chosen on s.choose.1
      generalize s.choose.2.endReading slots s.choose.1 = t at handed
      have live : u.plan.live = s.plan.live := congrArg (·.plan.live) (LineWork.readSlots s c.kind slots).frame
      have station : u.station n = s.station n := congrArg (·.stations.get n) live
      have chosenLive : (s.choose.2.readSlots c.kind slots).plan.live = u.plan.live := by
        rw [live, (LineWork.readSlots s.choose.2 c.kind slots).frame]; rfl
      have wind : t.wind.get n = (s.wind.get n).evaluate (s.station n) s.siteStop
          (greatestFigures (u.runningFigures n)) s.clock.time := by
        rw [handed.wind, State.runningFigures_eq chosenLive same.sensors]; rfl
      obtain ⟨figures, lost⟩ := WindCtx.evaluate_fields (s.wind.get n) (s.station n) s.siteStop
        (greatestFigures (u.runningFigures n)) s.clock.time
      rw [← wind] at figures lost
      intro r w v
      refine ⟨fun free kept => ⟨handed.told.sent free, handed.quiet (.of_kept kept)⟩, ?_⟩
      dsimp only
      have reads_iff (a : Addr) (x : Nat × Nat) : u.Reads n a x ↔ r.anemometers.get a = true ∧
          (u.sensors.get a).state = .running ∧ (u.sensors.get a).figures = some x := by rw [State.Reads, station]
      refine ⟨?_, fun g read => ?_,
        lost.trans (by rw [figures]), fun stop => ?_, fun stop => ⟨fun none => ?_, fun g read => ?_⟩⟩
      · rw [figures, greatestFigures_eq_none, List.eq_nil_iff_forall_not_mem]
        simp only [State.mem_runningFigures, reads_iff, not_exists]
        exact forall_comm
      · obtain ⟨⟨x, gust, x_eq⟩, ⟨y, mean, y_eq⟩, bound⟩ := greatestFigures_spec (figures.symm.trans read)
        simp only [State.mem_runningFigures, reads_iff] at gust mean bound
        obtain ⟨a, gust⟩ := gust
        obtain ⟨b, mean⟩ := mean
        exact ⟨⟨a, x, gust, x_eq⟩, ⟨b, y, mean, y_eq⟩, fun a x reads => bound x ⟨a, reads⟩⟩
      · rw [show v = _ from wind, stop]
        exact WindCtx.evaluate_of_stop ..
      · rw [show v = _ from wind, stop, figures.symm.trans none]
        exact WindCtx.evaluate_of_lost ..
      · have judged := WindCtx.evaluate_judged w r g s.clock.time
        rw [← stop, ← figures.symm.trans read, ← wind, highestQualifying_eq] at judged
        obtain ⟨raised, counted, stays, timed⟩ := judged
        refine ⟨raised, counted, stays, fun calm => (timed calm).trans ?_⟩
        refine if_congr ((dropCondition_iff r g w.stage).trans ?_) rfl rfl
        cases w.stage with
        | normal => exact ⟨fun h => absurd rfl h.1, fun h => absurd rfl h.1⟩
        | caution | hold | shutdown => exact Iff.rfl
  · intro t old
    have distinct := State.Numbered.of_kept kept
    refine ⟨s.changeStage_winds n stage first, fun linked => State.changeStage_sent free ne linked first, ?_, ?_⟩
    · rintro rfl
      refine ⟨State.changeStage_quiet distinct ne first, fun b mem own window only single => ?_⟩
      subst own
      obtain ⟨gone, outcome, -⟩ := State.changeStage_ends ⟨distinct, mem, window, only⟩ ne
        (fun p l k mode => absurd mode (single p l k)) first
      exact ⟨gone, outcome⟩
    · intro above b mem own only e deferred
      subst own
      obtain ⟨opens, lapses⟩ := State.OnlyBeyond.changeStage ⟨distinct, mem, only⟩ deferred above ne first
      exact ⟨opens, fun past single => lapses past fun p l k mode => absurd mode (single p l k)⟩

end Sys2Proof.Machine
end

section
/-! A series that has ended and stands PENDING again can end a second time in the same step (R64, R158, R169, R173). -/

namespace Sys2Proof.Machine

open Sys2Proof.Safety

/-! ### A series followed at once by another lift of the same crane -/

/-- A REPEAT booking on zone 0 whose window has run out. -/
def endedLift : Booking :=
  { number := 5, station := .s1, zones := [0], mode := .repeating 300 none 0, start := 940, duration := 60, lead := 0,
    locked := false, state := .active { ends := 1000, remaining := 1, extension := none, passed := [0], due := true } }

/-- The next lift of the crane on the zone, which starts in the second in which the window of the first ends. -/
def nextLift : Booking :=
  { number := 6, station := .s1, zones := [0], mode := .timed, start := 1000, duration := 60, lead := 0,
    locked := false, state := .pending }

/-- A plan of one crane and one zone of it. -/
def oneCranePlan : PlanImage :=
  { emptyPlan with
    stations := emptyPlan.stations.set .s1 { emptyStation with enabled := true }
    zones := emptyPlan.zones.set 0 { enabled := true, members := [⟨.s1, 0x2000, 0x3FFF, 100⟩] } }

/-- The crane holds the zone for the first lift, and the supervisor cancels the series as it ends. -/
def seriesCancelled : State :=
  { State.reset with
    plan := { State.reset.plan with live := oneCranePlan, staged := oneCranePlan, invalid := false }
    clock := { State.reset.clock with time := 1000, timeSet := true }
    zones := State.reset.zones.set 0
      (some { ZoneDyn.fresh with hold := some ⟨.s1, .booked, true⟩, reservation := some 5 })
    bookings := [endedLift, nextLift]
    nextNumber := 7
    pending := [.supervisorCancel 1 5] }

/-- The state after the CANCEL: the boundary's steps end the series DONE, which re-arms it, and open the next lift;
the CANCEL then ends the PENDING series, and the zone is ORDINARY (R64, log entry 30). -/
def seriesGone : State :=
  { seriesCancelled with pending := [] }.settleBookings.command 1 0x29 fun s => s.cancelLift none 5

theorem seriesCancelled_step : step seriesCancelled = .next seriesGone := rfl

theorem seriesCancelled_tablesKept : tablesKept seriesCancelled := by
  have reserved : ∀ z : Zone, (seriesCancelled.zones.get z).all (fun d => d.reservation.all fun k =>
      k == 5 && z == 0) = true := by decide
  have apart : bookingsApart 1000 endedLift nextLift :=
    ⟨by decide, fun _ pending => absurd rfl pending⟩
  refine ⟨by decide, by decide, by decide, by decide,
    List.pairwise_cons.mpr ⟨fun c mem => ?_, List.pairwise_singleton ..⟩, fun z d k record reserves => ?_⟩
  · obtain rfl := List.mem_singleton.mp mem
    exact apart
  · have own := reserved z
    simp only [record, reserves, Option.all_some, Bool.and_eq_true, beq_iff_eq] at own
    obtain ⟨rfl, rfl⟩ := own
    exact ⟨endedLift, List.mem_cons_self .., rfl, nofun, List.mem_singleton.mpr rfl⟩

theorem seriesCancelled_passedHeld : passedHeld seriesCancelled := by
  intro b mem w window z passed
  rcases List.mem_cons.mp mem with rfl | mem
  · cases window
    obtain rfl := List.mem_singleton.mp passed
    exact ⟨⟨.s1, .booked, true⟩, by decide, rfl, rfl⟩
  · obtain rfl := List.mem_singleton.mp mem
    cases window

/-- The next lift is ACTIVE, and its zone is held ORDINARY. -/
theorem seriesGone_next : seriesGone.booking? 6 =
    some { nextLift with
      state := .active { ends := 1060, remaining := 60, extension := none, passed := [0], due := false } } ∧
    seriesGone.holding 0 = some ⟨.s1, .ordinary, true⟩ := by
  decide

theorem seriesGone_not_passedHeld : ¬ passedHeld seriesGone := fun held => by
  obtain ⟨next, zone⟩ := seriesGone_next
  obtain ⟨h, holding, -, kind⟩ := held _ (State.mem_of_booking? next) _ rfl 0 (List.mem_singleton.mpr rfl)
  obtain rfl := Option.some.inj (zone.symm.trans holding)
  cases kind

/-- Refutes O12: its last part takes the zones passed to stay held BOOKED at a step that keeps the bookings that
were PENDING before it. A CANCEL takes the boundary's steps first (log entry 1), so a series in its window can become
PENDING again and be ended within the step; its end frees the zone of the lift that has just opened on it. -/
theorem not_bookingTableKeepsItsForm : ¬ Obligations.BookingTableKeepsItsForm := by
  unfold Obligations.BookingTableKeepsItsForm
  intro h
  obtain ⟨-, -, -, passed, -⟩ := h.2 _ _ seriesCancelled_tablesKept seriesCancelled_step
  refine seriesGone_not_passedHeld (passed seriesCancelled_passedHeld fun b mem pending => ?_).1
  rcases List.mem_cons.mp mem with rfl | mem
  · cases pending
  · obtain rfl := List.mem_singleton.mp mem
    exact Option.isSome_iff_exists.mpr ⟨_, seriesGone_next.1⟩

end Sys2Proof.Machine
end

end
